-- ==== Sys2Proof/Word.lean ====
section
/-! DEFINITION. Words, bytes and the plainest arithmetic of the model. -/

namespace Sys2Proof

/-- A word of the host bus, of a window and of the Refrain engine. -/
abbrev Word := BitVec 16

/-- A byte of a frame or of the retention memory. -/
abbrev Byte := BitVec 8

/-- The instance numbers that the spec uses. -/
abbrev Shelf := Fin 32      -- physical place of a tile, in hop order; the 25th hop and on are never numbered (R3)
abbrev TileNo := Fin 24     -- tile number, as the hub assigns it
abbrev Pos := Fin 4         -- bay position on a tile
abbrev Bay := Fin 96        -- bay number, 4 * tile + position
abbrev Tenant := Fin 4      -- T0 to T3
abbrev VoiceId := Fin 5     -- 0-3 voices T0-T3, 4 voice SYS
abbrev CtxId := Fin 6       -- 0-3 tenants T0-T3, 4 SYS, 5 the debug context
abbrev FeederId := Fin 2    -- FEED_A, FEED_B
abbrev PortId := Fin 2      -- PD_A, PD_B
abbrev TimerId := Fin 16    -- TMR0-TMR15

/-- The retained operand areas of a voice (Table RE-2), in which DATAMEM can strike (R331). -/
inductive DArea
  | q | m | e | t | c | w
deriving DecidableEq, Repr

/-- An uncorrectable word in the on-chip program copy or in a retained area (R331). -/
inductive MemErr
  | prog
  | data (a : DArea)
deriving DecidableEq, Repr

/-- The instruction of a slot, or of CODA, that meets an uncorrectable word (R331): its index, how often execution
reaches it before, and what it meets. -/
structure MemHit where
  idx    : Nat
  passes : Nat := 0
  err    : MemErr
deriving DecidableEq, Repr

/-- The SYS context and voice SYS carry number 4; the debug context carries 5. -/
def ctxSYS : CtxId := 4
def ctxDbg : CtxId := 5
def voiceSYS : VoiceId := 4

/-- Addition that stops at a cap. -/
def satAdd (cap a b : Nat) : Nat := min cap (a + b)

/-- Quotient rounded up. -/
def ceilDiv (a b : Nat) : Nat := if b = 0 then 0 else (a + b - 1) / b

/-- Distance of two numbers. -/
def absDiff (a b : Nat) : Nat := if a ≤ b then b - a else a - b

/-- Two's complement reading and writing of a 16-bit word. -/
def wordOfInt (i : Int) : Word := BitVec.ofInt 16 i

/-- An integer held inside a range. -/
def clampInt (lo hi i : Int) : Int := if i < lo then lo else if hi < i then hi else i

/-- An item of a vector by a plain index. -/
def vget {α : Type} {n : Nat} (v : Vector α n) (i : Nat) (d : α) : α := if h : i < n then v[i] else d

/-- Take `n` items, padding with a default: a fixed layout from a list. -/
def padTo {α : Type} (d : α) : Nat → List α → List α
  | 0, _ => []
  | n + 1, [] => d :: padTo d n []
  | n + 1, x :: xs => x :: padTo d n xs

/-- Put `x` at the tail of a queue that holds at most `cap` items; a full queue keeps the old ones. -/
def pushCap {α : Type} (cap : Nat) (q : List α) (x : α) : List α :=
  if q.length < cap then q ++ [x] else q

/-- Insertion into a sorted list, and the sort by insertion: equal items keep their order. -/
def insertBy {α : Type} (le : α → α → Bool) (x : α) : List α → List α
  | [] => [x]
  | y :: ys => if le x y then x :: y :: ys else y :: insertBy le x ys
def sortBy {α : Type} (le : α → α → Bool) : List α → List α
  | [] => []
  | x :: xs => insertBy le x (sortBy le xs)

/-- A fixed number of like things, changed at one place. -/
def upd {α : Type} {n : Nat} (v : Vector α n) (i : Fin n) (f : α → α) : Vector α n := v.set i (f v[i])

end Sys2Proof
end

