-- ==== Sys2Proof/Machine/PortState.lean ====
section
/-! DEFINITION. The state of one Type-C port with its Power Delivery messaging, its swaps and the Cabinet
Link (chapters 19, 20, 21). Voltages are in mV, currents in mA. Messages are held as what they say, not
as bits. -/

namespace Sys2Proof

/-- Port states (Table TY-3, in code order). -/
inductive TcState
  | disabled | unattached | attachWait | sink | source | tryRole | wet | recovery
deriving DecidableEq, Repr

/-- The power role of a port that is not attached, or the role in an attached state. -/
inductive PRole
  | snk | src
deriving DecidableEq, Repr

/-- Terminations on the CC pins (R476, R479). -/
inductive CcTerm
  | open_            -- none
  | dead             -- the passive dead-battery pull-downs
  | rd
  | rp (lvl : BitVec 2)   -- 1 Default, 2 1.5 A, 3 3.0 A
deriving DecidableEq, Repr

/-- Settings of one port (Tables TY-5, PD-4, SW-9). -/
structure PortSet where
  role     : BitVec 2 := 3
  trysnk   : Bool := true
  rplvl    : BitVec 2 := 3
  vconnen  : Bool := true
  moisten  : Bool := true
  rcs      : BitVec 2 := 1
  pden     : Bool := true
  srci5    : BitVec 6 := 60
  srci9    : BitVec 6 := 60
  uncons   : Bool := false
  srci15   : BitVec 6 := 60
  srci20   : BitVec 6 := 60
  transmax : BitVec 2 := 0
  srcpmax  : BitVec 6 := 30
  holdpmax : BitVec 6 := 15
  snkmask  : BitVec 4 := 15
  snkimax  : BitVec 6 := 60
  prswen   : Bool := true
  vcswen   : Bool := true
  frsrxen  : Bool := true
  frstxen  : Bool := true
  linken   : Bool := true
  frsreq   : BitVec 2 := 3
deriving DecidableEq, Repr

/-- A power data object. Only fixed ones are ever used (R497, R517). -/
structure Pdo where
  fixed : Bool := true
  mv    : Nat := 0
  ma    : Nat := 0
deriving DecidableEq, Repr

/-- A fixed-supply contract. -/
structure Contract where
  mv : Nat := 5000
  ma : Nat := 0
deriving DecidableEq, Repr

/-- Structured VDM commands (Table SW-6, R540, R541). -/
inductive VdmCmd
  | identity | svids | modes (svid : Word) | enter (svid : Word) (pos : Nat) | exit (svid : Word) (pos : Nat)
  | other (svid : Word) (cmd : BitVec 5)
deriving DecidableEq, Repr

/-- SVID, object position and command number of a VDM header. Their values for the standard commands are those of the PD
specification (PRESUMED, log entry 107). -/
def VdmCmd.svid : VdmCmd → Word
  | .identity | .svids => 0xFF00
  | .modes v | .enter v _ | .exit v _ | .other v _ => v
def VdmCmd.pos : VdmCmd → BitVec 3
  | .enter _ n | .exit _ n => BitVec.ofNat 3 n
  | .identity | .svids | .modes _ | .other .. => 0
def VdmCmd.num : VdmCmd → BitVec 5
  | .identity => 1 | .svids => 2 | .modes _ => 3 | .enter .. => 4 | .exit .. => 5 | .other _ n => n

/-- A structured VDM header, version 2.0 (R539); `t`: 0 a request, 1 ACK, 2 NAK. The places of its fields are those of
the PD specification (PRESUMED, log entry 107). -/
def VdmCmd.header (c : VdmCmd) (t : BitVec 2) : BitVec 32 := c.svid ++ (1#1 ++ 1#2 ++ 0#2 ++ c.pos ++ t ++ 0#1 ++ c.num)

/-- The data objects of an ACK (Table SW-6). The places of the ID header's and the product VDO's fields are those of the
PD specification (PRESUMED, log entry 107). -/
def VdmCmd.vdos : VdmCmd → List (BitVec 32)
  | .identity => [0x0440D17C, 0, 0x960000B0]
  | .svids => [0xD17C0000]
  | .modes _ => [0x01000000]
  | .enter .. | .exit .. | .other .. => []

/-- Answers of extended and informational kind (Table PD-2). -/
inductive InfoMsg
  | sourceExt                                   -- VID, PID, XID, firmware, hardware version
  | sinkExt (pdp : Nat)                         -- operational and maximum PDP in W
  | status (temp : Nat) (extPower battery ocp ovp : Bool)
  | manufacturer
  | revision
deriving DecidableEq, Repr

/-- What a port puts on the wire. -/
inductive PdMsg
  | goodCrc
  | sourceCaps (pdos : List Pdo) (drp uncons : Bool)
  | sinkCaps (pdos : List Pdo) (drp higher uncons : Bool) (frs : BitVec 2)
  | request (pos ma : Nat) (mismatch noSuspend : Bool)
  | accept | reject | psRdy | softReset | notSupported
  | prSwap | frSwap | vconnSwap
  | vdm (c : VdmCmd) (hdr : BitVec 32)
  | vdmAck (c : VdmCmd) (hdr : BitVec 32) (vdos : List (BitVec 32))
  | vdmNak (c : VdmCmd) (hdr : BitVec 32)
  | info (m : InfoMsg) (data : List Byte)             -- the answer, or chunk 0 of it
  | chunk (m : InfoMsg) (n : Nat) (data : List Byte)  -- chunk n of an extended answer
  | chunkReq (n : Nat)                                -- Chunk Request of a receiver
  | hardReset
  | bistCarrier
deriving DecidableEq, Repr

/-- A message with the SOP it goes to, its MessageID and its Specification Revision (R497). -/
structure PdOut where
  sop : Fin 3 := 0
  id  : BitVec 3 := 0
  rev : BitVec 2 := 2
  msg : PdMsg := .goodCrc
deriving DecidableEq, Repr

/-- The MessageID counters of one SOP (R504). -/
structure SopCtr where
  tx : BitVec 3 := 0
  rx : Option (BitVec 3) := none
deriving DecidableEq, Repr

/-- Swaps (Tables SW-2 to SW-4). -/
inductive SwapKind
  | pr | vconn | fr
deriving DecidableEq, Repr

/-- Where a swap stands. -/
inductive SwapStep
  | asked           -- the request is out, the answer is awaited
  | accepted        -- the Accept waits for its GoodCRC, or has been received
  | oldOff          -- PR_Swap: the old source waits, opens its FET and discharges
  | oldReady        -- the old source has sent PS_RDY, or the new source awaits it
  | newOn           -- the new source closes its FET
  | newReady        -- the new source has sent PS_RDY, or the old source awaits it
  | signal          -- the Fast Role Swap signal is being driven
  | discharge       -- the initial source discharges to 5.50 V, or the initial sink awaits it
  | frsWait         -- FR_Swap is awaited or has been sent
  | contract        -- the roles have changed; the new contract is still to form
deriving DecidableEq, Repr

/-- A swap in progress. -/
structure SwapRun where
  kind   : SwapKind
  step   : SwapStep
  mine   : Bool           -- the hub requested it
  toSrc  : Bool           -- the hub becomes the source, or the VCONN source
deriving DecidableEq, Repr

/-- An exchange that the hub starts. -/
inductive OwnEx
  | sourceCaps | prSwap (toSrc : Bool) | vconnSwap (toSrc : Bool) | borrow | request | vdm (c : VdmCmd) | exitMode
deriving DecidableEq, Repr

/-- What the port's exchange in progress waits for. -/
inductive Exch
  | idle
  | capsWait                    -- Source_Capabilities out: a Request is expected
  | reqWait                     -- Request out: Accept, Reject or Wait is expected
  | srcTrans                    -- source: Accept out to the GoodCRC of PS_RDY
  | snkTrans                    -- sink: the transition window (R521)
  | softWait                    -- Soft_Reset out: Accept is expected
  | swap                        -- a swap runs
  | vdmWait (c : VdmCmd)        -- a discovery answer is expected
deriving DecidableEq, Repr

/-- A source's voltage transition (R519). -/
inductive SrcMove
  | none | accepted | waiting | moving | ready
deriving DecidableEq, Repr

/-- A hard reset in progress (R526). -/
inductive HrPhase
  | none
  | srcWait        -- 30 ms
  | srcOff         -- discharging, then 0.75 s
  | srcOn          -- VBUS rising again
  | snkWait        -- 1.925 s
deriving DecidableEq, Repr

/-- BIST (Table PD-1). -/
inductive Bist
  | none | carrier | testData
deriving DecidableEq, Repr

/-- The Power Delivery state of a port, which ends with the attach (R498). -/
structure PdSt where
  on       : Bool := false
  sops     : Vector SopCtr 3 := Vector.replicate 3 {}
  out      : Option PdOut := none       -- the message last put on the wire
  await    : Bool := false              -- its GoodCRC is awaited
  sent     : Nat := 0                   -- sendings of it so far
  gcrc     : Option (Fin 3 × BitVec 3) := none   -- the GoodCRC sent last
  exch     : Exch := .idle
  own      : List OwnEx := []           -- exchanges held, not yet started, oldest first
  ownEx    : Bool := false              -- the exchange in progress is the hub's own
  rpNg     : Bool := false              -- Rp is at SinkTxNG
  ngWait   : Bool := false              -- the 18 ms of R508 run
  offered  : List Pdo := []             -- the advertised PDOs
  offFlags : Bool × Bool := (false, false) -- Dual-Role Power and Unconstrained Power as advertised
  capsDue  : Bool := false              -- Source_Capabilities are due after a Soft_Reset (R524)
  capsTries : Nat := 0                  -- failed sendings before the first contract (R514)
  partner  : List Pdo := []             -- the PDOs of the latest Source_Capabilities
  choice   : Option (Nat × Pdo) := none -- what R517 chose of them, with the settings of that moment (R527)
  contract : Option Contract := none
  hadOne   : Bool := false              -- a contract has formed since attach
  next     : Option Contract := none    -- the contract in transition
  reqMism  : Bool := false
  mismatch : Bool := false
  move     : SrcMove := .none
  sameV    : Bool := false              -- old and new voltage are equal
  hrcnt    : Nat := 0
  hr       : HrPhase := .none
  partrev  : BitVec 2 := 0
  seen     : Bool := false              -- an SOP message has arrived since attach
  revBad   : Bool := false              -- no contract until detach (R499)
  noPd     : Bool := false              -- the partner counts as not PD capable
  waitDue  : Bool := false              -- a Request is to be resent after a Wait
  bist     : Bist := .none
  chunkOut : Option (InfoMsg × Nat) := none -- extended message sent, and its next chunk
  chunkIn  : Option (Nat × List Byte) := none -- extended message received: its size, and its bytes so far
  swap     : Option SwapRun := none
  discDue  : Bool := false              -- a contract has formed; discovery starts 100 ms after it (R540)
deriving DecidableEq, Repr

/-- One port. -/
structure Port where
  state    : TcState := .unattached
  role     : PRole := .snk           -- role of the state, or of the toggle
  trySub   : PRole := .snk           -- snk in Try.SNK, src in TryWait.SRC
  tried    : Bool := false           -- Try.SNK has resolved to the source role
  term     : CcTerm := .dead
  orient   : BitVec 2 := 0
  partrp   : BitVec 2 := 0
  ra       : Bool := false           -- Ra seen on the pin that does not carry Rd
  accign   : Bool := false
  wetmask  : BitVec 4 := 0
  leak     : Vector Nat 4 := Vector.replicate 4 0
  vbus     : Nat := 0
  ibus     : Nat := 0
  srcFet   : Bool := false
  snkFet   : Bool := false
  vconn    : Bool := false
  vconnOff : Bool := false           -- VCONN stays off until the next attach (R487)
  dis      : Bool := false
  sbu      : Bool := false           -- the SBU multiplexer is closed
  vset     : Nat := 5000             -- VBUS target
  started  : Bool := false           -- the attach process has started since the last start (R481)
  leaving  : Bool := false           -- detach: discharging to 0.8 V (R484)
  locked   : Bool := false           -- DISABLED after TCLOCK
  trips    : List Nat := []           -- ticks of the last two overcurrent trips, newest first (R485)
  scanning : Bool := false           -- a full scan runs
  scanned  : Bool := false           -- a full scan has completed since the start
  scanDue  : Bool := false           -- a full scan is due that has not begun (R493)
  scanAt   : Nat := 0                -- tick at which the last scan or check ended (R493)
  useRole  : BitVec 2 := 3           -- ROLE and TRYSNK as of the last entry to UNATTACHED (R496)
  useTry   : Bool := true
  useVconn : Bool := true            -- VCONNEN as of the last attach (R496)
  dfp      : Bool := false           -- data role (R528)
  ocp      : Bool := false           -- TCOCP, TCOVP since the last Status
  ovp      : Bool := false
  pd       : PdSt := {}
deriving DecidableEq, Repr

/-- States of the Cabinet Link (Table SW-8, in code order). -/
inductive LState
  | none | entered | agreed | lost
deriving DecidableEq, Repr

/-- The settings that a HELLO carries (Table SW-7). -/
structure Hello where
  ver     : BitVec 8 := 0
  rev     : BitVec 8 := 0
  armed   : Bool := false
  sharen  : Bool := false
  timepri : BitVec 4 := 0
  lepoch  : Word := 0
  shcap   : Nat := 0
  shmin   : Nat := 0
deriving DecidableEq, Repr

/-- Peer messages that the hub sends (Table SW-7). -/
inductive PeerMsg
  | hello (h : Hello)
  | status (mode : Bool) (demand linkbud : Nat) (lepoch : Word)
  | split (ll lf : Nat)
  | ack (seq : BitVec 8) (res : BitVec 8)
  | time (ms : BitVec 64)
deriving DecidableEq, Repr

/-- A SPLIT or HELLO that waits for its ACK (R544). -/
structure PeerOut where
  seq   : BitVec 8
  msg   : PeerMsg
  tries : Nat := 1
deriving DecidableEq, Repr

/-- The Cabinet Link outside the committed state (R540 to R554). -/
structure Link where
  active   : Bool := false            -- the peer channel is open
  port     : PortId := 0
  leader   : Bool := false
  partver  : BitVec 8 := 0
  partrev  : BitVec 8 := 0
  peerHold : Bool := false            -- PEERMODE
  peerFrs  : Bool := false            -- CAPS bit 0 of the peer
  peer     : Option Hello := none     -- the HELLO received and acknowledged
  mineAck  : Bool := false            -- the hub's HELLO has been acknowledged
  lepoch   : Word := 0
  seq      : BitVec 8 := 0
  lastAck  : Option (BitVec 8) := none
  hello    : Option PeerOut := none
  split    : Option PeerOut := none
  ll       : Nat := 0                 -- the split in force at the leader, or last received
  lf       : Nat := 0
  haveSplit : Bool := false
  riseDue  : Option Nat := none       -- the leader's rise that waits for an ACK
  mine     : Nat := 0                 -- the hub's part of the split in force
  peerDemand : Nat := 0
  holdRun  : Nat := 0                 -- STATUS frames in a row that showed HOLDOVER
  forgot   : Bool := false            -- FORGET written since the last loss
  master   : Bool := false            -- LINKSTAT.TIMEMASTER
  out      : Option (List Byte) := none -- the frame sent last (R543)
  statIn   : Bool := false            -- a STATUS has been received on this link
  heard    : Nat := 0                 -- tick of the last valid frame, and of the last STATUS and TIME sent (R543, R544)
  statusAt : Nat := 0
  timeAt   : Nat := 0
deriving DecidableEq, Repr

end Sys2Proof
end

