-- ==== Sys2Proof/Machine/PowerState.lean ====
section
/-! DEFINITION. The state of the clocks, the feeders, the keeper, the battery, the latch, the power
modes, the staged start, the watchdog and the coda slots (chapters 02, 15, 16, 17, 18). Voltages are in
mV, currents in mA, times in ticks of 1 ms unless a comment says otherwise. -/

namespace Sys2Proof

/-- The crystal oscillator (R37 to R43). -/
inductive Xtal
  | stopped | running | qualified
deriving DecidableEq, Repr

/-- A calibration of the LF RC in progress (R52). -/
inductive Calib
  | none | normal | presleep
deriving DecidableEq, Repr

/-- The clocks and the time counters outside the committed state. -/
structure Clock where
  srcRc    : Bool := true           -- CLKSTAT.SRC: 1 for the RC
  slew     : Bool := false          -- CLKSTAT.SLEW
  slewRc   : Bool := false          -- the reference a slew moves to
  xtalfail : Bool := false
  lffail   : Bool := false
  elvalid  : Bool := false
  xtal     : Xtal := .running
  retry    : Bool := false          -- the crystal is being requalified (R43, R51)
  noTry    : Bool := false          -- the crystal is not tried again (R40)
  calib    : Calib := .none
  lfcal    : BitVec 22 := 0x2EE000
  elapsed  : BitVec 64 := 0         -- whole SLOW periods
  elfrac   : BitVec 24 := 0
  elerr    : Nat := 0               -- ms
  outage   : Option Nat := none     -- ELAPSED at the last committed beat; the advance is due (R57, R58)
  outErr   : Nat := 0               -- bound of the outage in ms
  unknown  : Bool := true           -- elapsed time is unknown (R56), until a measure is committed
  cont     : Bool := false          -- ELAPSED has continued from its committed value since power-on (Table HR-3)
  calRc    : Bool := true           -- the RC was the reference at the last calibration (R55)
  lfRun    : Nat := 0               -- LF cycles since the root stopped that are not yet in ELAPSED
  ticks    : Nat := 0               -- tick beats counted since Muster began
  beatTick : Nat := 0               -- `ticks` at the last measure beat
  tick     : Nat := 0               -- tick within the measure
  endP     : Nat := 10              -- ticks of the measure that ended at the last measure beat
deriving DecidableEq, Repr

/-- Feeder states (Table KP-2, in code order). -/
inductive FState
  | off | wait | ramp | on | retry | lockout
deriving DecidableEq, Repr

/-- Settings of one feeder (Table KP-4). -/
structure FeedSet where
  en   : Bool := true
  rsns : BitVec 4 := 2
  vlim : BitVec 2 := 1
  plim : BitVec 2 := 1
  plt  : BitVec 4 := 4
  ramp : BitVec 2 := 2
  fcap : BitVec 14 := 6200
deriving DecidableEq, Repr

/-- A piece of a tick in which a feeder's gate is driven: how long, V_SNS in µV, VDS in mV. -/
structure FeedObs where
  us   : Nat := 0
  vsns : Nat := 0
  vds  : Nat := 0
deriving DecidableEq, Repr

/-- VLIM in µV, PLIM in W, RSNS in µΩ, PLT in µs (Table KP-4). -/
def FeedSet.vlimUv (g : FeedSet) : Nat :=
  if g.vlim = 0 then 25000 else if g.vlim = 1 then 37500 else if g.vlim = 2 then 50000 else 75000
def FeedSet.plimW (g : FeedSet) : Nat := 250 * 2 ^ g.plim.toNat
def FeedSet.rsnsUo (g : FeedSet) : Nat := 250 * g.rsns.toNat
def FeedSet.pltUs (g : FeedSet) : Nat := 500 * g.plt.toNat

/-- The limit condition (R403): the current or the power has reached its limit. -/
def FeedSet.limited (g : FeedSet) (o : FeedObs) : Bool :=
  decide (g.vlimUv ≤ o.vsns) || decide (1000 * g.plimW * g.rsnsUo ≤ o.vds * o.vsns)

/-- One feeder (R401 to R411). -/
structure Feeder where
  state   : FState := .off
  att     : Nat := 0
  revblk  : Bool := false
  cause   : BitVec 2 := 0           -- last FEEDFLT cause: 1 PLT, 2 FAST, 3 RAMPTO
  inqual  : Bool := false
  use     : FeedSet := {}           -- the settings taken up
  plt     : Nat := 0                -- PLT, in µs (R404)
  pltGap  : Nat := 0                -- how long the limit condition has been absent, in µs
  clean   : Nat := 0                -- time in ON without the limit condition, in µs (R407)
  rampUs  : Nat := 0                -- time in RAMP, and how long VDS has been below 0.30 V (R402)
  lowUs   : Nat := 0
  retryT  : Nat := 0                -- tick beats since the failure (Table KP-2)
  onT     : Nat := 0                -- tick beats in ON without a break (R436)
  lim     : Bool := false           -- the limit condition, as last seen (R403)
deriving DecidableEq, Repr

/-- Battery states (BATST codes). -/
inductive Batt
  | unknown | present | low | missing | shorted
deriving DecidableEq, Repr

/-- Where battery detection stands (R422). -/
inductive BatStep
  | idle
  | opened       -- step 2 done; the thermistor and the voltage are to be read
  | probing      -- step 5: 100 mA into the battery
  | charging     -- LOW: the 100 mA keep flowing
deriving DecidableEq, Repr

/-- The keeper (R412 to R424, R432, R457). -/
structure Keeper where
  src      : BitVec 3 := 0          -- KEEPSTAT.SRC
  pendSrc  : Option (BitVec 3) := none -- the switch that closes after the break
  qual     : Vector Bool 4 := Vector.replicate 4 false  -- FEED_A, FEED_B, PD_A, PD_B
  iout     : Nat := 0               -- output current of the buck, and the one before a break (R414)
  wasOut   : Nat := 0
  qualT    : Vector Nat 4 := Vector.replicate 4 0  -- tick beats for which each source has stayed qualified (R413)
  buck     : Bool := false
  regulator : Bool := false         -- the start-up regulator charges VKEEP (R457)
  hot      : Bool := false
  batst    : Batt := .unknown
  batsw    : Bool := false          -- the battery switch is closed
  bscont   : Bool := false          -- latch flag of R460
  step     : BatStep := .idle
  restTicks : Nat := 0              -- ticks since the last keeper rest began, and whether one runs (R222)
  restSched : Nat := 0              -- ticks since the last rest was due: PPER apart (R298)
  resting  : Bool := false
  probed   : Bool := false          -- the battery has been probed since PRESENT of step 1
  trickle  : Bool := true           -- safe trickle (R420)
  target   : Nat := 100             -- battery target
  vlimit   : Nat := 10000
  inlim    : Bool := false
  outlim   : Bool := false
  ibat     : Int := 0
  bat      : Nat := 0
  vkeep    : Nat := 0
  iin      : Nat := 0
  kntc     : Nat := 0               -- ratio * 16384
  openRun  : Nat := 0               -- beats with KNTC at or above 0.975 (R424)
  shutRun  : Nat := 0               -- beats with KNTC below 0.975 while MISSING (R423)
  preTicks : Nat := 0               -- time LOW has been in PRECHG (R422)
  shortT   : Nat := 0               -- tick beats since SHORTED was found or looked for again (R423)
deriving DecidableEq, Repr

/-- The button reset (R427). -/
inductive BtnReset
  | none
  | preparing     -- the hub has been asked to prepare
  | cut           -- the switch is open, VKEEP is pulled down
deriving DecidableEq, Repr

/-- The battery switch latch with the button and SHIP (R425 to R430). -/
structure Latch where
  ship     : Bool := false
  shipDue  : Bool := false          -- an accepted SHIPCTL waits for R374
  pressed  : Bool := false
  counted  : Bool := true           -- the button has been released since the last counted hold
  breset   : BtnReset := .none
  ready    : Bool := false          -- the hub's ready signal of R427
deriving DecidableEq, Repr

/-- Modes (R433). -/
inductive Mode
  | operate | holdover | dormant
deriving DecidableEq, Repr

/-- DORMANT entry (Table PM-3). -/
inductive DormStep
  | none
  | calib         -- step 2
  | journal       -- step 3
  | ports         -- step 4 done; step 5 at the next beat
deriving DecidableEq, Repr

/-- The mode with its triggers (R434 to R446). -/
structure ModeSt where
  mode      : Mode := .operate
  wakecause : BitVec 3 := 0
  dormref   : BitVec 3 := 0
  holdTick  : Nat := 0              -- tick of entry into HOLDOVER
  doorTick  : Nat := 0              -- tick of the later of that entry and the last door edge
  calOk     : Bool := false         -- the pre-sleep calibration has passed, and a slew is waited for
  exitDue   : Bool := false         -- a feeder has been ON for 200 ms (R436)
  lowFrom   : Option Nat := none    -- tick of the first of the beats at which VKEEP has stayed below VDORM (R439)
  dorm      : DormStep := .none
  trigger   : BitVec 2 := 0         -- 1 request, 2 hold time, 3 low node
  reqDue    : Bool := false         -- DORMREQ accepted, to be evaluated at the beat
  holdDue   : Bool := false         -- HOLDDORM has passed
  lowDue    : Bool := false         -- VKEEP below VDORM for 1 s
  holdUsed  : Bool := false         -- trigger 2 has been used or refused
  lowUsed   : Bool := false
  holdRef   : BitVec 3 := 0         -- why the last use of trigger 2 was refused; 0 when it was not (R440)
  lowRef    : BitVec 3 := 0
  tilepwr   : Bool := false         -- TILEPWR_EN
deriving DecidableEq, Repr

/-- Start stages (R450). -/
inductive Stage
  | held            -- held in reset
  | tacet | recall | muster | tutti
  | off             -- unpowered, in SHIP or below the always-on level
deriving DecidableEq, Repr

/-- The staged start (R450 to R472). -/
structure Start where
  stage     : Stage := .tacet
  cause     : BitVec 4 := 1         -- RSTCAUSE
  pfail     : Bool := false         -- held by a PFAIL until VKEEP recovers (R375)
  isDorm    : Bool := false         -- the root is stopped in DORMANT
  warm      : Bool := false
  imgvalid  : Bool := false
  fullver   : Bool := false
  batskip   : Bool := false
  mustto    : Bool := false
  safestart : Bool := false
  loopcnt   : BitVec 2 := 0
  safeDue   : Bool := false         -- the next start is a safe start (R472)
  profile   : Bool := false         -- strap levels as sampled (R8)
  lockdef   : Bool := false
  pinProf   : Bool := false         -- strap pins
  strapDue  : Bool := true          -- they are to be sampled in Tacet after a power-on reset (R8)
  pinLock   : Bool := false
  meas      : Nat := 0              -- measure beats of this Muster or Tutti
  tuttiTick : Nat := 0              -- tick of the first Tutti beat
  sinceT    : Nat := 0              -- SLOW periods since Tacet began, to the last stage that has ended (R455)
  ccOff     : Bool := false         -- the Tacet removal of CC terminations runs (R456)
  rstDue    : Bool := false         -- an accepted RSTCTL waits for the journal (R470)
  mustDone  : Bool := false         -- Muster has lasted MUSTMAX (R466)
  recalled  : Bool := false         -- Recall has ended (R461)
deriving DecidableEq, Repr

/-- One kick kept for the coda record: MCOUNT low 16 bits and microseconds (Table WD-2). -/
structure Kick where
  mc : Word := 0
  us : Word := 0
deriving DecidableEq, Repr

/-- The system watchdog and the trap (R387 to R398). -/
structure Watchdog where
  en       : Bool := false
  per      : BitVec 4 := 0
  clksel   : Bool := false
  dbgfrz   : Bool := false
  keyB     : Bool := false          -- NEXTKEY
  period   : Nat := 8192            -- ms in force
  count    : Nat := 0               -- SLOW periods; PIPE/3072 counts the same time (R395)
  counting : Bool := false
  trap     : Bool := false
  cause    : BitVec 4 := 0          -- CODACAUSE
  hard     : Bool := false          -- the hard timer runs
  hardT    : Option Nat := none     -- tick beats since the trap; none where it fell in no tick
  coda     : Bool := false          -- CODA runs
  codaRan  : Bool := false          -- CODA started after this trap
  codaFlt  : Bool := false          -- CODA faulted before a SNAP
  written  : Bool := false          -- a record has been written since the trap
  snapped  : Bool := false          -- CODA has executed a SNAP (R349)
  header   : List Byte := []        -- what the record keeps of the instant of the trap
  kicks    : List Kick := []        -- last 16, oldest first
  recDue   : Bool := false          -- the hub's own record is due (R263, R393)
  recAt    : Nat := 0               -- µs from the trap at which it became due
  recWait  : Bool := false          -- CODA's record has met a journal in progress (R263)
  kicked   : Bool := false          -- a kick in a stage that has no ticks (R388)
  lapsed   : Bool := false          -- CODA's budget has ended while its SNAP waits (R392)
deriving DecidableEq, Repr

end Sys2Proof
end

