-- ==== Sys2Proof/Machine/TileState.lean ====
section
/-! DEFINITION. The ring's frames and the state of one PLX9604 tile: four bay channels, their
detection and SMBus masters, their I/O, and the tile's own clock, supplies, settings and telemetry
(chapters 03, 04, 05, 06). Electrical quantities are in the ADC's units of Table BT-3. -/

namespace Sys2Proof

/-- One bay's record in the CMD frame (Table RG-4). -/
structure BayRec where
  mode    : BitVec 2 := 0
  lock    : BitVec 2 := 0
  lampA   : BitVec 2 := 0
  lampB   : BitVec 2 := 0
  clrflt  : Bool := false
  edgeseq : BitVec 3 := 0
  vset    : BitVec 12 := 0
  iset    : BitVec 9 := 5
  restat  : BitVec 7 := 127
  lkpulse : BitVec 8 := 0
deriving DecidableEq, Repr

/-- One tile's block in the CMD frame (R126): TFLAGS, then four bay records. -/
structure TileBlock where
  tflags : BitVec 8 := 0
  recs   : Vector BayRec 4 := Vector.replicate 4 {}
  tioVal : BitVec 4 := 0      -- merged TIO outputs (Table CN-6); the spec gives them no byte of the frame
  tioDrv : BitVec 4 := 0      -- the pins for which some source gives an order
  tioIn  : Bool := true       -- the block of an absent number or of a hold frame: every pin an input
deriving DecidableEq, Repr

/-- The CMD frame (R126, Table RG-3). Only the first NTILES blocks travel. -/
structure CmdFrame where
  seq    : BitVec 8 := 0
  epoch  : BitVec 16 := 0
  mcount : BitVec 16 := 0
  ntiles : Nat := 1
  rpt    : Bool := false
  blocks : Vector TileBlock 24 := Vector.replicate 24 {}
deriving DecidableEq, Repr

/-- One bay's record in the TEL slot (Table RG-6). -/
structure TelBay where
  restv    : Bool := false
  isocl    : Bool := false
  vout     : Nat := 0           -- 1.25 mV
  att      : Nat := 0
  iout     : Nat := 0           -- 0.3125 mA
  proberes : Nat := 0
  ntc      : Nat := 0           -- ratio * 16384
  dropout  : Bool := false
  fold     : Bool := false
  ovp      : Bool := false
  therm    : Bool := false
  oclock   : Bool := false
  preshort : Bool := false
  revpol   : Bool := false
  cmdrej   : Bool := false
  door     : Bool := false
  lkshort  : Bool := false
  lkopen   : Bool := false
  lampfltA : Bool := false
  lampfltB : Bool := false
  smbflt   : Bool := false
  dcnt     : Nat := 0
  edgeack  : BitVec 3 := 0
  auxsel   : BitVec 4 := 0
  aux      : BitVec 17 := 0
deriving DecidableEq, Repr

/-- A TEL slot as its tile fills it (Table RG-5); an EMPTY slot is the absence of one. -/
structure TelSlot where
  tileno  : Nat := 0
  safe    : Bool := false
  clkhold : Bool := false
  adcfail : Bool := false
  vinlow  : Bool := false
  vinov   : Bool := false
  cmdok   : Bool := false
  beatfw  : Bool := false
  ackseq  : BitVec 8 := 0
  epochlo : BitVec 8 := 0
  bays    : Vector TelBay 4 := Vector.replicate 4 {}
  vin     : BitVec 8 := 0
  vlog    : BitVec 8 := 0
  die     : BitVec 8 := 0
  tio     : BitVec 8 := 0
deriving DecidableEq, Repr

/-- A SHED set (Table RG-8): the two data bytes after K23.7. -/
structure ShedSet where
  d1 : BitVec 8 := 0
  d2 : BitVec 8 := 0
deriving DecidableEq, Repr

/-- An SVC frame (R144) with the bytes that a write carries or a read is to bring back. -/
structure SvcFrame where
  sseq   : BitVec 8 := 0
  tile   : TileNo := 0
  write  : Bool := true
  addr   : BitVec 16 := 0
  len    : Nat := 1
  data   : List Byte := []
  status : BitVec 8 := 0        -- 0x00 none answered, 0x01 done, 0x02 rejected, 0x03 CRC, 0x04 ORDER
deriving DecidableEq, Repr

/-- One conversion set of a bay, in the units of Table BT-3. -/
structure BayAdc where
  vout : Nat := 0
  iout : Nat := 0
  ntc  : Nat := 0
  id   : Nat := 0
  tj   : Nat := 0               -- (°C + 50) * 64
deriving DecidableEq, Repr

/-- The tick means of one tile (R79, R256): what the ADC found in the tick that ends at the beat. -/
structure TileAdc where
  bays : Vector BayAdc 4 := Vector.replicate 4 {}
  vin  : Nat := 0               -- 2 mV
  vlog : Nat := 0               -- 2 mV
  die  : Nat := 0               -- (°C + 50) * 64
  ref  : Nat := 0               -- 0.25 mV: the reference check (R260)
deriving DecidableEq, Repr

/-- Samples of one quantity, added up and counted. -/
structure Acc where
  sum : Nat := 0
  cnt : Nat := 0
deriving DecidableEq, Repr

/-- What a channel's output did for a while: the comparators of R70 see it without the ADC. -/
structure OutSample where
  us   : Nat := 0               -- how long
  vout : Nat := 0               -- 1.25 mV
  iout : Nat := 0               -- mA
  peak : Nat := 0               -- cycle-by-cycle peak current, mA
deriving DecidableEq, Repr

/-- What a tile measured in the tick that ends at a beat: the ADC's samples, one a microsecond in slot
order (R256), and the outputs of its four channels. -/
structure TickObs where
  samples : List (BitVec 14) := []
  outs    : Vector (List OutSample) 4 := Vector.replicate 4 []
deriving DecidableEq, Repr

/-- The identification data of a pack (Table PK-4, Table WR-6). -/
structure Ident where
  chem    : List Byte := []     -- DeviceChemistry, up to 8 characters
  desV    : Word := 0
  desC    : Word := 0
  serial  : Word := 0
  name    : List Byte := []     -- ManufacturerName, up to 16 characters
  idvalid : BitVec 6 := 0       -- bit 0 smart pack; bits 1-5 the five reads
deriving DecidableEq, Repr

/-- A pass-through transaction in a bay's mailbox (R109, Table WR-4). -/
structure PtReq where
  proto : BitVec 3 := 0
  blen  : BitVec 5 := 0
  cmd   : BitVec 8 := 0
  data  : Word := 0
  buf   : List Byte := []
deriving DecidableEq, Repr

/-- What the bay master has on the bus (R265). -/
inductive SmbTx
  | recovery                       -- nine clocks and a stop (R117)
  | statusAfterLoop                -- the BatteryStatus read of R112
  | passThrough
  | ident (i : Fin 5)              -- Table PK-4, identification
  | poll (i : Fin 7)               -- Table PK-4, poll round
  | loopback                       -- R111
deriving DecidableEq, Repr

/-- How a pass-through ended, until the telemetry reports it (R138). -/
inductive PtRes
  | none
  | word (w : Word)                -- a Read Byte or Read Word that succeeded
  | block                          -- a block transfer or a write that succeeded
  | fail (cause : BitVec 3)        -- FCAUSE of Table WR-4
deriving DecidableEq, Repr

/-- What a transaction that must be repeated waits for. -/
inductive SmbWait
  | nack        -- 1 ms after a NACK or PEC error (R108)
  | bus         -- 50 us of bus free after a lost arbitration (R115)
  | ready       -- the wait has passed
deriving DecidableEq, Repr

/-- A transaction and the retries that it has used. -/
structure SmbJob where
  tx        : SmbTx
  nackTried : Bool := false      -- the one retry of R108 is used
  arbTries  : Nat := 0           -- retries of R115 used
deriving DecidableEq, Repr

/-- The bay SMBus master and slave (R106 to R117, R661). -/
structure BayMaster where
  idDone     : Bool := false
  ident      : Ident := {}
  identNext  : Option (Fin 5) := none     -- identification reads still to run
  pollNext   : Option (Fin 8) := none     -- 0-6 poll reads, 7 the loopback
  readAfter  : Bool := false              -- the R112 read is due
  recoverDue : Bool := false              -- bus recovery is due (R117)
  identOn    : Bool := false              -- the identification reads of a restart have not all ended
  cur        : Option SmbJob := none      -- the transaction in progress
  waiting    : List (SmbJob × SmbWait) := [] -- transactions to be repeated, oldest first
  words      : Vector Word 7 := Vector.replicate 7 0
  wordNew    : Vector Bool 7 := Vector.replicate 7 false
  alarms     : Vector Word 3 := Vector.replicate 3 0
  alarmNew   : Vector Bool 3 := Vector.replicate 3 false
  wordFresh  : Vector Bool 7 := Vector.replicate 7 false   -- read since the last latch
  alarmFresh : Vector Bool 3 := Vector.replicate 3 false   -- accepted since the last latch
  pollTicks  : Nat := 0                   -- ticks until the next poll round may start (POLLPER)
  almcnt     : Nat := 0
  arbloss    : Nat := 0
  smbto      : Bool := false
  smbstuck   : Bool := false
  nack3      : Bool := false
  nackRun    : Nat := 0                   -- consecutive transactions that ended in NACK
  statChg    : Bool := false              -- IDDONE or NACK3 changed since SMBSTAT was carried
  lbFails    : Nat := 0
  lbPasses   : Nat := 0
  smbflt     : Bool := false
  mailbox    : Option PtReq := none       -- the pass-through the tile holds
  ptRes      : PtRes := .none
  ptCause    : BitVec 3 := 0              -- FCAUSE of the pass-through that failed last
  ptBuf      : List Byte := []
  presRun    : Nat := 0                   -- the tile's own presence runs (R661)
  missRun    : Nat := 0
  wasMissing : Bool := false
  idrOnce    : Bool := false              -- IDRATIO is due after a new pack (R138)
  auxTurn    : Fin 3 := 0                 -- IDRATIO, TJ, SMBSTAT in turn
deriving DecidableEq, Repr

/-- The lock driver of a bay (R84). -/
inductive LockDrv
  | off
  | full        -- fully on, for 200 ticks
  | hold (duty : Nat)   -- at the duty LKHOLD, in percent
deriving DecidableEq, Repr

/-- The tile-held settings of one bay (R95, R116, R129): staged and active copies exist. -/
structure BayTileCfg where
  smben   : Bool := true
  smbspd  : Bool := false
  pecen   : Bool := false
  loopen  : Bool := true
  pollper : BitVec 3 := 1
  ramp    : BitVec 2 := 1
  plt     : BitVec 4 := 4
  lkhold  : BitVec 2 := 0
  restlen : BitVec 6 := 20
deriving DecidableEq, Repr

/-- The tile-held settings of a tile. -/
structure TileCfg where
  bays     : Vector BayTileCfg 4 := Vector.replicate 4 {}
  tiocfg   : BitVec 12 := 0x924     -- pin k at 3k+2:3k: TIOMODE, DEBOUNCE
  adcboost : Bool := true
deriving DecidableEq, Repr

/-- One bay channel with its I/O (R62 to R87, R99, R101, R199 to R201). -/
structure Chan where
  order      : BayRec := {}              -- the order in force
  edgeSeq    : BitVec 3 := 0             -- last EDGESEQ applied (R132)
  shedS      : Option (BitVec 8) := none -- S of R135 while a shed holds the bay
  epHoldOff  : Bool := false             -- PULSE taken as OFF in epoch hold (R171)
  pulsing    : Bool := false             -- the buck switches
  isocl      : Bool := false             -- isolation switch closed
  vStart     : Nat := 0                  -- VOUT at step 1 of R67
  use        : BayTileCfg := {}          -- the settings in effect: R95 at a pulse start, R116 at a measure beat
  tj         : Nat := 0                  -- junction as the foldback last saw it, (°C + 50) * 64
  isetLim    : Nat := 50                 -- current limit in mA under foldback (R76)
  rampI      : Nat := 0                  -- how far the ramp of R67 has come, in 0.5 mA
  plt        : Nat := 0                  -- PLT, in microseconds (R71)
  pltGap     : Nat := 0                  -- how long the limit condition has been absent
  clean      : Nat := 0                  -- how long the pulse has run without it (R75)
  dropout    : Bool := false
  fold       : Bool := false
  ovp        : Bool := false
  therm      : Bool := false
  oclock     : Bool := false
  preshort   : Bool := false
  revpol     : Bool := false
  cmdrej     : Bool := false
  att        : Nat := 0                  -- attempt counter
  retryWait  : Bool := false             -- the 1.00 s wait of R73 runs
  retryTicks : Nat := 0                  -- ticks of it passed
  retryDue   : Bool := false             -- a retry fell due in a rest
  restIn     : Option Nat := none        -- ticks until the scheduled rest (R129)
  rest       : Option Nat := none        -- ticks left of the rest in progress
  winDue     : Bool := false             -- a rest measurement is still to come
  winOpen    : Option Int := none        -- microseconds from the last beat to the window's opening (R200)
  winV       : Acc := {}                 -- samples that the window has taken so far (R258)
  winN       : Acc := {}
  restMean   : Option (Nat × Nat) := none -- rest means of VOUT and NTC, not yet reported
  probing    : Bool := false
  probeWait  : Bool := false             -- a probe ordered, or cut short, in epoch hold has not run (R171)
  proberes   : Nat := 0
  probeRise  : Nat := 0                  -- 0.1 ms
  probetDue  : Bool := false
  door       : Bool := true              -- accepted door level
  dcnt       : Nat := 0
  doorDue    : Bool := false             -- a DOOREDGE item is not yet reported (R138)
  doorTick   : Nat := 0                  -- tick of the beat before the latest edge
  doorUs     : Nat := 0                  -- microseconds after that beat
  unlocked   : Bool := false             -- the lock level in force
  pulseLeft  : Option Nat := none        -- ticks left of an unlock pulse
  lockDrv    : LockDrv := .off
  lockTicks  : Nat := 0
  lkshort    : Bool := false
  lkopen     : Bool := false
  lampAOn    : Bool := false             -- open-drain outputs as driven
  lampBOn    : Bool := false
  lampfltA   : Bool := false
  lampfltB   : Bool := false
  adc        : BayAdc := {}
  smb        : BayMaster := {}
deriving DecidableEq, Repr

/-- Clock recovery of a tile (R46 to R49). -/
inductive TileClk
  | unlocked
  | locked
  | holdover
deriving DecidableEq, Repr

/-- One tile, at its place in hop order. -/
structure Tile where
  inReset    : Bool := true                 -- VLOG below UVLO or TILERST# low (R89, R90)
  lksafePin  : Bool := false                -- the LKSAFE strap pin
  lksafe     : Bool := false                -- as sampled on leaving reset (R82)
  uid        : BitVec 64 := 0               -- factory-set (Table RM-1)
  rev        : BitVec 8 := 0xA2
  proto      : BitVec 8 := 0x02
  bypass     : Bool := true                 -- ring bypass closed (R90)
  clk        : TileClk := .unlocked
  phaseOk    : Bool := false                -- canon phase and alignment kept (R49)
  goodBeats  : Nat := 0                     -- consecutive error-free MBEATs (R154)
  period     : Nat := 10                    -- measure period the tile has taken (R175)
  number     : Option TileNo := none
  numBeat    : Bool := false                -- a measure beat has passed since the number was taken
  held       : Bool := false                -- HELD of Table RM-1: a second one has passed (Table RM-8)
  safe       : Bool := true                 -- tile SAFE
  dieHot     : Bool := false                -- the die has reached 155 °C since the tile last left SAFE (Table BT-7)
  adcfail    : Bool := false
  refBad     : Nat := 0                     -- ticks in a row with the reference check out (R80)
  vinlow     : Bool := false
  vinov      : Bool := false
  beatfw     : Bool := false
  noCmd      : Nat := 0                     -- measure beats in a row without a valid CMD frame
  cmdok      : Bool := false                -- valid CMD frame with this measure's SEQ received
  cmdHeard   : Bool := false                -- one received since the last received measure beat (R92)
  accepted   : Option CmdFrame := none      -- the CMD frame to apply at tick 1
  ackseq     : BitVec 8 := 0
  rxCmd      : Option (BitVec 8) := none    -- SEQ of the CMD frame being received
  mcount     : BitVec 16 := 0               -- the tile's measure count (R175)
  tick       : Nat := 0
  epoch      : BitVec 16 := 0               -- epoch held
  pendEpoch  : Option (BitVec 16) := none   -- complete staged set's PENDEPOCH
  epochHold  : Bool := false
  active     : TileCfg := {}
  staged     : TileCfg := {}
  lastSseq   : Option (BitVec 8) := none    -- SSEQ of the write last completed (R145)
  telSeen    : Bool := false                -- a TEL frame has passed (R155)
  telTop     : Option Nat := none           -- highest slot FILLED as it passed
  latch      : TelSlot := {}
  lat        : Nat := 1856                  -- through latency, 1/64 RING period
  dlyGoal    : Nat := 0                     -- DLY written by the hub
  dly        : Nat := 0                     -- wait applied
  boostTurn  : Pos := 0                     -- where the turn of the boost frames stands (R257)
  adc        : TileAdc := {}
  tioLevel   : Vector Bool 4 := Vector.replicate 4 false
  tioEdge    : Vector Bool 4 := Vector.replicate 4 false
  tioUse     : BitVec 12 := 0x924           -- TIOMODE and DEBOUNCE as the last pulse start took them (R95)
  tioOrd     : Vector (Option Bool) 4 := Vector.replicate 4 none -- the level ordered
  tioIn      : Bool := true                 -- tile SAFE or an order of input: no pin is driven
  tioOut     : Vector Bool 4 := Vector.replicate 4 false  -- the level driven
  tioDrive   : Vector Bool 4 := Vector.replicate 4 false  -- pin driven as an output
  chans      : Vector Chan 4 := Vector.replicate 4 {}
deriving DecidableEq, Repr

/-- A message that a pack sends as master (R110), with its PEC byte when it has one. -/
inductive PackMsg
  | hostNotify (dev : Byte) (w : Word) (pec : Option Byte)   -- to 0x08
  | writeWord (cmd : Byte) (w : Word) (pec : Option Byte)    -- to 0x09
  | other (addr : Byte)                                      -- to an address at which the slave does not answer
deriving DecidableEq, Repr

/-- How a bay-master transaction ended. -/
inductive SmbEnd
  | ok (w : Word) (blk : List Byte) (pec : Byte)   -- acknowledged; what a read returned, and the PEC byte after it
  | nack
  | loopDiffers                                    -- a loopback the slave received with different data
deriving DecidableEq, Repr

end Sys2Proof
end

