-- ==== Sys2Proof/Syntax.lean ====
section
/-! DEFINITION. The commands that the block takes, one constructor per row of the opcode table. Each
constructor's comment names the rule that the table gives for the row. An operand carries what comes
from outside the block: who writes and what, which place an event happens at, what a measurement
found. -/

namespace Sys2Proof

/-- The keeper's telemetry at a measure beat (R418): mV, mA, and the KNTC ratio times 16384; with the output current of
its buck (R414), and VBUS and the current of each port (R496). -/
structure KeepAdc where
  bat   : Nat := 0
  vkeep : Nat := 0
  ibat  : Int := 0
  iin   : Nat := 0
  iout  : Nat := 0
  kntc  : Nat := 0
  inlim  : Bool := false     -- where a reading lies within the tolerance of limit 1 or 2 (R416): that limit binds
  outlim : Bool := false
  vbus   : Vector Nat 2 := Vector.replicate 2 0
  ibus   : Vector Nat 2 := Vector.replicate 2 0
deriving DecidableEq, Repr

/-- What happens at the hub in a tick besides its commands: grant records that become uncorrectable (R255), what
the feeders carry (R403), and the rising edges on each TMRIO pin (Table TC-3). -/
structure HubTick where
  grants : List Bay := []
  feeds  : Vector (List FeedObs) 2 := Vector.replicate 2 []
  edges  : Vector Nat 4 := Vector.replicate 4 0
deriving DecidableEq, Repr

/-- The line of a journal that fails its check twice (R380): the void, a line of the bank, or a line of the commit
word. -/
inductive JLine
  | void
  | data (i : Fin 12288)
  | word
deriving DecidableEq, Repr

/-- How far transfers had come when the power failed (R371, R372): lines written by the journal or the coda
record that holds the port, whether a record was being written, and lines moved by the host's transfer. -/
structure CutObs where
  lines : Nat := 0
  snap  : Bool := false
  host  : Nat := 0
deriving DecidableEq, Repr

/-- What travels on the ring, for a symbol error to damage. -/
inductive RingItem
  | cmd | telHead | tel (k : Fin 24) | svc | echoHead | echo (k : Fin 24)
deriving DecidableEq, Repr

/-- A word that the Loader finds uncorrectable (R198, R274): a context's order entry for a bay or a pin, or
a word of a bay. -/
inductive OrdBad
  | level (c : Fin 5) (b : Bay)
  | pin (c : Fin 5) (t : TileNo) (k : Fin 4)
  | word (b : Bay)
deriving DecidableEq, Repr

/-- Wake sources (Table PM-4, with the codes of WAKECAUSE). -/
inductive WakeSrc
  | feed | pdvbus | btn | timer
  | tmrio (rising : Bool)
  | host
deriving DecidableEq, Repr

/-- What Recall finds in the memory and outside the hub (R365, R366, R367, R422, R38): the lines of each bank that
do not read as they were written, whether each voice's program checks, whether the crystal qualified, the SLOW
periods that passed, and the battery's readings. -/
structure RecallObs where
  badA   : List (Fin 12288) := []                      -- uncorrectable lines of each bank
  badB   : List (Fin 12288) := []
  misA   : List (Fin 12288 × BitVec 64) := []          -- lines that read otherwise, with a check code that passes
  misB   : List (Fin 12288 × BitVec 64) := []
  slotA  : Option (BitVec 64 × BitVec 64) := none      -- a commit slot that reads otherwise
  slotB  : Option (BitVec 64 × BitVec 64) := none
  progs  : Vector Bool 5 := Vector.replicate 5 true
  pfCrc  : Option (BitVec 16) := none                  -- CRC of the power-fail record, where it reads otherwise (R373)
  xtal   : Bool := true
  slow   : Nat := 0
  kntcA  : Nat := 0
  kntcB  : Nat := 0
  bat    : Nat := 0
  probe  : Nat := 0                                    -- BAT at the end of the probe, when one is made
  rpSeen : Vector Bool 2 := Vector.replicate 2 false   -- Rp on a CC pin and VBUS above 4.0 V (R481)
deriving DecidableEq, Repr

/-- What ends a Try.SNK or TryWait.SRC timer (R478). -/
inductive TryObs
  | rpSeen (orient rp : BitVec 2)   -- Rp and VBUS within Try.SNK: the port is the sink
  | noRp                            -- no source in time
  | rdSeen                          -- Rd again in TryWait.SRC
deriving DecidableEq, Repr

/-- The header of a received Power Delivery message (R499, R501, R504). -/
structure PdHdr where
  sop : Fin 3 := 0
  id  : BitVec 3 := 0
  rev : BitVec 2 := 2
deriving DecidableEq, Repr

/-- The answer to a structured VDM of the hub (R540). -/
inductive VdmRes
  | ack (vdos : List (BitVec 32))
  | nak | busy
deriving DecidableEq, Repr

/-- A packet of an extended message (R512): whether it is chunked, the chunk's number, the data size of the whole message,
and the bytes of the chunk. -/
structure ExtPart where
  chunked : Bool := true
  num     : Nat := 0
  size    : Nat := 0
  data    : List Byte := []
deriving DecidableEq, Repr

/-- The window registers that move a pointer (R568). -/
inductive WinReg
  | ptrl | ptrh | idx
deriving DecidableEq, Repr

/-- The wide fields of the hub registers (R586). -/
inductive WideReg
  | lfcal | elapsed | elapsedErr | ctofs | mcount | cseq | acode
deriving DecidableEq, Repr

/-- The commands. -/
inductive Instr
  /-- MEASURE_BEAT (R17). -/
  | measureBeat (k : KeepAdc) (o : HubTick)
  /-- TICK_BEAT (R44). -/
  | tickBeat (o : HubTick)
  /-- FACE_SLOT (R178). -/
  | faceSlot (t : TileNo) (bad : BitVec 4)
  /-- FACE_INTAKE_CLOSE (R178). -/
  | faceIntakeClose (part : Option (Fin 24))
  /-- WB_STAGE (R242). -/
  | wbStage
  /-- VOICE_SLOT_START (R303). -/
  | voiceSlotStart (v : VoiceId) (err : Option MemHit)
  /-- VOICE_SLOT_END (R22). -/
  | voiceSlotEnd (v : VoiceId)
  /-- SOFT_TIMER_EXPIRE (R345). -/
  | softTimerExpire (v : VoiceId) (n : Fin 128)
  /-- LOADER (R23). -/
  | loader (bad : List OrdBad)
  /-- HAUL (R189). -/
  | haul
  /-- JOURNAL_COMMIT (R362). -/
  | journalCommit (fail : Option JLine)
  /-- LOADER_GUARD (R194). -/
  | loaderGuard
  /-- FRONT_GUARD (R195). -/
  | frontGuard
  /-- HAUL_GUARD (R196). -/
  | haulGuard
  /-- GRANT_PERIOD_END (R239). -/
  | grantPeriodEnd (b : Bay)
  /-- CMD_RETURN_TIMEOUT (R131). -/
  | cmdReturnTimeout
  /-- REPEAT_COPY_SEND (R131). -/
  | repeatCopySend
  /-- SHED_SET_RETURN (R142). -/
  | shedSetReturn (got : ShedSet)
  /-- SHED_RETURN_TIMEOUT (R142). -/
  | shedReturnTimeout
  /-- SVC_SEND (R148). -/
  | svcSend
  /-- SVC_FRAME_RETURN (R145). -/
  | svcFrameReturn
  /-- JOIN_POLL_SEND (R158). -/
  | joinPollSend
  /-- FULL_ENUMERATION (R157). -/
  | fullEnumeration
  /-- ECHO_SEND (R148). -/
  | echoSend
  /-- ECHO_RETURN (R147). -/
  | echoReturn (roundTrip : Nat)
  /-- REJOIN_TIMER_END (R168). -/
  | rejoinTimerEnd (t : TileNo)
  /-- TILE_MEASURE_BEAT (R18). -/
  | tileMeasureBeat (h : Shelf) (o : TickObs)
  /-- TILE_TICK_BEAT (R288). -/
  | tileTickBeat (h : Shelf) (o : TickObs)
  /-- TILE_APPLY_CMD (R25). -/
  | tileApplyCmd (h : Shelf)
  /-- CMD_FRAME_RECEIVE (R130). -/
  | cmdFrameReceive (h : Shelf)
  /-- TEL_SLOT_WRITE (R137). -/
  | telSlotWrite (h : Shelf)
  /-- ECHO_FRAME_WRITE (R146). -/
  | echoFrameWrite (h : Shelf)
  /-- SVC_WRITE (R144). -/
  | svcWrite (h : Shelf)
  /-- SVC_READ (R144). -/
  | svcRead (h : Shelf)
  /-- SYMBOL_ERROR (R120). -/
  | symbolError (seg : Fin 33) (what : RingItem) (pos : Nat) (got : Option Byte)
  /-- FLYWHEEL_BEAT (R151). -/
  | flywheelBeat (h : Shelf) (o : TickObs)
  /-- BYPASS_OPEN (R154). -/
  | bypassOpen (h : Shelf)
  /-- TILE_BEAT_TIMEOUT (R92). -/
  | tileBeatTimeout (h : Shelf)
  /-- TILE_RESET (R90). -/
  | tileReset (h : Shelf)
  /-- TILE_RESET_RELEASE (R92). -/
  | tileResetRelease (h : Shelf)
  /-- TILE_SHED (R91). -/
  | tileShed (h : Shelf) (set : ShedSet)
  /-- TILE_CLOCK_LOCK (R46). -/
  | tileClockLock (h : Shelf)
  /-- CLOCK_HOLDOVER_ENTRY (R47). -/
  | clockHoldoverEntry (h : Shelf)
  /-- CLOCK_HOLDOVER_TIMEOUT (R48). -/
  | clockHoldoverTimeout (h : Shelf)
  /-- TILE_CLOCK_RELOCK (R49). -/
  | tileClockRelock (h : Shelf)
  /-- PULSE_START (R67). -/
  | pulseStart (h : Shelf) (p : Pos) (vin vout : Nat)
  /-- REST_START (R68). -/
  | restStart (h : Shelf) (p : Pos) (iout : Nat)
  /-- REST_WINDOW_CLOSE (R200). -/
  | restWindowClose (h : Shelf) (p : Pos) (samples : List (BitVec 14))
  /-- OUTPUT_OVERVOLTAGE (R69). -/
  | outputOvervoltage (h : Shelf) (p : Pos)
  /-- PLT_EXPIRE (R71). -/
  | pltExpire (h : Shelf) (p : Pos) (outs : List OutSample)
  /-- OUTPUT_FAST_TRIP (R72). -/
  | outputFastTrip (h : Shelf) (p : Pos)
  /-- ATTEMPT_RETRY (R73). -/
  | attemptRetry (h : Shelf) (p : Pos) (vin vout : Nat)
  /-- ATTEMPT_COUNTER_CLEAR (R75). -/
  | attemptCounterClear (h : Shelf) (p : Pos) (outs : List OutSample)
  /-- JUNCTION_FOLDBACK (R76). -/
  | junctionFoldback (h : Shelf) (p : Pos) (tj : Nat)
  /-- THERMAL_STOP (R77). -/
  | thermalStop (h : Shelf) (p : Pos)
  /-- THERMAL_RECOVER (R77). -/
  | thermalRecover (h : Shelf) (p : Pos)
  /-- DIE_OVERTEMP (R78). -/
  | dieOvertemp (h : Shelf)
  /-- ADC_REFERENCE_FAIL (R80). -/
  | adcReferenceFail (h : Shelf)
  /-- DOOR_EDGE_ACCEPT (R81). -/
  | doorEdgeAccept (h : Shelf) (p : Pos) (level : Bool) (us : Nat)
  /-- LOCK_HOLD_START (R84). -/
  | lockHoldStart (h : Shelf) (p : Pos)
  /-- LOCK_OVERCURRENT (R84). -/
  | lockOvercurrent (h : Shelf) (p : Pos)
  /-- LAMP_OVERCURRENT (R85). -/
  | lampOvercurrent (h : Shelf) (p : Pos) (lampB : Bool)
  /-- UNLOCK_PULSE_END (R86). -/
  | unlockPulseEnd (h : Shelf) (p : Pos)
  /-- VIN_UNDERVOLTAGE (R88). -/
  | vinUndervoltage (h : Shelf)
  /-- VIN_RECOVER (R88). -/
  | vinRecover (h : Shelf)
  /-- VIN_OVERVOLTAGE (R88). -/
  | vinOvervoltage (h : Shelf)
  /-- VIN_OV_CLEAR (R88). -/
  | vinOvClear (h : Shelf)
  /-- REVPOL_SET (R99). -/
  | revpolSet (h : Shelf) (p : Pos)
  /-- REVPOL_CLEAR (R99). -/
  | revpolClear (h : Shelf) (p : Pos)
  /-- PROBE_END (R101). -/
  | probeEnd (h : Shelf) (p : Pos) (rise : Option Nat)
  /-- REPROBE_TIMER (R102). -/
  | reprobeTimer (b : Bay)
  /-- SMB_POLL_ROUND (R107). -/
  | smbPollRound (h : Shelf) (p : Pos)
  /-- SMB_TRANSACTION_END (R265). -/
  | smbTransactionEnd (h : Shelf) (p : Pos) (r : SmbEnd)
  /-- SMB_NACK_RETRY (R108). -/
  | smbNackRetry (h : Shelf) (p : Pos) (i : Nat)
  /-- SMB_ARBITRATION_LOST (R113). -/
  | smbArbitrationLost (h : Shelf) (p : Pos) (msg : PackMsg)
  /-- SMB_ARBITRATION_RETRY (R115). -/
  | smbArbitrationRetry (h : Shelf) (p : Pos) (i : Nat)
  /-- SMB_ALARM_RECEIVE (R110). -/
  | smbAlarmReceive (h : Shelf) (p : Pos) (msg : PackMsg)
  /-- SMB_CLOCK_TIMEOUT (R117). -/
  | smbClockTimeout (h : Shelf) (p : Pos)
  /-- SMB_DATA_STUCK (R117). -/
  | smbDataStuck (h : Shelf) (p : Pos)
  /-- PRETIME_EXPIRE (R207). -/
  | pretimeExpire (b : Bay)
  /-- CHARGE_TIMER_EXPIRE (R210). -/
  | chargeTimerExpire (b : Bay)
  /-- LITIMER_EXPIRE (R218). -/
  | litimerExpire (b : Bay)
  /-- TOPOFF_END (R215). -/
  | topoffEnd (b : Bay)
  /-- MAINT_INTERVAL (R215). -/
  | maintInterval (b : Bay)
  /-- HOSTLATE_EXPIRE (R219). -/
  | hostlateExpire (b : Bay)
  /-- NOREST_EXPIRE (R227). -/
  | norestExpire (b : Bay)
  /-- KEEPER_TAPER_END (R222). -/
  | keeperTaperEnd
  /-- TIMER_WRAP (R277). -/
  | timerWrap (n : TimerId)
  /-- TIMER_MATCH (R277). -/
  | timerMatch (n : TimerId)
  /-- TIMER_ONESHOT_DONE (R277). -/
  | timerOneshotDone (n : TimerId)
  /-- TIMER_CAPTURE (R282). -/
  | timerCapture (n : TimerId) (count : Word) (rising : Bool)
  /-- VCMD_RUN (R317). -/
  | vcmdRun (c : CtxId) (v : VoiceId)
  /-- VCMD_STOP (R317). -/
  | vcmdStop (c : CtxId) (v : VoiceId)
  /-- VCMD_INSTALL (R317). -/
  | vcmdInstall (c : CtxId) (v : VoiceId)
  /-- VOICE_COMMAND_APPLY (R317). -/
  | voiceCommandApply (v : VoiceId)
  /-- INSTALL_VERIFY_DONE (R324). -/
  | installVerifyDone (v : VoiceId) (badWord : Option Nat) (wordFails : Bool)
  /-- ENGCTL_RUN (R319). -/
  | engctlRun (c : CtxId)
  /-- ENGCTL_STOP (R319). -/
  | engctlStop (c : CtxId)
  /-- ENGCTL_GACK (R385). -/
  | engctlGack (c : CtxId)
  /-- ENGINE_COMMAND_APPLY (R319). -/
  | engineCommandApply
  /-- HALT_ENTRY (R327). -/
  | haltEntry
  /-- NOP (R337). -/
  | xNop (v : VoiceId)
  /-- FIN (R350). -/
  | fin (v : VoiceId)
  /-- TRUE (R337). -/
  | xTrue (v : VoiceId)
  /-- FALSE (R337). -/
  | xFalse (v : VoiceId)
  /-- INV (R337). -/
  | inv (v : VoiceId)
  /-- JOIN (R339). -/
  | xJoin (v : VoiceId)
  /-- SNAP (R349). -/
  | snap (v : VoiceId) (fail : Option (Fin 256))
  /-- RAISE (R348). -/
  | raise (v : VoiceId)
  /-- GET (R337). -/
  | xGet (v : VoiceId)
  /-- GETN (R337). -/
  | getn (v : VoiceId)
  /-- AND (R337). -/
  | xAnd (v : VoiceId)
  /-- ANDN (R337). -/
  | andn (v : VoiceId)
  /-- OR (R337). -/
  | xOr (v : VoiceId)
  /-- ORN (R337). -/
  | orn (v : VoiceId)
  /-- XOR (R337). -/
  | xXor (v : VoiceId)
  /-- XORN (R337). -/
  | xorn (v : VoiceId)
  /-- PUT (R337). -/
  | xPut (v : VoiceId)
  /-- PUTN (R337). -/
  | putn (v : VoiceId)
  /-- LATCH (R337). -/
  | latch (v : VoiceId)
  /-- UNLATCH (R337). -/
  | unlatch (v : VoiceId)
  /-- RISE (R342). -/
  | rise (v : VoiceId)
  /-- FALL (R342). -/
  | fall (v : VoiceId)
  /-- BR_AND (R339). -/
  | brAnd (v : VoiceId)
  /-- BR_ANDN (R339). -/
  | brAndn (v : VoiceId)
  /-- BR_OR (R339). -/
  | brOr (v : VoiceId)
  /-- BR_ORN (R339). -/
  | brOrn (v : VoiceId)
  /-- BR_XOR (R339). -/
  | brXor (v : VoiceId)
  /-- BR_XORN (R339). -/
  | brXorn (v : VoiceId)
  /-- GOTO (R340). -/
  | goto (v : VoiceId)
  /-- GOTOT (R340). -/
  | gotot (v : VoiceId)
  /-- GOTOF (R340). -/
  | gotof (v : VoiceId)
  /-- WGET (R341). -/
  | wget (v : VoiceId)
  /-- WIMM (R337). -/
  | wimm (v : VoiceId)
  /-- WPUT (R337). -/
  | wput (v : VoiceId)
  /-- WADD (R341). -/
  | wadd (v : VoiceId)
  /-- WSUB (R341). -/
  | wsub (v : VoiceId)
  /-- WAND (R337). -/
  | wand (v : VoiceId)
  /-- WOR (R337). -/
  | wor (v : VoiceId)
  /-- WXOR (R337). -/
  | wxor (v : VoiceId)
  /-- WEQ (R341). -/
  | weq (v : VoiceId)
  /-- WNE (R341). -/
  | wne (v : VoiceId)
  /-- WGT (R341). -/
  | wgt (v : VoiceId)
  /-- WGE (R341). -/
  | wge (v : VoiceId)
  /-- WLT (R341). -/
  | wlt (v : VoiceId)
  /-- WLE (R341). -/
  | wle (v : VoiceId)
  /-- WSGT (R341). -/
  | wsgt (v : VoiceId)
  /-- WSLT (R341). -/
  | wslt (v : VoiceId)
  /-- W2X (R337). -/
  | w2x (v : VoiceId)
  /-- X2W (R337). -/
  | x2w (v : VoiceId)
  /-- TON (R344). -/
  | ton (v : VoiceId)
  /-- TOF (R344). -/
  | tof (v : VoiceId)
  /-- TP (R344). -/
  | tp (v : VoiceId)
  /-- TACC (R344). -/
  | tacc (v : VoiceId)
  /-- TCLR (R344). -/
  | tclr (v : VoiceId)
  /-- TPRE (R343). -/
  | tpre (v : VoiceId)
  /-- CUP (R347). -/
  | cup (v : VoiceId)
  /-- CDN (R347). -/
  | cdn (v : VoiceId)
  /-- CCLR (R347). -/
  | cclr (v : VoiceId)
  /-- CPRE (R347). -/
  | cpre (v : VoiceId)
  /-- UNDEFINED_OPCODE (R352). -/
  | undefinedOpcode (v : VoiceId)
  /-- WATCHDOG_EXPIRE (R391). -/
  | watchdogExpire (us : Nat)
  /-- CODA_BUDGET_END (R392). -/
  | codaBudgetEnd
  /-- HARD_TIMER_END (R394). -/
  | hardTimerEnd
  /-- WATCHDOG_CLOCK_STOP (R395). -/
  | watchdogClockStop
  /-- WDCTL_WRITE (R387). -/
  | wdctlWrite (c : CtxId) (w : Word)
  /-- WDKICK (R389). -/
  | wdkick (c : CtxId) (w : Word) (us : Nat)
  /-- XTAL_QUALIFY (R38). -/
  | xtalQualify
  /-- XTAL_EDGE_LOSS (R42). -/
  | xtalEdgeLoss
  /-- SLEW_LOCK (R41). -/
  | slewLock
  /-- PLL_UNLOCK (R61). -/
  | pllUnlock
  /-- LF_CALIBRATION_START (R52). -/
  | lfCalibrationStart (presleep : Bool)
  /-- LF_CALIBRATION_DONE (R53). -/
  | lfCalibrationDone (count : Nat)
  /-- CLKCTL_RETRY (R43). -/
  | clkctlRetry (c : CtxId)
  /-- SRCSEL_WRITE (R51). -/
  | srcselWrite (c : CtxId) (w : Word)
  /-- FEED_INPUT_QUALIFY (R409). -/
  | feedInputQualify (f : FeederId)
  /-- FEED_INPUT_LOST (R409). -/
  | feedInputLost (f : FeederId)
  /-- FEEDER_RAMP_START (R408). -/
  | feederRampStart (f : FeederId)
  /-- FEEDER_RAMP_DONE (R402). -/
  | feederRampDone (f : FeederId) (outs : List FeedObs)
  /-- FEEDER_RAMP_TIMEOUT (R402). -/
  | feederRampTimeout (f : FeederId) (outs : List FeedObs)
  /-- FEEDER_PLT_EXPIRE (R404). -/
  | feederPltExpire (f : FeederId) (outs : List FeedObs)
  /-- FEEDER_FAST_TRIP (R405). -/
  | feederFastTrip (f : FeederId) (vsns : Nat)
  /-- FEEDER_RETRY_END (R406). -/
  | feederRetryEnd (f : FeederId)
  /-- FEEDER_COUNTER_CLEAR (R407). -/
  | feederCounterClear (f : FeederId) (outs : List FeedObs)
  /-- FEEDER_REVERSE_BLOCK (R410). -/
  | feederReverseBlock (f : FeederId)
  /-- FEEDER_REVERSE_CLEAR (R410). -/
  | feederReverseClear (f : FeederId)
  /-- FEEDCTL_CLRLO (R407). -/
  | feedctlClrlo (c : CtxId) (f : FeederId)
  /-- HOLDOVER_EXIT (R436). -/
  | holdoverExit (f : FeederId)
  /-- KEEPER_SOURCE_QUALIFY (R412). -/
  | keeperSourceQualify (src : Fin 4)
  /-- KEEPER_SOURCE_LOST (R413). -/
  | keeperSourceLost (src : Fin 4)
  /-- KHOLD_EXPIRE (R413). -/
  | kholdExpire (src : Fin 4)
  /-- KEEPER_SWITCH_CLOSE (R414). -/
  | keeperSwitchClose
  /-- BATTERY_DETECTION (R422). -/
  | batteryDetection (kntcA kntcB bat : Nat)
  /-- BATTERY_PROBE_END (R422). -/
  | batteryProbeEnd (bat : Nat)
  /-- BATTERY_REACH_VCLOSE (R422). -/
  | batteryReachVclose
  /-- BATTERY_REDETECT (R423). -/
  | batteryRedetect
  /-- BATTERY_OVERCURRENT (R424). -/
  | batteryOvercurrent (ma : Nat)
  /-- LATCH_BAT_RISE (R425). -/
  | latchBatRise
  /-- BUTTON_PRESS (R426). -/
  | buttonPress
  /-- BUTTON_RELEASE (R426). -/
  | buttonRelease (len : Nat)
  /-- BUTTON_RESET_HOLD (R427). -/
  | buttonResetHold
  /-- BUTTON_RESET_CUT (R427). -/
  | buttonResetCut
  /-- BUTTON_RESET_RELEASE (R427). -/
  | buttonResetRelease
  /-- SHIPCTL (R429). -/
  | shipctl (c : CtxId) (w : Word) (inputUp : Bool)
  /-- SHIP_EXIT (R430). -/
  | shipExit
  /-- KEEPER_HOT (R432). -/
  | keeperHot
  /-- KEEPER_COOL (R432). -/
  | keeperCool
  /-- STARTUP_REGULATOR (R457). -/
  | startupRegulator
  /-- MODECTL_DORMREQ (R439). -/
  | modectlDormreq (c : CtxId)
  /-- HOLDDORM_EXPIRE (R439). -/
  | holddormExpire
  /-- LOW_NODE_TRIGGER (R439). -/
  | lowNodeTrigger
  /-- DORMANT_ROOT_STOP (R441). -/
  | dormantRootStop
  /-- DORMANT_WAKE (R443). -/
  | dormantWake (cause : WakeSrc) (lf : Nat)
  /-- WAKE_TIMER_EXPIRE (R443). -/
  | wakeTimerExpire
  /-- POWER_FAIL (R371). -/
  | powerFail (core : Bool) (cut : CutObs)
  /-- POWER_ON_RESET (R451). -/
  | powerOnReset (profile lockdef : Bool)
  /-- BROWNOUT (R375). -/
  | brownout
  /-- RESET_HOLD_END (R453). -/
  | resetHoldEnd (lf : Nat)
  /-- CC_TERMINATION_RESTORE (R456). -/
  | ccTerminationRestore
  /-- TACET_END (R454). -/
  | tacetEnd (slow : Nat) (bat : Nat)
  /-- RECALL_END (R458). -/
  | recallEnd (o : RecallObs)
  /-- MUSTER_START (R463). -/
  | musterStart (slow : Nat)
  /-- MUSTMAX_EXPIRE (R466). -/
  | mustmaxExpire
  /-- RSTCTL (R470). -/
  | rstctl (c : CtxId) (w : Word)
  /-- DRP_TOGGLE (R478). -/
  | drpToggle (p : PortId)
  /-- CC_ATTACH_DETECT (R478). -/
  | ccAttachDetect (p : PortId) (src : Bool) (orient : BitVec 2) (rp : BitVec 2)
  /-- ATTACH_SRC (R482). -/
  | attachSrc (p : PortId) (orient : BitVec 2) (ra : Bool) (leaks : Vector (Option Nat) 4)
  /-- ATTACH_SNK (R488). -/
  | attachSnk (p : PortId) (orient : BitVec 2) (rp : BitVec 2)
  /-- TRY_SNK_TIMER (R478). -/
  | trySnkTimer (p : PortId) (o : TryObs)
  /-- VBUSON_TIMEOUT (R482). -/
  | vbusonTimeout (p : PortId)
  /-- SOURCE_DETACH (R484). -/
  | sourceDetach (p : PortId) (mv : Nat)
  /-- DISCHARGE_DONE (R484). -/
  | dischargeDone (p : PortId)
  /-- VBUSOFF_TIMEOUT (R484). -/
  | vbusoffTimeout (p : PortId)
  /-- SOURCE_OVERCURRENT (R485). -/
  | sourceOvercurrent (p : PortId) (ma : Nat)
  /-- VCONN_OVERCURRENT (R487). -/
  | vconnOvercurrent (p : PortId)
  /-- SINK_DETACH (R488). -/
  | sinkDetach (p : PortId) (gone : Bool)
  /-- SINK_OVERVOLTAGE (R489). -/
  | sinkOvervoltage (p : PortId) (mv : Nat)
  /-- ACCESSORY_IGNORE (R490). -/
  | accessoryIgnore (p : PortId) (present : Bool)
  /-- RECOVERY_END (R475). -/
  | recoveryEnd (p : PortId)
  /-- MOISTURE_SCAN_DONE (R494). -/
  | moistureScanDone (p : PortId) (leaks : Vector (Option Nat) 4)
  /-- WET_SCAN_TIMER (R493). -/
  | wetScanTimer (p : PortId)
  /-- DEAD_BATTERY_VBUS (R480). -/
  | deadBatteryVbus (p : PortId) (mv : Nat)
  /-- CLRLOCK (R496). -/
  | clrlock (c : CtxId) (p : PortId)
  /-- SOURCE_CAPABILITIES (R517). -/
  | sourceCapabilities (p : PortId) (m : PdHdr) (pdos : List Pdo)
  /-- REQUEST (R516). -/
  | request (p : PortId) (m : PdHdr) (pos op max : Nat) (mismatch : Bool)
  /-- ACCEPT (R521). -/
  | accept (p : PortId) (m : PdHdr)
  /-- REJECT (R516). -/
  | reject (p : PortId) (m : PdHdr)
  /-- PS_RDY (R522). -/
  | psRdy (p : PortId) (m : PdHdr) (vbus : Nat)
  /-- WAIT (R511). -/
  | wait (p : PortId) (m : PdHdr)
  /-- PING (R511). -/
  | ping (p : PortId) (m : PdHdr)
  /-- GET_SOURCE_CAP (R511). -/
  | getSourceCap (p : PortId) (m : PdHdr)
  /-- GET_SINK_CAP (R518). -/
  | getSinkCap (p : PortId) (m : PdHdr)
  /-- SOFT_RESET (R524). -/
  | softReset (p : PortId) (m : PdHdr)
  /-- NOT_SUPPORTED (R511). -/
  | notSupported (p : PortId) (m : PdHdr)
  /-- GOODCRC (R505). -/
  | goodcrc (p : PortId) (m : PdHdr)
  /-- PR_SWAP (R530). -/
  | prSwap (p : PortId) (m : PdHdr)
  /-- FR_SWAP (R530). -/
  | frSwap (p : PortId) (m : PdHdr)
  /-- VCONN_SWAP (R530). -/
  | vconnSwap (p : PortId) (m : PdHdr) (vconnPin : Nat)
  /-- DISCOVER_IDENTITY (R539). -/
  | discoverIdentity (p : PortId) (m : PdHdr)
  /-- DISCOVER_SVIDS (R539). -/
  | discoverSvids (p : PortId) (m : PdHdr)
  /-- DISCOVER_MODES (R539). -/
  | discoverModes (p : PortId) (m : PdHdr) (svid : Word)
  /-- ENTER_MODE (R541). -/
  | enterMode (p : PortId) (m : PdHdr) (svid : Word) (pos : Nat)
  /-- EXIT_MODE (R541). -/
  | exitMode (p : PortId) (m : PdHdr) (svid : Word) (pos : Nat)
  /-- ATTENTION (R539). -/
  | attention (p : PortId) (m : PdHdr) (svid : Word) (cmd : BitVec 5)
  /-- DISCOVERY_RESPONSE (R540). -/
  | discoveryResponse (p : PortId) (m : PdHdr) (cmd : VdmCmd) (r : VdmRes)
  /-- GET_SOURCE_CAP_EXTENDED (R511). -/
  | getSourceCapExtended (p : PortId) (m : PdHdr)
  /-- GET_SINK_CAP_EXTENDED (R511). -/
  | getSinkCapExtended (p : PortId) (m : PdHdr)
  /-- GET_STATUS (R511). -/
  | getStatus (p : PortId) (m : PdHdr) (temp : Nat)
  /-- GET_MANUFACTURER_INFO (R511). -/
  | getManufacturerInfo (p : PortId) (m : PdHdr)
  /-- GET_REVISION (R511). -/
  | getRevision (p : PortId) (m : PdHdr)
  /-- BIST_CARRIER_MODE (R511). -/
  | bistCarrierMode (p : PortId) (m : PdHdr)
  /-- BIST_TEST_DATA (R511). -/
  | bistTestData (p : PortId) (m : PdHdr)
  /-- UNSUPPORTED_MESSAGE (R511). -/
  | unsupportedMessage (p : PortId) (m : PdHdr) (x : Option ExtPart)
  /-- CHUNK_REQUEST (R512). -/
  | chunkRequest (p : PortId) (m : PdHdr) (n : Nat)
  /-- HARD_RESET (R526). -/
  | hardReset (p : PortId)
  /-- GOODCRC_TIMEOUT (R505). -/
  | goodcrcTimeout (p : PortId)
  /-- SINKTXNG_WAIT_END (R508). -/
  | sinktxngWaitEnd (p : PortId)
  /-- SOURCE_CAP_TIMER (R514). -/
  | sourceCapTimer (p : PortId)
  /-- SENDER_RESPONSE_TIMEOUT (R524). -/
  | senderResponseTimeout (p : PortId)
  /-- SOURCE_TRANSITION_WAIT (R519). -/
  | sourceTransitionWait (p : PortId)
  /-- SOURCE_VBUS_SETTLED (R519). -/
  | sourceVbusSettled (p : PortId)
  /-- SOURCE_TRANSITION_TIMEOUT (R519). -/
  | sourceTransitionTimeout (p : PortId)
  /-- SINK_TRANSITION_TIMEOUT (R522). -/
  | sinkTransitionTimeout (p : PortId)
  /-- SINK_WAIT_CAP_TIMEOUT (R525). -/
  | sinkWaitCapTimeout (p : PortId)
  /-- VBUS_UNDERVOLTAGE (R523). -/
  | vbusUndervoltage (p : PortId)
  /-- HARD_RESET_SOURCE_OFF (R526). -/
  | hardResetSourceOff (p : PortId)
  /-- HARD_RESET_SOURCE_RESTORE (R526). -/
  | hardResetSourceRestore (p : PortId)
  /-- HARD_RESET_SINK_TIMEOUT (R526). -/
  | hardResetSinkTimeout (p : PortId) (vbus : Nat)
  /-- WAIT_RESEND (R511). -/
  | waitResend (p : PortId)
  /-- CHUNK_TIMEOUT (R512). -/
  | chunkTimeout (p : PortId)
  /-- CAPABILITY_CHANGE (R515). -/
  | capabilityChange (p : PortId)
  /-- SWAPCMD_PR_SWAP (R531). -/
  | swapcmdPrSwap (c : CtxId) (p : PortId)
  /-- SWAPCMD_VCONN_SWAP (R531). -/
  | swapcmdVconnSwap (c : CtxId) (p : PortId)
  /-- PR_SWAP_SOURCE_OFF (R529). -/
  | prSwapSourceOff (p : PortId)
  /-- SWAP_TIMEOUT (R535). -/
  | swapTimeout (p : PortId)
  /-- FRS_SIGNAL_DETECT (R532). -/
  | frsSignalDetect (p : PortId) (us : Nat)
  /-- FRS_VBUS_LOW (R534). -/
  | frsVbusLow (p : PortId)
  /-- FRS_SIGNAL_END (R533). -/
  | frsSignalEnd (p : PortId)
  /-- BORROW_BACK_PR_SWAP (R552). -/
  | borrowBackPrSwap (p : PortId)
  /-- DISCOVERY_START (R540). -/
  | discoveryStart (p : PortId)
  /-- DISCOVERY_TIMEOUT (R540). -/
  | discoveryTimeout (p : PortId)
  /-- HELLO (R546). -/
  | hello (seq : BitVec 8) (x : Hello)
  /-- STATUS (R549). -/
  | status (seq : BitVec 8) (hold : Bool) (demand linkbud : Nat) (lepoch : Word)
  /-- SPLIT (R550). -/
  | split (seq : BitVec 8) (ll lf : Nat)
  /-- ACK (R544). -/
  | ack (seq : BitVec 8) (res : BitVec 8)
  /-- TIME (R551). -/
  | time (seq : BitVec 8) (ms : BitVec 64)
  /-- STATUS_SEND (R543). -/
  | statusSend
  /-- TIME_SEND (R551). -/
  | timeSend
  /-- PEER_ACK_TIMEOUT (R544). -/
  | peerAckTimeout (split : Bool)
  /-- PEER_SILENCE (R544). -/
  | peerSilence
  /-- LINKCTL_FORGET (R554). -/
  | linkctlForget (c : CtxId)
  /-- LINKCTL_WRITE (R548). -/
  | linkctlWrite (c : CtxId) (k : Fin 4) (w : Word)
  /-- HOST_READ_ABORT (R557). -/
  | hostReadAbort (c : CtxId)
  /-- HOST_WRITE_ABORT (R558). -/
  | hostWriteAbort (c : CtxId)
  /-- BOTH_STROBES_LOW (R560). -/
  | bothStrobesLow (ha : BitVec 7) (hctx : BitVec 3)
  /-- ILLEGAL_CONTEXT (R561). -/
  | illegalContext (ha : BitVec 7) (hctx : BitVec 3) (write : Bool)
  /-- UNASSIGNED_OFFSET (R562). -/
  | unassignedOffset (c : CtxId) (ha : BitVec 7) (write : Bool)
  /-- REGISTER_WRITE (R585). -/
  | registerWrite (c : CtxId) (ha : BitVec 7) (w : Word)
  /-- EVQDATA_READ (R577). -/
  | evqdataRead (c : CtxId)
  /-- EVQCTL_CLR (R577). -/
  | evqctlClr (c : CtxId)
  /-- CTXSTAT_CLEAR (R578). -/
  | ctxstatClear (c : CtxId) (w : Word)
  /-- INTCTL_WRITE (R580). -/
  | intctlWrite (c : CtxId) (w : Word)
  /-- WINSEL_WRITE (R568). -/
  | winselWrite (c : CtxId) (n : Fin 2) (w : Word)
  /-- WINPTR_WRITE (R574). -/
  | winptrWrite (c : CtxId) (n : Fin 2) (r : WinReg) (w : Word)
  /-- WINDATA_READ (R567). -/
  | windataRead (c : CtxId) (n : Fin 2)
  /-- WINDATA_WRITE (R570). -/
  | windataWrite (c : CtxId) (n : Fin 2) (w : Word)
  /-- WINCTL_FLUSH (R575). -/
  | winctlFlush (c : CtxId) (n : Fin 2)
  /-- HOST_BLOCK_TRANSFER (R264). -/
  | hostBlockTransfer (fail : Option (Fin 32))
  /-- WIDE_FIELD_LOW_READ (R566). -/
  | wideFieldLowRead (c : CtxId) (f : WideReg)
  /-- WIDE_FIELD_LOW_WRITE (R566). -/
  | wideFieldLowWrite (c : CtxId) (f : WideReg) (w : Word)
  /-- HPAGE_WRITE (R583). -/
  | hpageWrite (c : CtxId) (w : Word)
  /-- LAYOUT_WRITE (R590). -/
  | layoutWrite (c : CtxId) (i : Fin 3) (w : Word)
  /-- CABBUD_WRITE (R254). -/
  | cabbudWrite (c : CtxId) (w : Word)
  /-- RESERVE_WRITE (R254). -/
  | reserveWrite (c : CtxId) (w : Word)
  /-- TMRSYNC (R281). -/
  | tmrsync (c : CtxId) (w : Word)
  /-- CTOFS_WRITE (R60). -/
  | ctofsWrite (c : CtxId) (w : BitVec 48)
  /-- MEMBCTL_ENUM (R157). -/
  | membctlEnum (c : CtxId)
  /-- BAY_SETTING_WRITE (R597). -/
  | baySettingWrite (c : CtxId) (b : Bay) (ofs : Nat) (w : Word)
  /-- ORDLVL_STOP (R598). -/
  | ordlvlStop (c : CtxId) (b : Bay)
  /-- ORDLVL_GO (R598). -/
  | ordlvlGo (c : CtxId) (b : Bay)
  /-- ORDLVL_LOCK (R598). -/
  | ordlvlLock (c : CtxId) (b : Bay)
  /-- ORDLVL_UNLOCK (R598). -/
  | ordlvlUnlock (c : CtxId) (b : Bay)
  /-- ORDLVL_LAMPA (R598). -/
  | ordlvlLampa (c : CtxId) (b : Bay) (en : Bool) (val : BitVec 2)
  /-- ORDLVL_LAMPB (R598). -/
  | ordlvlLampb (c : CtxId) (b : Bay) (en : Bool) (val : BitVec 2)
  /-- ORDLVL_EMREL (R272). -/
  | ordlvlEmrel (c : CtxId) (b : Bay) (on : Bool)
  /-- ORDEDGE_UNLKP (R599). -/
  | ordedgeUnlkp (c : CtxId) (b : Bay) (len : BitVec 8)
  /-- ORDEDGE_CLRFLT (R599). -/
  | ordedgeClrflt (c : CtxId) (b : Bay)
  /-- ORDEDGE_END (R220). -/
  | ordedgeEnd (c : CtxId) (b : Bay)
  /-- ORDEDGE_CONT (R220). -/
  | ordedgeCont (c : CtxId) (b : Bay)
  /-- ORDEDGE_RESTART (R220). -/
  | ordedgeRestart (c : CtxId) (b : Bay)
  /-- TIOORD_WRITE (R601). -/
  | tioordWrite (c : CtxId) (t : TileNo) (w : Word)
  /-- PT_READ_BYTE (R600). -/
  | ptReadByte (c : CtxId) (b : Bay) (cmd : BitVec 8)
  /-- PT_WRITE_BYTE (R600). -/
  | ptWriteByte (c : CtxId) (b : Bay) (cmd : BitVec 8) (data : BitVec 8)
  /-- PT_READ_WORD (R600). -/
  | ptReadWord (c : CtxId) (b : Bay) (cmd : BitVec 8)
  /-- PT_WRITE_WORD (R600). -/
  | ptWriteWord (c : CtxId) (b : Bay) (cmd : BitVec 8) (data : Word)
  /-- PT_BLOCK_READ (R600). -/
  | ptBlockRead (c : CtxId) (b : Bay) (cmd : BitVec 8)
  /-- PT_BLOCK_WRITE (R600). -/
  | ptBlockWrite (c : CtxId) (b : Bay) (cmd : BitVec 8) (data : List Byte)
  /-- CAPQ_READ (R284). -/
  | capqRead (c : CtxId) (n : TimerId)
  /-- VOICE_IMAGE_WRITE (R606). -/
  | voiceImageWrite (c : CtxId) (v : VoiceId) (ofs : Nat) (w : Word)
  /-- SECCTL_FIELD (R613). -/
  | secctlField (c : CtxId)
  /-- SECCTL_SEALED (R613). -/
  | secctlSealed (c : CtxId)
  /-- LEVEL_CHANGE_APPLY (R614). -/
  | levelChangeApply
  /-- ACODE_OPEN (R616). -/
  | acodeOpen (c : CtxId) (code : BitVec 64)
  /-- ACODE_CLOSE (R617). -/
  | acodeClose (c : CtxId)
  /-- ACODE_PENDING (R617). -/
  | acodePending (c : CtxId) (code : BitVec 64)
  /-- ACODE_COMMIT (R617). -/
  | acodeCommit (c : CtxId) (code : BitVec 64)
  /-- PENDING_CODE_LAPSE (R617). -/
  | pendingCodeLapse (c : CtxId)
  /-- REFUSAL_PERIOD_END (R618). -/
  | refusalPeriodEnd (c : CtxId)
  /-- DBGREQ (R620). -/
  | dbgreq (req : BitVec 2)
  /-- DBGCHAL (R621). -/
  | dbgchal
  /-- DBGRESP (R621). -/
  | dbgresp (resp : BitVec 64)
  /-- NONCE_EXPIRE (R621). -/
  | nonceExpire
  /-- DBGCHAL_LOCKOUT_END (R622). -/
  | dbgchalLockoutEnd
  /-- DBGEND (R623). -/
  | dbgend
  /-- TEST_LOGIC_RESET (R623). -/
  | testLogicReset
  /-- DBGACC_READ (R628). -/
  | dbgaccRead (ha : BitVec 7)
  /-- DBGACC_WRITE (R625). -/
  | dbgaccWrite (ha : BitVec 7) (w : Word)
  /-- DBGCTL_HALT (R629). -/
  | dbgctlHalt
  /-- DBGCTL_STEP (R629). -/
  | dbgctlStep
  /-- DBGCTL_RESUME (R629). -/
  | dbgctlResume
  /-- DBGCTL_BREAKPOINT_WRITE (R629). -/
  | dbgctlBreakpointWrite (num : Fin 8) (en : Bool) (voice : BitVec 3) (idx : BitVec 20)
  /-- EXTEST (R630). -/
  | extest
  /-- IDCODE (R627). -/
  | idcode
  /-- SAMPLE_PRELOAD (R627). -/
  | samplePreload
  /-- CLAMP (R630). -/
  | clamp
  /-- HIGHZ (R630). -/
  | highz
  /-- TMUXSEL (R631). -/
  | tmuxsel (w : Word)
  /-- SECREAD (R627). -/
  | secread
  /-- KEYLOAD (R627). -/
  | keyload (key : BitVec 256)
  /-- BYPASS (R627). -/
  | bypass
  /-- CMD_FRAME_RETURN (R131). -/
  | cmdFrameReturn
  /-- SVC_RETURN_TIMEOUT (R159). -/
  | svcReturnTimeout
  /-- TIO_EDGE_ACCEPT (R87). -/
  | tioEdgeAccept (h : Shelf) (k : Fin 4) (level : Bool) (n : Nat)
  /-- LKOPEN_CHANGE (R84). -/
  | lkopenChange (h : Shelf) (p : Pos) (isOpen : Bool)
  /-- BIST_CARRIER_END (R511). -/
  | bistCarrierEnd (p : PortId)
  /-- SINK_TX_OK (R509). -/
  | sinkTxOk (p : PortId)
deriving DecidableEq, Repr

end Sys2Proof
end

