-- ==== Sys2Proof/Decode.lean ====
section
/-! DEFINITION. Decoding. The opcode table gives none of its rows bits: the commands come from outside
the block as events and bus cycles, so no word spells one. -/

namespace Sys2Proof

/-- The command that a word spells by the table's bits: none, as no row has any. -/
def decodeTableWord (_nbits _w : Nat) : Option Instr := none

end Sys2Proof
end

