-- ==== Sys2Proof/Machine/Frames.lean ====
section
/-! DEFINITION. The ring's frames byte by byte, their CRC, and what a receiver reads from bytes that
were damaged on the way (chapter 05: R120, R124 to R128, R136, R137, R139, R144, R146, R660). -/

namespace Sys2Proof

/-- One bit of the ring's CRC-16 (R125): polynomial 0x1021, high bit first. -/
def crc16Bit (c : BitVec 16) : BitVec 16 :=
  if c.getLsbD 15 then (c <<< 1) ^^^ 0x1021 else c <<< 1

/-- One byte enters the CRC. -/
def crc16Byte (c : BitVec 16) (b : Byte) : BitVec 16 :=
  (List.range 8).foldl (fun c _ => crc16Bit c) (c ^^^ (b ++ (0 : BitVec 8)))

/-- CRC-16 (R125): start value 0xFFFF, no reflection, no final XOR. -/
def crc16 (l : List Byte) : BitVec 16 := l.foldl crc16Byte 0xFFFF

/-- Bytes of a word, high byte first (R660), and back. -/
def wordBytes (w : Word) : List Byte := [w.extractLsb' 8 8, w.extractLsb' 0 8]
def bytesWord (a b : Byte) : Word := a ++ b

/-- A number of `n` bytes, high byte first, and back. -/
def natBytes : Nat → Nat → List Byte
  | 0, _ => []
  | n + 1, x => natBytes n (x / 256) ++ [BitVec.ofNat 8 x]
def bytesNat (l : List Byte) : Nat := l.foldl (fun n b => 256 * n + b.toNat) 0

/-- Bytes followed by their CRC. -/
def withCrc (l : List Byte) : List Byte := l ++ wordBytes (crc16 l)

/-- A run of bytes that ends in its CRC checks: the CRC sent high byte first leaves zero. -/
def crcChecks (l : List Byte) : Bool := crc16 l == 0

/-- A symbol error on the ring: on the segment into shelf `seg` (32: the return segment to the hub), at a
byte of an item; what the receiver gets there: ERR or another control symbol (none), or another byte. -/
structure Hit where
  seg : Nat
  pos : Nat
  got : Option Byte
deriving DecidableEq, Repr

/-- The bytes of an item as they arrive after segment `n` (R120). -/
def asArrived (hits : List Hit) (n : Nat) (l : List Byte) : List (Option Byte) :=
  hits.foldl (fun x h => if h.seg ≤ n then x.set h.pos h.got else x) (l.map some)

/-- Every symbol arrived as a data byte. -/
def allBytes : List (Option Byte) → Option (List Byte)
  | [] => some []
  | some b :: l => (allBytes l).map (b :: ·)
  | none :: _ => none

/-- Byte `i` of a run; zero past its end. -/
def byteAt (l : List Byte) (i : Nat) : Byte := match (l.drop i).head? with | some b => b | none => 0

/-- Bay record of the CMD frame (Table RG-4). -/
def BayRec.bytes (r : BayRec) : List Byte :=
  [r.mode ++ r.lock ++ r.lampA ++ r.lampB,
   BitVec.ofBool r.clrflt ++ r.edgeseq ++ r.vset.extractLsb' 8 4,
   r.vset.extractLsb' 0 8,
   r.iset.extractLsb' 8 1 ++ r.restat,
   r.iset.extractLsb' 0 8,
   r.lkpulse]

/-- The bay record whose six bytes begin at byte `i`. -/
def BayRec.read (l : List Byte) (i : Nat) : BayRec :=
  let a := byteAt l i
  let b := byteAt l (i + 1)
  let d := byteAt l (i + 3)
  { mode := a.extractLsb' 6 2, lock := a.extractLsb' 4 2, lampA := a.extractLsb' 2 2, lampB := a.extractLsb' 0 2
    clrflt := b.getLsbD 7, edgeseq := b.extractLsb' 4 3, vset := b.extractLsb' 0 4 ++ byteAt l (i + 2)
    iset := d.extractLsb' 7 1 ++ byteAt l (i + 4), restat := d.extractLsb' 0 7, lkpulse := byteAt l (i + 5) }

/-- Tile block of the CMD frame (R126). -/
def TileBlock.bytes (b : TileBlock) : List Byte :=
  b.tflags :: (b.recs[0].bytes ++ b.recs[1].bytes ++ b.recs[2].bytes ++ b.recs[3].bytes)

/-- The first NTILES blocks, one after another. -/
def CmdFrame.blockBytes (f : CmdFrame) : List Byte :=
  ((List.finRange 24).take f.ntiles).flatMap (fun t => f.blocks[t].bytes)

/-- The CMD frame (Tables RG-2, RG-3). -/
def CmdFrame.bytes (f : CmdFrame) : List Byte :=
  withCrc ([0x01, f.seq] ++ wordBytes f.epoch ++ wordBytes f.mcount ++
    [BitVec.ofNat 8 f.ntiles, if f.rpt then 0x80 else 0x00] ++ f.blockBytes)

/-- What a receiver accepts as a CMD frame (R124): no ERR, TYPE, NTILES and CFLAGS without a reserved
value, the length of the type, and the CRC. The TIO outputs, to which the spec gives no byte, are those
of the frame that was sent. -/
def CmdFrame.read (sent : CmdFrame) (x : List (Option Byte)) : Option CmdFrame :=
  match allBytes x with
  | none => none
  | some l =>
    let n := (byteAt l 6).toNat
    if byteAt l 0 = 0x01 ∧ 1 ≤ n ∧ n ≤ 24 ∧ (byteAt l 7).extractLsb' 0 7 = 0 ∧ l.length = 10 + 25 * n ∧
        crcChecks l = true then
      some { seq := byteAt l 1, epoch := bytesWord (byteAt l 2) (byteAt l 3)
             mcount := bytesWord (byteAt l 4) (byteAt l 5), ntiles := n, rpt := (byteAt l 7).getLsbD 7
             blocks := Vector.ofFn fun t =>
               if t.val < n then
                 { sent.blocks[t] with tflags := byteAt l (8 + 25 * t.val)
                                       recs := Vector.ofFn fun p => BayRec.read l (9 + 25 * t.val + 6 * p.val) }
               else sent.blocks[t] }
    else none

/-- The CMD frame as it arrives after segment `n`: as sent where no symbol was hit on the way. -/
def CmdFrame.arrived (f : CmdFrame) (hits : List Hit) (n : Nat) : Option CmdFrame :=
  if hits.any (fun h => decide (h.seg ≤ n)) then f.read (asArrived hits n f.bytes) else some f

/-- Bay record of a TEL slot (Table RG-6). -/
def TelBay.bytes (b : TelBay) : List Byte :=
  let v := BitVec.ofNat 14 b.vout
  let i := BitVec.ofNat 14 b.iout
  let n := BitVec.ofNat 14 b.ntc
  let o := BitVec.ofBool
  [o b.restv ++ o b.isocl ++ v.extractLsb' 8 6, v.extractLsb' 0 8,
   BitVec.ofNat 2 b.att ++ i.extractLsb' 8 6, i.extractLsb' 0 8,
   BitVec.ofNat 2 b.proberes ++ n.extractLsb' 8 6, n.extractLsb' 0 8,
   o b.dropout ++ o b.fold ++ o b.ovp ++ o b.therm ++ o b.oclock ++ o b.preshort ++ o b.revpol ++ o b.cmdrej,
   o b.door ++ o b.lkshort ++ o b.lkopen ++ o b.lampfltA ++ o b.lampfltB ++ o b.smbflt ++ BitVec.ofNat 2 b.dcnt,
   b.edgeack ++ b.aux.extractLsb' 16 1 ++ b.auxsel] ++ wordBytes (b.aux.extractLsb' 0 16)

/-- The bay record whose eleven bytes begin at byte `i` of a slot. -/
def TelBay.read (l : List Byte) (i : Nat) : TelBay :=
  let at_ (k : Nat) : Byte := byteAt l (i + k)
  let wide (k : Nat) : Nat := ((at_ k).extractLsb' 0 6 ++ at_ (k + 1)).toNat
  { restv := (at_ 0).getLsbD 7, isocl := (at_ 0).getLsbD 6, vout := wide 0
    att := ((at_ 2).extractLsb' 6 2).toNat, iout := wide 2
    proberes := ((at_ 4).extractLsb' 6 2).toNat, ntc := wide 4
    dropout := (at_ 6).getLsbD 7, fold := (at_ 6).getLsbD 6, ovp := (at_ 6).getLsbD 5, therm := (at_ 6).getLsbD 4
    oclock := (at_ 6).getLsbD 3, preshort := (at_ 6).getLsbD 2, revpol := (at_ 6).getLsbD 1, cmdrej := (at_ 6).getLsbD 0
    door := (at_ 7).getLsbD 7, lkshort := (at_ 7).getLsbD 6, lkopen := (at_ 7).getLsbD 5, lampfltA := (at_ 7).getLsbD 4
    lampfltB := (at_ 7).getLsbD 3, smbflt := (at_ 7).getLsbD 2, dcnt := ((at_ 7).extractLsb' 0 2).toNat
    edgeack := (at_ 8).extractLsb' 5 3, auxsel := (at_ 8).extractLsb' 0 4
    aux := (at_ 8).extractLsb' 4 1 ++ bytesWord (at_ 9) (at_ 10) }

/-- SLOTST of a filled slot (Table RG-5). -/
def TelSlot.slotst (t : TelSlot) : Byte :=
  let o := BitVec.ofBool
  (1 : BitVec 1) ++ o t.safe ++ o t.clkhold ++ o t.adcfail ++ o t.vinlow ++ o t.vinov ++ o t.cmdok ++ o t.beatfw

/-- A filled slot (Table RG-5): the CRC covers bytes 0 to 51. -/
def TelSlot.bytes (t : TelSlot) : List Byte :=
  withCrc ([BitVec.ofNat 8 t.tileno, t.slotst, t.ackseq, t.epochlo] ++
    t.bays[0].bytes ++ t.bays[1].bytes ++ t.bays[2].bytes ++ t.bays[3].bytes ++ [t.vin, t.vlog, t.die, t.tio])

/-- The telemetry that the bytes of a slot carry. -/
def TelSlot.read (l : List Byte) : TelSlot :=
  let s := byteAt l 1
  { tileno := (byteAt l 0).toNat, safe := s.getLsbD 6, clkhold := s.getLsbD 5, adcfail := s.getLsbD 4
    vinlow := s.getLsbD 3, vinov := s.getLsbD 2, cmdok := s.getLsbD 1, beatfw := s.getLsbD 0
    ackseq := byteAt l 2, epochlo := byteAt l 3, bays := Vector.ofFn fun p => TelBay.read l (4 + 11 * p.val)
    vin := byteAt l 48, vlog := byteAt l 49, die := byteAt l 50, tio := byteAt l 51 }

/-- The bytes of slot `k` as the hub sent them or its tile filled them (R136, R137). -/
def slotBytes (x : Option TelSlot) : List Byte :=
  match x with
  | some t => t.bytes
  | none => List.replicate 54 0

/-- How Face classes a slot (R139), with the telemetry of a VALID one. -/
inductive SlotSeen
  | empty
  | bad
  | valid (t : TelSlot)
deriving DecidableEq, Repr

/-- The class of slot `k` from the bytes that arrived. -/
def classify (k : TileNo) (x : List (Option Byte)) : SlotSeen :=
  match (x.drop 1).head? with
  | some (some st) =>
    if st.getLsbD 7 = false then .empty
    else match allBytes x with
      | some l => if crcChecks l && byteAt l 0 == BitVec.ofNat 8 k.val then .valid (TelSlot.read l) else .bad
      | none => .bad
  | _ => .bad

/-- Slot `k` as it reaches the hub. A slot that no symbol error touched is as its tile filled it: its CRC
checks, and it is VALID when it names `k`. -/
def slotSeen (k : TileNo) (x : Option TelSlot) (hits : List Hit) : SlotSeen :=
  if hits.isEmpty then
    match x with
    | none => .empty
    | some t => if t.tileno = k.val then .valid t else .bad
  else classify k (asArrived hits 32 (slotBytes x))

/-- SLOTST of a slot as it passes shelf `h`: FILLED, or not, or ERR. -/
inductive Passing
  | empty | filled | err
deriving DecidableEq, Repr

def slotPassing (x : Option TelSlot) (hits : List Hit) (h : Nat) : Passing :=
  if hits.isEmpty then (if x.isSome then .filled else .empty)
  else match ((asArrived hits h (slotBytes x)).drop 1).head? with
    | some (some st) => if st.getLsbD 7 then .filled else .empty
    | _ => .err

/-- Header of an SVC frame (R144): bytes 0 to 6. -/
def SvcFrame.head (f : SvcFrame) : List Byte :=
  [0x03, f.sseq, BitVec.ofNat 8 f.tile.val, if f.write then 0x01 else 0x02] ++ wordBytes f.addr ++ [BitVec.ofNat 8 f.len]

/-- An SVC frame: for a read that no tile has answered, zeros in place of the data and the data CRC. -/
def SvcFrame.bytes (f : SvcFrame) : List Byte :=
  let body := if f.write || f.status != 0 then withCrc (padTo 0 f.len f.data) else List.replicate (f.len + 2) 0
  withCrc f.head ++ body ++ [f.status]

/-- What a receiver makes of an SVC frame: the frame, and whether the CRCs of its header and of its data
check; none where R124 has it not received. -/
def SvcFrame.read (x : List (Option Byte)) : Option (SvcFrame × Bool × Bool) :=
  match allBytes x with
  | none => none
  | some l =>
    let n := (byteAt l 6).toNat
    let op := byteAt l 3
    let d := (l.drop 9).take n
    if h : (byteAt l 2).toNat < 24 then
      if byteAt l 0 = 0x03 ∧ (op = 0x01 ∨ op = 0x02) ∧ 1 ≤ n ∧ n ≤ 64 ∧ l.length = 12 + n then
        some ({ sseq := byteAt l 1, tile := ⟨(byteAt l 2).toNat, h⟩, write := op == 0x01
                addr := bytesWord (byteAt l 4) (byteAt l 5), len := n, data := d, status := byteAt l (11 + n) },
              crcChecks (l.take 9), crcChecks ((l.drop 9).take (n + 2)))
      else none
    else none

/-- An SVC frame as it arrives after segment `n`. -/
def SvcFrame.arrived (f : SvcFrame) (hits : List Hit) (n : Nat) : Option (SvcFrame × Bool × Bool) :=
  if hits.any (fun h => decide (h.seg ≤ n)) then SvcFrame.read (asArrived hits n f.bytes) else some (f, true, true)

/-- Entry `k` of an ECHO frame (R146): zeros until its tile has written it. -/
def echoEntry (k : TileNo) (lat : Option Nat) : List Byte :=
  match lat with
  | some l => withCrc (BitVec.ofNat 8 k.val :: wordBytes (BitVec.ofNat 16 l))
  | none => List.replicate 5 0

/-- The latency that entry `k` reports at the hub; none where the entry is BAD. -/
def echoSeen (k : TileNo) (lat : Option Nat) (hits : List Hit) : Option Nat :=
  if hits.isEmpty then lat
  else match allBytes (asArrived hits 32 (echoEntry k lat)) with
    | some l => if crcChecks l && byteAt l 0 == BitVec.ofNat 8 k.val then
                  some (bytesWord (byteAt l 1) (byteAt l 2)).toNat else none
    | none => none

/-- What a tile overwrites at shelf `h`, from byte `from_` on, no longer shows the errors before it. -/
def overwrite (hits : List Hit) (h from_ : Nat) : List Hit :=
  hits.filter (fun x => decide (h < x.seg) || decide (x.pos < from_))

end Sys2Proof
end

