-- ==== Sys2Proof/Machine/BayState.lean ====
section
/-! DEFINITION. The hub's state of one bay, of its orders and of its grant, and the hub's record of one
tile number (chapters 04, 06, 07, 08, 09, 10, 24). Voltages are in mV, currents in mA, temperatures in
0.1 °C, times in ticks of 1 ms unless a comment says otherwise. -/

namespace Sys2Proof

/-- Pack states (Table PK-1, with the codes of BSTAT.PSTATE). -/
inductive Pack
  | empty | seating | detect | reversed | shorted | ready | noprof
deriving DecidableEq, Repr

/-- The phase a charge is in or was interrupted in (Table CP-2 without the four holds and RESUMECHK). -/
inductive Phase
  | none | prechg | cc | cv | topoff | maint | done
deriving DecidableEq, Repr

/-- Chemistries (Table CP-1). -/
inductive Chem
  | nimh | nicd | liion | lifepo4
deriving DecidableEq, Repr

/-- End-of-charge causes (Table CP-3, in code order). -/
inductive Term
  | none | negdv | dtdt | plateau | temp | timer | vmax | hostend | vabs | litimer | pretime | norest
deriving DecidableEq, Repr

/-- The settings of one bay that the hub holds, and of the keeper (Table CP-5, Table WR-3, R603).
The tile-held fields of words 0x42, 0x46 and 0x48 are in `tileCfg`. -/
structure BaySet where
  owner    : BitVec 2 := 0
  prof     : BitVec 3 := 0
  cells    : BitVec 4 := 0
  ichg     : BitVec 9 := 100
  pper     : BitVec 10 := 192
  nidv     : BitVec 5 := 0
  dtdt     : BitVec 5 := 0
  platint  : BitVec 2 := 2
  topoff   : BitVec 2 := 0
  tabs     : BitVec 6 := 0
  tmaxc    : BitVec 7 := 0
  maint    : BitVec 3 := 0
  vcell    : BitVec 9 := 0
  vabsm    : BitVec 4 := 0
  hlwait   : BitVec 6 := 0
  filt     : BitVec 2 := 2
  ntcb     : BitVec 2 := 1
  thermsrc : BitVec 2 := 0
  capmah   : BitVec 16 := 0
  eff      : BitVec 7 := 90
  subst    : BitVec 32 := 0xAAAAAAAA
  tileCfg  : BayTileCfg := {}
deriving DecidableEq, Repr

/-- The committed charge state of a bay or of the keeper (Table NV-2). -/
structure BayRun where
  pack       : Pack := .empty
  deepdis    : Bool := false
  smart      : Bool := false
  chem       : Chem := .nimh
  cells      : Nat := 0
  base       : Phase := .none         -- the phase, or the phase that a hold interrupted
  faultHold  : Bool := false
  tempPause  : Bool := false
  packHold   : Bool := false
  hostLate   : Bool := false
  resume     : Bool := false          -- RESUMECHK
  interrupted : Bool := false         -- an interruption of R223 stands
  intErr     : Nat := 0               -- error bound of the outages since the last pulse, ms (R57)
  intLong    : Bool := false          -- it counts as longer than RESUME_MAX (R56)
  term       : Term := .none
  qacc       : Nat := 0               -- mA·ms
  tchg       : Nat := 0               -- charge time, ticks
  ccTicks    : Nat := 0               -- charge time in CC
  gapTicks   : Nat := 0               -- charge time since pulsing resumed after a long gap (R211)
  gapOpen    : Bool := false          -- such a hold-off is running
  preTicks   : Nat := 0
  topTicks   : Nat := 0
  maintTicks : Nat := 0
  maintPulse : Bool := false          -- a maintenance pulse is due or running
  maintLeft  : Nat := 0               -- ticks left of it
  tempSusp   : Bool := false          -- maintenance suspended by a TEMP end (R215)
  hlRun      : Bool := false
  hlTicks    : Nat := 0
  norest     : Nat := 0               -- charge time since the last rest measurement
  taper      : Nat := 0               -- keeper: charge time below 0.05 C
  armedSet   : Bool := false          -- VPEAK has been set at arming (R211)
  vpeak      : Nat := 0
  below      : Bool := false          -- first below_peak of a pair
  hist       : List (Int × Nat) := [] -- rest temperatures with their ELAPSED stamps, newest first
  platCount  : Nat := 0
  platCmp    : Option Nat := none     -- VREST at the previous plateau rest
  platAt     : Nat := 0               -- charge time of the previous plateau rest
  vrest      : Option Nat := none     -- stored VREST
  trest      : Option Int := none     -- stored rest temperature
  stamp      : Nat := 0
  serial     : Word := 0
  pulseEnd   : Option Nat := none     -- ELAPSED at the end of the last pulse (R223)
deriving DecidableEq, Repr

/-- Where a grant ends (R239, R240). -/
inductive GEnd
  | running                 -- in force
  | atRest (tick : Nat)     -- ends at the rest that starts at this tick (events 1, 2)
  | ended                   -- ended by another event; returns at the next stage
  | passed                  -- PPER has passed without a rest; the Loader sends OFF (event 9)
deriving DecidableEq, Repr

/-- The request and the grant of a bay (Table WB-1). -/
structure WbBay where
  opened   : Bool := false
  setAside : Bool := false
  waits    : Bool := false       -- it asks again at the next stage (R255)
  age      : Nat := 0
  ireq     : Nat := 0
  req      : Nat := 0            -- setts as offered
  entitled : Bool := false
  shrunk   : Bool := false
  granted  : Bool := false
  grant    : Nat := 0            -- setts
  igr      : Nat := 0
  ovrd     : Bool := false
  gstage   : Nat := 0            -- measure counter of the stage that made it
  gtick    : Nat := 0            -- tick of that stage's measure beat
  lent     : Bool := false       -- made in phase 2
  gend     : GEnd := .running
  bad      : Bool := false       -- the record has become uncorrectable and nobody has read it (R255)
deriving DecidableEq, Repr

/-- Steps of detection (R100), which are not committed (R662). -/
inductive DetStep
  | start          -- step 1, then 2: waits for an IDRATIO item
  | probe          -- step 3: PROBE ordered, waits for its result
  | ident          -- step 4: waits for IDDONE
  | fetch          -- step 4: the identification data is being fetched
deriving DecidableEq, Repr

/-- Screen's safety order (R185). -/
inductive Safety
  | none | hold | offclr
deriving DecidableEq, Repr

/-- One poll or alarm word in the hub's SMBus store, with its age in measures (R182). A word never received
since detection is 0 with age 255 (R596). -/
structure StoreWord where
  val : Word := 0
  age : Nat := 255
  got : Bool := false          -- received since detection
deriving DecidableEq, Repr

/-- The hub's uncommitted state of one bay (R190, Table PL-2, Table WR-2). -/
structure BayVol where
  tilest    : BitVec 2 := 2              -- 0 LIVE, 1 STALE, 2 ABSENT
  flags     : BitVec 8 := 0              -- TEL bay-record byte 6
  safe      : Bool := false
  vnow      : Nat := 0
  vavg      : Nat := 0                   -- mV * 256 (R180)
  vrest     : Nat := 0
  vrage     : Nat := 0
  inow      : Nat := 0
  temp      : Option Int := none
  fault     : BitVec 16 := 0
  isocl     : Bool := false
  isoRun    : Nat := 0                   -- ticks OFF with ISOCL = 0 (R224)
  door      : Bool := false
  lkshort   : Bool := false
  lkopen    : Bool := false
  lampflt   : BitVec 2 := 0
  idRatio   : Option Nat := none         -- latest IDRATIO item since DETECT was entered (R100)
  iddone    : Option Bool := none        -- IDDONE of the latest SMBSTAT item since DETECT
  store     : Vector StoreWord 10 := Vector.replicate 10 {}  -- words 0x10 to 0x19
  smbstat   : Word := 0
  smbflt    : Bool := false
  ident     : Ident := {}
  identOk   : Bool := false              -- the identification data has been fetched
  fetchFail : Bool := false              -- SVCFAIL was posted for the fetch
  probeFail : Bool := false
  presRun   : Nat := 0
  missRun   : Nat := 0
  det       : DetStep := .start
  reprobe   : Bool := false              -- a reprobe is due (R102)
  probeT    : Nat := 0                   -- tick of the last probe of a SHORTED bay
  safety    : Safety := .none
  pMode     : BitVec 2 := 0              -- the profile order (R185)
  pIset     : Nat := 50                  -- mA
  pVset     : Nat := 0                   -- mV
  lastEnd   : Option Nat := none         -- ELAPSED at the end of the most recent pulse (R234)
  lastBits  : BitVec 16 := 0             -- input bits (Table RE-3) when the tile was last present (R166)
  dedge     : Bool := false              -- DCNT was not 0 in this measure's latch
  vpk       : Nat := 0                   -- highest VNOW of the most recent pulse
  vpkDue    : Bool := true               -- the next VNOW of a pulse is the first of its pulse
  ipSum     : Nat := 0                   -- INOW summed over pulse ticks, and their count (R216)
  ipCnt     : Nat := 0
  ipulse    : Option Nat := none
  newPulse  : Bool := false              -- a complete pulse has just been measured
  slope     : Int := 0                   -- 0.01 °C/min
  reschk    : BitVec 6 := 0
  mode      : BitVec 2 := 0              -- ORDER word (Loader)
  lock      : BitVec 2 := 0
  lampA     : BitVec 2 := 0
  lampB     : BitVec 2 := 0
  winsrc    : BitVec 3 := 0
  clrSent   : Bool := false
  isetw     : Nat := 50
  vsetw     : Nat := 0
  applied   : BitVec 2 := 0              -- MODE that the tile has applied
  appliedAt : Nat := 0                   -- tick at which it was applied
  prevApp   : BitVec 2 := 0              -- MODE applied before that
  restStart : Option Nat := none         -- tick of the last rest scheduled
  restEnd   : Nat := 0
  edgeAck   : Bool := true               -- the edge set sent has been acknowledged (R133)
  edgeUnl   : Option (BitVec 8) := none  -- edge-type fields of the set sent
  edgeClr   : Bool := false
  pulseUntil : Nat := 0                  -- tick at which the unlock pulse sent ends
  pendUnl   : Option (BitVec 8) := none  -- the pending set (R271)
  pendRank  : Nat := 0
  pendClr   : Bool := false
  mEnd      : Bool := false              -- charge-control orders merged last (R220)
  mCont     : Bool := false
  mRestart  : Bool := false
  emrel     : Bool := false              -- an emergency release is in force (R272)
  badWord   : Bool := false              -- an uncorrectable bay word was read in this measure (R198)
  lastRec   : BayRec := {}               -- the record sent last
  later     : Vector Bool 3 := Vector.replicate 3 false  -- the alarm word of BatteryStatus, ChargingCurrent, ChargingVoltage is the newer
  fetchWait : Bool := false              -- a failed fetch is repeated in a later caesura (R100)
  selfStop  : Option Nat := none         -- ELAPSED at the first slot showing ISOCL = 0 in a pulse without a rest (R223)
  tchgw     : Nat := 0                   -- charge time as TCHG shows it: that of the last VALID measure (R184)
  wb        : WbBay := {}
deriving DecidableEq, Repr

/-- A context's level orders for one bay (R598, Table WR-4). -/
structure BayLvl where
  modeo : BitVec 2 := 0
  locko : BitVec 2 := 0
  aen   : Bool := false
  aval  : BitVec 2 := 0
  ben   : Bool := false
  bval  : BitVec 2 := 0
  emrel : Bool := false
deriving DecidableEq, Repr

/-- A context's edge orders for one bay, until a Loader merges them (R599). -/
structure BayEdge where
  unlkp   : Option (BitVec 8) := none
  clrflt  : Bool := false
  end_    : Bool := false
  cont    : Bool := false
  restart : Bool := false
deriving DecidableEq, Repr

/-- A context's pass-through mailbox for one bay (R600). -/
structure PtBox where
  ptdata : Word := 0
  buf    : List Byte := []
  queued : Option PtReq := none
  merged : Option Nat := none      -- order of merging, once a Loader has merged it
  handed : Bool := false           -- it is in the tile's mailbox
  fetch  : Bool := false           -- a Block Read's data is to be fetched
  done   : Bool := false
  fail   : Bool := false
  bcnt   : Nat := 0
  fcause : BitVec 3 := 0
  word   : Word := 0
deriving DecidableEq, Repr

/-- One context's uncommitted words for one bay. -/
structure CtxBay where
  edge    : BayEdge := {}
  pt      : PtBox := {}
  badLvl  : Bool := false          -- its order entry was uncorrectable (R274)
deriving DecidableEq, Repr

/-- The class of a TEL slot (R139). -/
inductive SlotClass
  | pending | empty | valid | bad
deriving DecidableEq, Repr

/-- Where a number stands in placement and qualification (R158, R160, R161). -/
inductive Qual
  | absent
  | identify               -- a poll or a slot says a tile holds it; the identity block is to be read
  | unnumber               -- 0xFF is to be written
  | renumber (j : TileNo)  -- j is to be written (Table RM-2)
  | push                   -- step 2
  | echo                   -- step 3
  | telem                  -- step 4
  | exit                   -- step 5; the number is no longer absent
  | done                   -- qualified, step 5 passed
deriving DecidableEq, Repr

/-- Causes of a drop (Table HR-5). -/
inductive DropCause
  | stale | tilesafe | epoch | enum
deriving DecidableEq, Repr

/-- The settings of one tile number (Table WR-5). -/
structure TileSet where
  tiocfg    : BitVec 12 := 0x924
  tioown    : BitVec 12 := 0x924
  ringseg   : BitVec 4 := 8
  adcboost  : Bool := true
  tiosubst  : BitVec 16 := 0xAAAA
deriving DecidableEq, Repr

/-- The hub's uncommitted record of one tile number. -/
structure TileHub where
  qual      : Qual := .absent
  stepped   : Bool := false          -- a step has run in this caesura (R160)
  slotBad   : Nat := 0               -- EMPTY or BAD slots in a row before step 4 passes (R160)
  dlyDue    : Bool := false          -- WAIT is to be written to DLY (R289)
  short     : Bool := false          -- a short qualification (R161)
  fails     : Nat := 0
  good      : Nat := 0               -- VALID slots in a row at step 4
  pushNext  : Nat := 0               -- next SVC write of step 2
  pushEpoch : BitVec 16 := 0
  stale     : Nat := 0
  cls       : SlotClass := .pending
  dropped   : Bool := false
  dropMeas  : Bool := false          -- dropped in this measure
  dropLast  : Bool := false          -- dropped in the measure before: DROPMASK (R167)
  rejoin    : Bool := false          -- the rejoin timer runs
  dropTick  : Nat := 0               -- tick of the drop, from which it runs (R168)
  safeDrop  : Bool := false          -- dropped with cause TILESAFE (R169)
  resetBack : Bool := false          -- HELD = 0x00 at step 1
  exitSent  : Nat := 0               -- frames in a row that left with SAFEXIT, up to 2
  exitAck   : Bool := false          -- the tile has told of the frame with SAFEXIT that left at the last measure beat
  fresh     : Bool := true           -- not qualified since the start (R445)
  anyUid    : Bool := false          -- polled by an enumeration or by JOINNEXT: a UID that the map does not hold is placed here
  placed    : Bool := false          -- Table RM-2 has placed the tile; step 1 is repeated without it
  lkOk      : Bool := false          -- STRAPS.LKSAFE of the identity block equals LOCKDEF
  settled   : Bool := false          -- Muster waits for this number no longer (R466)
  epFails   : Nat := 0               -- failed pushes under R172
  epBad     : Bool := false          -- EPOCHLO differs
  pushDue   : Bool := false          -- a push of R170 or R172 is due
  acked     : Bool := true           -- it has acknowledged the push of R170
  pushTry   : Nat := 0
  safe      : Bool := false
  clkhold   : Bool := false
  adcfail   : Bool := false
  vinlow    : Bool := false
  vinov     : Bool := false
  vin       : BitVec 8 := 0
  vlog      : BitVec 8 := 0
  die       : BitVec 8 := 0
  tio       : BitVec 8 := 0          -- last valid TIO byte
  rev       : BitVec 8 := 0
  proto     : BitVec 8 := 0
  farHold   : Bool := false          -- held at step 3 by the first ECHO of Muster (R301)
  lat       : Nat := 0               -- LAT last reported by ECHO
  dly       : Nat := 0               -- DLY last written
  tioDrv    : BitVec 4 := 0          -- merged TIO orders (Table CN-6)
  tioVal    : BitVec 4 := 0
  tioIn     : Bool := true           -- the pins are inputs: an absent number or a hold
deriving DecidableEq, Repr

end Sys2Proof
end

