-- ==== Sys2Proof/Machine/HostState.lean ====
section
/-! DEFINITION. The state of the host contexts, the timer channels, the hub's side of the ring, the
Weighbridge's cabinet values, the pipeline, and the retention memory with its slots
(chapters 05, 06, 07, 09, 11, 14, 22, 24). -/

namespace Sys2Proof

/-- An entry of an event queue (R576). -/
structure Event where
  code : Word := 0
  arg0 : Word := 0
  arg1 : Word := 0
  mc   : Word := 0
deriving DecidableEq, Repr

/-- One window of a context (R567 to R575). -/
structure Win where
  sel  : BitVec 4 := 0
  idx  : BitVec 7 := 0
  ptr  : Nat := 0                        -- 18 bits
  inc  : BitVec 2 := 1
  rbuf : Option (Nat × List Byte) := none  -- byte address and bytes of the read buffer
  wbuf : List (Nat × Word) := []         -- words to write, by pointer
deriving DecidableEq, Repr

/-- The registers a context has to itself (R565). Context 5 is the debug context (R624). -/
structure Ctx where
  rej     : Bool := false
  abort   : Bool := false
  rmerr   : Bool := false
  evovf   : Bool := false
  rejinfo : Option (BitVec 8) := none
  lost    : Nat := 0
  evmask  : Word := 0x03FE
  inten   : Bool := false
  queue   : List Event := []
  pos     : Nat := 0
  wins    : Vector Win 2 := Vector.replicate 2 {}
  latch   : List (Nat × Nat) := []       -- wide fields as latched by the read of their lowest word (R566)
  stage   : List (Nat × Word) := []      -- staged upper words of wide writes
  hpage   : BitVec 2 := 0                -- the SYS page (context 4) and the debugger's own (context 5)
deriving DecidableEq, Repr

/-- HUBERR (Table HR-2). -/
structure HubErr where
  buserr  : Bool := false
  ha      : BitVec 7 := 0
  hctx    : BitVec 3 := 0
  strobes : Bool := false
deriving DecidableEq, Repr

/-- Settings of a timer channel (Table TC-3). -/
structure TimerSet where
  en      : Bool := false
  clksel  : BitVec 3 := 0
  presc   : BitVec 4 := 0
  oneshot : Bool := false
  casc    : Bool := false
  wall    : Bool := false
  frz     : Bool := true
  outen   : Bool := false
  syncsel : BitVec 2 := 0
  capsel  : BitVec 8 := 0
  edge    : BitVec 2 := 0
  ie      : BitVec 4 := 0
  owner   : BitVec 3 := 4
  per     : Word := 0xFFFF
  cmp     : Word := 0xFFFF
  phase   : Word := 0
deriving DecidableEq, Repr

/-- The running part of a timer channel (R276 to R287). COUNT is in the committed state. -/
structure TimerSt where
  wrap    : Bool := false
  match_  : Bool := false
  done    : Bool := false
  capovf  : Bool := false
  queue   : List (Word × BitVec 8) := []     -- captured value and CAPSRC
  hist    : List (Nat × Word) := []          -- last 128 tick beats: tick and COUNT (R283)
  latches : Vector Word 6 := Vector.replicate 6 0   -- upper members, per context (R280)
  lastsrc : Vector (BitVec 8) 6 := Vector.replicate 6 0
  out     : Bool := false                    -- the TMRIO level it drives
  stopped : Bool := false                    -- a one-shot channel stands at PER (R277)
  pre     : Nat := 0                         -- clock edges that the prescaler holds
  used    : Nat := 0                         -- counts since the last tick beat, by its events
  loose   : Bool := false                    -- COUNT was set, or a halt began or ended, within the tick
deriving DecidableEq, Repr

/-- A service frame's purpose at the hub. -/
inductive SvcJob
  | number (t : TileNo) (val : BitVec 8)     -- TILENO to the tile that answers to `t`
  | identity (t : TileNo)
  | push (t : TileNo) (step : Nat)           -- the configuration push: field `step`, PENDEPOCH last
  | dly (t : TileNo)
  | mailbox (b : Bay) (c : CtxId)
  | result (b : Bay) (c : CtxId)
  | identData (b : Bay)
deriving DecidableEq, Repr

/-- A service frame that the hub is sending or resending (R144, R145). -/
structure SvcRun where
  job   : SvcJob
  frame : SvcFrame := {}
  hits  : List Hit := []                     -- symbol errors of the frame on the ring
  tries : Nat := 1
  back  : Bool := false                      -- it must be sent again
  wait  : Bool := false                      -- not before the next measure beat
deriving DecidableEq, Repr

/-- An outstanding SHED set (R142). -/
structure ShedOut where
  set   : ShedSet
  again : Bool := false                      -- it has been sent a second time
deriving DecidableEq, Repr

/-- The set that sheds `mask` of tile `d1`. -/
def ShedSet.mk' (d1 : BitVec 8) (mask : BitVec 4) : ShedSet :=
  { d1 := d1
    d2 := mask ++ (d1.extractLsb' 4 4 ^^^ d1.extractLsb' 0 4 ^^^ mask ^^^ (0xA : BitVec 4)) }

/-- The set that names every bay of every tile (Table RG-8). -/
def shedAll : ShedSet := ShedSet.mk' 0xFF 15

/-- The hub's side of the ring (chapters 05, 06). -/
structure Ring where
  running  : Bool := false                   -- measures run; otherwise electrical idle
  seq      : BitVec 8 := 0
  built    : Option CmdFrame := none         -- Haul's frame for the next measure
  lastEpoch : BitVec 16 := 0                 -- EPOCH of the frame that left at the previous beat (R172)
  cmd      : Option CmdFrame := none         -- the CMD frame of this measure
  cmdHits  : List Hit := []                  -- symbol errors of the copy on the ring
  cmdBack  : Bool := false                   -- it has returned valid
  rptDue   : Bool := false
  rptSent  : Bool := false
  tel      : Vector (Option TelSlot) 24 := Vector.replicate 24 none
  telHead  : List Hit := []                  -- symbol errors of the TEL header, and of each slot
  telHits  : Vector (List Hit) 24 := Vector.replicate 24 []
  sheds    : List ShedOut := []
  shedCnt  : Vector Nat 24 := Vector.replicate 24 0   -- sets sent per tile in this measure (R143)
  svc      : Option SvcRun := none
  sseq     : BitVec 8 := 0
  svcLive  : Bool := false                   -- a service frame is on the ring
  poll     : Option TileNo := none           -- the join poll on the ring
  pollStat : BitVec 8 := 0
  pollHits : List Hit := []                  -- symbol errors of the poll
  polled   : Bool := false                   -- this measure's join poll has been sent (R158)
  echo     : Option (Vector (Option Nat) 24) := none  -- the ECHO frame on the ring
  echoHead : List Hit := []                  -- symbol errors of its header, and of each entry
  echoHits : Vector (List Hit) 24 := Vector.replicate 24 []
  echoSeq  : BitVec 8 := 0
  echoDue  : Bool := false                   -- an ECHO is called for in Muster (R464)
  lastCand : Option TileNo := none           -- the candidate polled last (R158)
  firstEcho : Bool := false                  -- the first ECHO after Muster has started is to come (R301)
  enumDue  : Bool := false                   -- a full enumeration has been asked for
  enum_    : Option Nat := none              -- next number that a full enumeration polls (R157)
  mustPoll : List TileNo := []               -- join polls that Muster still sends (R465)
deriving DecidableEq, Repr

/-- The ring in Tacet: two SHED sets, then electrical idle (R455, Table ST-2). -/
def tacetRing : Ring := { sheds := [{ set := shedAll }, { set := shedAll }] }

/-- The Weighbridge's cabinet and tenant values (R227 to R255, Table WR-11). -/
structure Weigh where
  bifW    : Nat := 0                           -- BIF, FEEDBUD, LINKBUD as the latest stage found them (R609)
  feedW   : Nat := 0
  linkW   : Nat := 0
  pool    : Nat := 0                           -- setts, as in force
  e       : Nat := 0
  claim   : Option Tenant := none
  claimReq : Option Bay := none                -- claim_req; none once that request has ended
  ptr     : Tenant := 0
  share   : Vector Nat 4 := Vector.replicate 4 0
  def_    : Vector Int 4 := Vector.replicate 4 0
  shedrev : Vector Nat 4 := Vector.replicate 4 0
deriving DecidableEq, Repr

/-- What the pipeline is doing, as the coda record names it (Table WD-2). -/
inductive PStage
  | caesura | front | voice | loader | haul | journal
deriving DecidableEq, Repr

/-- The measure pipeline (chapter 07). -/
structure Pipe where
  stage    : PStage := .caesura
  closed   : Bool := false                   -- Face has closed its intake
  wbDone   : Bool := false
  ldDone   : Bool := false
  haulDone : Bool := false
  merged   : Bool := false                   -- the Loader's records are those to be sent
  hold     : Bool := false                   -- a hold frame stands for the next measure (R194)
  recs     : Vector BayRec 96 := Vector.replicate 96 {}  -- the Loader's records
  safexit  : Vector Bool 24 := Vector.replicate 24 false
  shedDue  : Vector (BitVec 4) 24 := Vector.replicate 24 0
deriving DecidableEq, Repr

/-- An install word (R368). -/
structure InstWord where
  area   : Bool := false
  clr    : Bool := false
  iepoch : BitVec 32 := 0
deriving DecidableEq, Repr

/-- A requester of the retention port (Table CN-4). POWERFAIL is the command POWER_FAIL itself. -/
inductive PortReq
  | journal | coda
  | install (v : VoiceId)
  | host
  | debug                                    -- the debugger's block transfer, which is HOST's (R264, R628)
deriving DecidableEq, Repr

/-- The retention port (R261, R262): who holds it, who waits for it, in the order of asking, with the lines that
each has still to move, and whether HOST held it last of INSTALL and HOST. -/
structure RetPort where
  holder   : Option (PortReq × Nat) := none
  waits    : List (PortReq × Nat) := []
  hostLast : Bool := false
deriving DecidableEq, Repr

/-- A register of a window that a cycle writes. -/
inductive WinField
  | sel | idx | ptrl | ptrh | ctl
deriving DecidableEq, Repr

/-- A cycle at a window that HWAIT# holds until a transfer has completed (R574, R575). -/
inductive HostOp
  | read (c : CtxId) (n : Fin 2) (failed : Bool)      -- its fetch has failed
  | write (c : CtxId) (n : Fin 2) (x : Word)
  | reg (c : CtxId) (n : Fin 2) (r : WinField) (x : Word)
deriving DecidableEq, Repr

/-- The power-fail record (Table NV-5). -/
structure PfRec where
  cause    : BitVec 4 := 0
  mcount   : BitVec 32 := 0
  cseq     : BitVec 32 := 0
  elapsed  : BitVec 64 := 0
  cut      : BitVec 4 := 0
  hostctx  : CtxId := 0
  hostaddr : Nat := 0
  crc      : BitVec 16 := 0
deriving DecidableEq, Repr

end Sys2Proof
end

