-- ==== Sys2Proof/Machine/SecState.lean ====
section
/-! DEFINITION. The state of the security unit, the debug session and the test access port
(chapter 25). -/

namespace Sys2Proof

/-- Security levels (SECSTAT.LEVEL). -/
inductive Level
  | develop | field | sealed_
deriving DecidableEq, Repr

/-- Debug states (SECSTAT.DEBUG). -/
inductive Dbg
  | none | observe | control
deriving DecidableEq, Repr

/-- A context's session and code failures (R615 to R618). An instant of the security unit is the number of its tick;
none where a reset has come between, whose length ticks do not hold. -/
structure Session where
  open_    : Bool := false
  adminOpen : Bool := false
  pending  : Option (BitVec 64) := none
  pendTo   : Option Nat := none             -- the tick to which the pending code stands (R617)
  failures : Nat := 0
  refusing : Bool := false
  refuseTo : Option Nat := none             -- the tick to which ACODE is refused (R618)
deriving DecidableEq, Repr

/-- JTAG instructions (Table SE-1). -/
inductive Jtag
  | extest | idcode | sample | clamp | highz | dbgreq | dbgchal | dbgresp | dbgend | dbgacc | dbgctl
  | tmuxsel | secread | keyload | bypass
deriving DecidableEq, Repr

/-- One instruction breakpoint (R625, R629). -/
structure Brk where
  en    : Bool := false
  voice : VoiceId := 0
  idx   : BitVec 20 := 0
  hit   : Bool := false
deriving DecidableEq, Repr

/-- The security unit. The key area holds a verifier of each code; the model holds the code. -/
structure Sec where
  level     : Level := .develop
  newLevel  : Option Level := none          -- written, in force at the next beat (R614)
  levelDue  : Bool := false                 -- that beat has come
  codes     : Vector (Option (BitVec 64)) 4 := Vector.replicate 4 none
  admin     : Option (BitVec 64) := none
  key       : Option (BitVec 256) := none   -- the debug key
  sess      : Vector Session 5 := Vector.replicate 5 {}
  granted   : Dbg := .none
  request   : Dbg := .none                  -- the state last written with DBGREQ
  nonce     : Option (BitVec 64) := none
  nonceTo   : Option Nat := none            -- the tick to which the nonce is valid (R621)
  failures  : Nat := 0                      -- DBGRESP failures
  lockout   : Bool := false                 -- the 1 s after a failure (R622)
  lockTo    : Option Nat := none            -- the tick to which it lasts
  ir        : Jtag := .idcode
  dr        : BitVec 64 := 0                -- what the last Capture-DR returned
  preload   : Bool := false                 -- the boundary has been sampled or preloaded
  coreReset : Bool := false                 -- EXTEST, CLAMP or HIGHZ holds the core (R630)
  brks      : Vector Brk 8 := Vector.replicate 8 {}
  brkVoice  : Option VoiceId := none        -- the voice stopped at a breakpoint
  accData   : Word := 0                     -- result of the last DBGACC access
  accDone   : Bool := false
  accRej    : Bool := false
  accOp     : Option HostOp := none         -- the access that runs on, for its transfer of the retention memory (R628)
  tmsel0    : BitVec 8 := 0
  tmsel1    : BitVec 8 := 0
deriving DecidableEq, Repr

end Sys2Proof
end

