-- ==== Sys2Proof/Machine/VoiceState.lean ====
section
/-! DEFINITION. The state of the Refrain engine and of one voice: operand areas, soft timers, counters,
the execution registers, the program copy and the install (chapters 12, 13, 24). -/

namespace Sys2Proof

/-- Voice states (Table RE-6, coded as VSTAT.STATE). -/
inductive VState
  | empty | stop | run | fault
deriving DecidableEq, Repr

/-- Engine states (R319). TRAP is the state of R391, outside RUN, STOP and HALT. -/
inductive EState
  | run | stop | halt | trap
deriving DecidableEq, Repr

/-- The kind of a soft timer (Table WR-8). -/
inductive TKind
  | ton | tof | tp | tacc
deriving DecidableEq, Repr

/-- A soft timer (chapter 13). BASE is held as its code: 1, 10, 100, 1000 ticks. -/
structure SoftTimer where
  pre  : BitVec 16 := 0
  base : BitVec 2 := 0
  wall : Bool := false
  acc  : Nat := 0
  rest : Nat := 0                 -- SLOW periods below one tick that outages have left a wall timer (R58)
  run  : Bool := false
  dn   : Bool := false
  out  : Bool := false
  inp  : Bool := false
  kind : TKind := .ton
deriving DecidableEq, Repr

/-- A counter (R347). -/
structure Counter where
  val : BitVec 16 := 0
  pre : BitVec 16 := 0
  uin : Bool := false
  din : Bool := false
deriving DecidableEq, Repr

/-- Entries of a program (Table RE-1). -/
inductive Entry
  | main | drop | coda
deriving DecidableEq, Repr

/-- The operation that a branch entry holds (R339). -/
inductive BrOp
  | and | andn | or | orn | xor | xorn
deriving DecidableEq, Repr

/-- The active program of a voice, as the on-chip copy holds it (Table RE-8). -/
structure Program where
  code   : List (BitVec 32) := []
  main   : Nat := 0
  drop   : Option Nat := none
  coda   : Option Nat := none
  k      : List Word := []
  progid : BitVec 32 := 0
  safe   : BitVec 1728 := 0       -- safe-value table
deriving DecidableEq, Repr

/-- The committed state of a voice (Table NV-2): settings, STATE, faults and the retained areas. -/
structure VoiceRun where
  state    : VState := .empty
  lastflt  : BitVec 4 := 0
  fltidx   : BitVec 20 := 0
  depoch   : BitVec 32 := 0
  clrdata  : Bool := false
  pulselen : BitVec 8 := 50
  q        : BitVec 1728 := 0     -- latched output image
  m        : BitVec 2048 := 0
  e        : BitVec 1024 := 0
  t        : Vector SoftTimer 128 := Vector.replicate 128 {}
  c        : Vector Counter 128 := Vector.replicate 128 {}
  w        : Vector Word 512 := Vector.replicate 512 0
deriving DecidableEq, Repr

/-- A RAISE waiting for its slot's latch (R348). -/
structure Raised where
  code : BitVec 8
  more : Bool := false
deriving DecidableEq, Repr

/-- The uncommitted state of a voice. -/
structure VoiceVol where
  prog      : Program := {}
  cmdRun    : Bool := false       -- VCMD commands waiting for the next slot
  cmdStop   : Bool := false
  cmdInst   : Option CtxId := none
  instBusy  : Bool := false
  instCtx   : CtxId := 4
  toStop    : Bool := false       -- a passed install puts the voice in STOP at its next slot
  instres   : BitVec 3 := 0
  failidx   : BitVec 20 := 0
  reload    : Bool := false       -- PROGMEM: the next RUN reloads the copy (R331)
  restore   : List DArea := []    -- DATAMEM: the next RUN restores these areas
  first     : Bool := false       -- VFLAGS.FIRST for the next slot
  resumed   : Bool := false       -- VFLAGS.RESUMED for the next slot
  dropDue   : Bool := false       -- DROP runs in this measure (R167)
  active    : Bool := false       -- the slot is running
  entry     : Option Entry := none
  pc        : Nat := 0
  rlo       : Bool := false
  wacc      : BitVec 16 := 0
  xr        : BitVec 16 := 0
  stack     : List (Bool × BrOp) := []
  cycles    : Nat := 0
  spent     : Bool := false       -- the cycles left do not hold the instruction that comes next
  memErr    : Option MemHit := none  -- the instruction that meets an uncorrectable word (R331)
  progErrs  : Nat := 0            -- PROGMEM and DATAMEM faults so far (Table WD-2)
  dataErrs  : Nat := 0
  dropRan   : Bool := false
  faulted   : Bool := false       -- a fault in this slot: the latch takes the safe values
  broken    : Bool := false       -- stopped at a breakpoint: the image is not latched
  i         : BitVec 1792 := 0    -- input image of the last refresh
  qw        : BitVec 1728 := 0    -- working output image
  b         : Vector (Vector Word 16) 96 := Vector.replicate 96 (Vector.replicate 16 0)
  s         : Vector Word 32 := Vector.replicate 32 0
  raised    : List Raised := []
  edgesOff  : Bool := false       -- the latched edge bits have been used (R310, R327, R328)
  lastTick  : Nat := 0            -- tick of the previous refresh (R316)
  runTicks  : Nat := 0            -- tick beats since then with the voice and the engine in RUN
deriving DecidableEq, Repr

/-- The engine outside the committed state (R319, R320, R327, chapter 15). -/
structure Engine where
  cmdRun    : Bool := false       -- ENGCTL commands waiting for the next SYS slot
  cmdStop   : Bool := false
  gack      : Bool := false       -- a GACK was accepted; the hold ends at the next beat
  lastOver  : Bool := false       -- the last complete measure raised MEASOVR
  thisOver  : Bool := false       -- this measure has raised one
  cause     : BitVec 2 := 0       -- MEASOVR cause: 1 LOADER, 2 FRONT, 3 HAUL
  haltReq   : Bool := false
  haltDue   : Bool := false       -- the T3 slot has ended and the engine is to enter HALT (R327, R328)
  stepReq   : Bool := false
  slot      : Option VoiceId := none   -- the slot in progress
  ran       : Bool := false       -- its voice runs
  next      : Option VoiceId := none   -- whose slot comes next in this measure (R21)
  noVoices  : Bool := false       -- the voices of this measure do not run (R195)
  brkHit    : Bool := false       -- a breakpoint was reached in this measure (R328)
  stepping  : Bool := false       -- the measure of a STEP is running
  halted    : Bool := false       -- the engine is in HALT (R327)
deriving DecidableEq, Repr

end Sys2Proof
end

