-- ==== Sys2Proof/Machine/Settings.lean ====
section
/-! DEFINITION. The committed state (Table NV-2): every setting of the hub and of its banks, and the
state that the journal writes; and the retention memory that holds it (chapters 14, 23, 24). -/

namespace Sys2Proof

/-- CLKCTL (Table CK-3). -/
structure ClkSet where
  srcsel   : BitVec 2 := 0
  xtalppm  : BitVec 2 := 0
  dormband : BitVec 2 := 0
deriving DecidableEq, Repr

/-- The measure layout (Table HR-2). Slots are in units of 0.1 ms. -/
structure LayoutSet where
  period : BitVec 7 := 10
  sys    : BitVec 7 := 10
  t      : Vector (BitVec 7) 4 := Vector.replicate 4 8
deriving DecidableEq, Repr

/-- Weighbridge and canon settings (Tables WB-2, TC-2). -/
structure WbSet where
  cabbud   : BitVec 15 := 9600
  reserve  : BitVec 12 := 400
  wgt      : Vector (BitVec 4) 4 := Vector.replicate 4 1
  floor    : Vector (BitVec 2) 4 := Vector.replicate 4 0
  shrinkw  : BitVec 6 := 10
  quant    : BitVec 2 := 1
  canonper : BitVec 10 := 192
  phmap    : Bool := false
deriving DecidableEq, Repr

/-- Ring, membership and start settings (RINGCTL, MEMBCTL, STARTCTL, CODACTL). -/
structure RingSet where
  rpten    : Bool := true
  echoper  : BitVec 2 := 0
  retseg   : BitVec 4 := 8
  joinen   : Bool := true
  rejoin   : BitVec 6 := 5
  joinnext : BitVec 5 := 31
  mustmax  : BitVec 4 := 4
  coldrun  : Bool := true
  keep     : BitVec 4 := 0
deriving DecidableEq, Repr

/-- Feeder and keeper settings (Table KP-4). -/
structure PowerSet where
  feed   : Vector FeedSet 2 := Vector.replicate 2 {}
  kpri   : Vector (BitVec 3) 4 := #v[1, 2, 3, 4]
  khold  : BitVec 2 := 2
  kilimf : BitVec 6 := 60
  kilimp : BitVec 6 := 60
  batoc  : BitVec 2 := 2
  vnode  : BitVec 8 := 130
deriving DecidableEq, Repr

/-- MODECTL (Table PM-5, Table HR-3). -/
structure ModeSet where
  lampsvc    : Bool := false
  doorsvc    : Bool := true
  dormlk     : Bool := false
  dormresume : Bool := true
  wakeen     : BitVec 3 := 4
  wakeedge   : Bool := false
  holddorm   : BitVec 8 := 0
  wakeivl    : BitVec 8 := 60
  vdorm      : BitVec 8 := 0
  resmax     : BitVec 8 := 10
deriving DecidableEq, Repr

/-- LINKCTL (Table SW-9). -/
structure LinkSet where
  sharen   : Bool := false
  timepri  : BitVec 4 := 1
  linkauto : Bool := true
  shcap    : BitVec 15 := 9600
  shmin    : BitVec 15 := 4800
  shfall   : BitVec 15 := 4800
deriving DecidableEq, Repr

/-- Every RW setting of the hub registers and of the window banks, but those in `VoiceRun`. -/
structure Settings where
  clk    : ClkSet := {}
  layout : LayoutSet := {}
  wb     : WbSet := {}
  ring   : RingSet := {}
  power  : PowerSet := {}
  mode   : ModeSet := {}
  link   : LinkSet := {}
  bays   : Vector BaySet 96 := Vector.replicate 96 {}
  keep   : BaySet := { prof := 1, cells := 10, ichg := 100 }
  tiles  : Vector TileSet 24 := Vector.replicate 24 {}
  timers : Vector TimerSet 16 := Vector.replicate 16 {}
  ports  : Vector PortSet 2 := Vector.replicate 2 {}
deriving DecidableEq, Repr

/-- The push state of an epoch (R170). -/
structure PushSt where
  pending : Bool := false            -- a change waits for its push to end before CMD frames carry it
  carried : BitVec 16 := 0           -- the EPOCH that CMD frames carry
  change  : Bool := false            -- a tile-held setting has changed since the last Loader
  due     : Bool := false            -- it had changed when this measure's Loader ended: its journal increments EPOCH
deriving DecidableEq, Repr

/-- The committed state (Table NV-2). -/
structure Committed where
  mcount   : BitVec 32 := 0
  cseq     : BitVec 32 := 0
  epoch    : BitVec 16 := 0
  push     : PushSt := {}
  canoncnt : Nat := 0
  elapsed  : BitVec 64 := 0          -- ELAPSED at the committed measure beat
  ctofs    : BitVec 48 := 0
  set      : Settings := {}
  map      : Vector (Option (BitVec 64)) 24 := Vector.replicate 24 none
  mapValid : Bool := false
  lvl      : Vector (Vector BayLvl 96) 5 := Vector.replicate 5 (Vector.replicate 96 {})
  tioord   : Vector (Vector (BitVec 8) 24) 5 := Vector.replicate 5 (Vector.replicate 24 0)
  edgeSeq  : Vector (BitVec 3) 96 := Vector.replicate 96 0
  bays     : Vector BayRun 96 := Vector.replicate 96 {}
  keep     : BayRun := {}
  tcount   : Vector Word 16 := Vector.replicate 16 0
  trest    : Vector Nat 16 := Vector.replicate 16 0   -- as a soft timer's `rest`, of the group that a channel leads
  voices   : Vector VoiceRun 5 := Vector.replicate 5 {}
  engStop  : Bool := false           -- the engine is in STOP (R319, R320)
  guard    : Bool := false           -- the STOP carries cause GUARD (R320, R385)
  link     : LState := .none
deriving DecidableEq, Repr

/-- The committed values that are in no other class of Table NV-2. -/
structure CoreLine where
  mcount   : BitVec 32
  cseq     : BitVec 32
  epoch    : BitVec 16
  push     : PushSt
  canoncnt : Nat
  elapsed  : BitVec 64
  ctofs    : BitVec 48
  mapValid : Bool
  engStop  : Bool
  guard    : Bool
  link     : LState
deriving DecidableEq, Repr

/-- The order state of the contexts (Table NV-2, class Contexts). -/
structure CtxLine where
  lvl     : Vector (Vector BayLvl 96) 5
  tioord  : Vector (Vector (BitVec 8) 24) 5
  edgeSeq : Vector (BitVec 3) 96
deriving DecidableEq, Repr

/-- What one line of a state bank holds by the Lines column of Table NV-2: a part of its class, numbered where the class
has more than one line, or one whole item. -/
inductive LineBody
  | core (x : CoreLine) (j : Nat)
  | settings (x : Settings) (voices : List (Bool × BitVec 8)) (j : Nat)
  | tile (x : Option (BitVec 64))
  | contexts (x : CtxLine) (j : Nat)
  | charge (x : BayRun) (j : Nat)
  | channels (x : Vector TimerSet 16) (count : Vector Word 16) (rest : Vector Nat 16) (j : Nat)
  | voice (state : VState) (lastflt : BitVec 4) (fltidx : BitVec 20) (depoch : BitVec 32) (j : Nat)
  | bits (x : BitVec 64)
  | soft (x : SoftTimer)
  | counter (x : Counter)
  | words (a b c d : Word)
  | unused (i : Nat)
deriving DecidableEq, Repr

/-- A state bank with its commit slot (R357). -/
structure Bank where
  slot   : Vector (BitVec 64) 2 := Vector.replicate 2 0   -- the two lines of its commit slot (Table NV-3)
  digest : BitVec 32 := 0                           -- the digest that the hub keeps current (R359)
  img    : Committed := {}                          -- what the bank held at its last commit
  part   : List (Nat × BitVec 64) := []             -- lines that have been written since
  bad    : List Nat := []                           -- lines known to be uncorrectable
deriving DecidableEq, Repr

/-- The retention memory (chapter 14). `mem` holds program areas, coda slots and scratch areas as
bytes; the state banks and the rest of the control area are held as what they say. -/
structure Nv where
  mem      : List (Nat × Byte) := []
  bankA    : Bank := {}
  bankB    : Bank := {}
  onB      : Bool := false                    -- the active bank
  header   : Bool := false                    -- the layout header matches (R365)
  inst     : Vector (Vector (BitVec 64) 2) 5 := Vector.replicate 5 (Vector.replicate 2 0)  -- install slots (R368)
  snap     : Option Committed := none         -- the snapshot that the journal writes (R361)
  layout   : LayoutSet := {}                  -- the layout that a journal last recorded (R30)
  defer    : Bool := false
  nocommit : Bool := false
  cage     : Nat := 0
  failRun  : Nat := 0                         -- journals in a row ended by a line failure (R380)
  fullAt   : Bool := false                    -- the last journal satisfied R364
  pf       : Option PfRec := none             -- the power-fail record
  pfStart  : Option PfRec := none             -- the same, as checked at the last start
  codaBad  : Vector Bool 4 := Vector.replicate 4 false  -- slots whose record was cut (R376, R381)
  port     : RetPort := {}
deriving DecidableEq, Repr

end Sys2Proof
end

