-- ==== Sys2Proof/Config.lean ====
section
/-! DEFINITION. The free values: constants with no body, so that nothing can be proved of what they
give. Each is applied to the counter `State.free`, which the taking step advances. -/

namespace Sys2Proof.Config

/-- A word that the spec leaves open. -/
opaque freeWord : Nat → BitVec 16

/-- A byte of a region of the retention memory whose layout the spec does not give. -/
opaque freeByte : Nat → BitVec 8

/-- A 64-bit value from the on-chip random source (R621). -/
opaque freeNonce : Nat → BitVec 64

/-- A quantity that the spec leaves open. -/
opaque freeNat : Nat → Nat

/-- A choice that the spec leaves open. -/
opaque freeBool : Nat → Bool

/-- The current in mA of Rp at Default USB, which the spec does not state (R485). -/
opaque rpDefaultMa : Nat

/-- The level of a TIO output that no source gives an order for (Table CN-6). -/
opaque tioIdle : Nat → Bool

/-- The 8 bytes of a line of a state bank: the spec names what a line holds (Table NV-2) and gives its parts no places.
Applied to what the line holds, not to the counter. -/
opaque lineBits : LineBody → BitVec 64

end Sys2Proof.Config
end

