-- ==== Sys2Proof/Machine/State.lean ====
section
/-! DEFINITION. The state of the block: the hub, its ring of tiles, and the queue of waiting commands;
the reasons for which a step can stop; and the state right after a power-on reset. -/

namespace Sys2Proof.Machine

/-- Why the block stops with a fault. The spec names no condition on which the block itself stops: no
command raises a fault. -/
inductive Fault
  /-- Raised by no meaning. Safe: a machine that would stop here can prove nothing about a next state. -/
  | stopped
deriving DecidableEq, Repr

/-- Why a command is refused. -/
inductive Refusal
  /-- The command has no meaning in the model; raised by an arm of `exec` only. Safe. -/
  | notModelled (mnemonic : String)
deriving DecidableEq, Repr

/-- The state. The fields of nested structures are grouped by the chapter that names them. -/
structure State where
  /-- The commands that wait, first in, first out. The model's own. -/
  pending : List Instr := []
  /-- How many free values have been taken. The model's own; no statement rests on its value. -/
  free    : Nat := 0
  /-- The committed state as it stands (Table NV-2). -/
  c       : Committed := {}
  /-- The settings in force; a written setting takes its place here at a measure beat. -/
  act     : Settings := {}
  /-- The retention memory (chapter 14). -/
  nv      : Nv := {}
  clk     : Clock := {}
  start   : Start := {}
  wd      : Watchdog := {}
  mode    : ModeSt := {}
  keeper  : Keeper := {}
  latch   : Latch := {}
  feeders : Vector Feeder 2 := Vector.replicate 2 {}
  /-- The tiles, in hop order. -/
  tiles   : Vector Tile 32 := Vector.replicate 32 {}
  /-- The hub's record of each tile number. -/
  hub     : Vector TileHub 24 := Vector.replicate 24 {}
  ring    : Ring := {}
  bays    : Vector BayVol 96 := Vector.replicate 96 {}
  keep    : BayVol := {}
  /-- Edge orders and pass-through mailboxes, per context and bay. -/
  ctxBay  : Vector (Vector CtxBay 96) 5 := Vector.replicate 5 (Vector.replicate 96 {})
  /-- How many pass-throughs the Loader has merged (R600). -/
  ptCount : Nat := 0
  wb      : Weigh := {}
  pipe    : Pipe := {}
  voices  : Vector VoiceVol 5 := Vector.replicate 5 {}
  eng     : Engine := {}
  timers  : Vector TimerSt 16 := Vector.replicate 16 {}
  ctxs    : Vector Ctx 6 := Vector.replicate 6 {}
  huberr  : HubErr := {}
  /-- The cycle that HWAIT# holds (R574, R575). -/
  held    : Option HostOp := none
  /-- The word last driven on HD, or the data last captured by the debugger. -/
  hd      : Word := 0
  /-- The last 16 events posted to SYS, oldest first (Table WD-2). -/
  sysLog  : List Event := []
  ports   : Vector Port 2 := Vector.replicate 2 {}
  link    : Link := {}
  sec     : Sec := {}
deriving DecidableEq, Repr

/-- The machine right after a power-on reset: the first edge of Tacet, which sends two SHED sets (R450, R451, R454,
R455). -/
def State.reset : State := { ring := tacetRing }

end Sys2Proof.Machine
end

