-- ==== Sys2Proof/Machine/RetOps.lean ====
section
/-! DEFINITION. The state banks of the retention memory line by line: their digests, the lines that are stale,
what a journal writes; and who holds the retention port (chapters 10, 14). -/

namespace Sys2Proof

/-- One bit of CRC-32 (Table RE-8), reflected. -/
def crc32Bit (c : BitVec 32) : BitVec 32 := if c.getLsbD 0 then (c >>> 1) ^^^ 0xEDB88320 else c >>> 1

/-- One byte of CRC-32. -/
def crc32Byte (c : BitVec 32) (b : Byte) : BitVec 32 :=
  let c := c ^^^ b.setWidth 32
  crc32Bit (crc32Bit (crc32Bit (crc32Bit (crc32Bit (crc32Bit (crc32Bit (crc32Bit c)))))))

/-- CRC-32 of Table RE-8 over bytes in the order of their addresses. -/
def crc32 (l : List Byte) : BitVec 32 := (l.foldl crc32Byte 0xFFFFFFFF) ^^^ 0xFFFFFFFF

/-- A sequence number is later than another (R358). -/
def later (x y : BitVec 32) : Bool := decide (1 ≤ (x - y).toNat ∧ (x - y).toNat ≤ 0x7FFFFFFF)

/-- The bank that a flag names, and the active one (R358). -/
def Nv.bank (n : Nv) (b : Bool) : Bank := if b then n.bankB else n.bankA
def Nv.active (n : Nv) : Bank := n.bank n.onB
def Nv.setBank (n : Nv) (b : Bool) (f : Bank → Bank) : Nv :=
  if b then { n with bankB := f n.bankB } else { n with bankA := f n.bankA }

/-- Line 1 of the commit word of a bank (true: bank B) whose line 0 is `l0` (R357, Table NV-3). -/
def commitLine1 (onB : Bool) (cseq : BitVec 32) (l0 : BitVec 64) : BitVec 64 :=
  let top : BitVec 48 := (0x5C#8 ++ (if onB then 0xB#4 else 0xA#4)) ++ (0x1#4 ++ cseq)
  top ++ crc16 (natBytes 8 l0.toNat ++ natBytes 6 top.toNat)

/-- CSEQ and MCOUNT of a commit slot that is valid (R357): TAG, BANK, LAYOUT and CRC are as they are written. -/
def slotWord (onB : Bool) (l : Vector (BitVec 64) 2) : Option (BitVec 32 × BitVec 32) :=
  let cseq := l[1].extractLsb' 16 32
  if l[1] = commitLine1 onB cseq l[0] then some (cseq, l[0].extractLsb' 0 32) else none

/-- The commit word in a bank's slot, and the active bank's. -/
def Nv.word (n : Nv) (b : Bool) : Option (BitVec 32 × BitVec 32) := slotWord b (n.bank b).slot
def Nv.activeWord (n : Nv) : Option (BitVec 32 × BitVec 32) := n.word n.onB

/-- The slot is void: TAG is 0 (Table NV-3). -/
def Bank.isVoid (b : Bank) : Bool := b.slot[1].extractLsb' 56 8 == 0

/-- The line of an install word (R368). -/
def instLine (v : VoiceId) (x : InstWord) : BitVec 64 :=
  let top : BitVec 48 := (0x1E#8 ++ BitVec.ofNat 3 v.val) ++ ((BitVec.ofBool x.area ++ BitVec.ofBool x.clr) ++ (0#3 ++ x.iepoch))
  top ++ crc16 (natBytes 6 top.toNat)

/-- The install word that a line holds, when it is valid (R368). -/
def instOf (v : VoiceId) (l : BitVec 64) : Option InstWord :=
  let x : InstWord := { area := l.getLsbD 52, clr := l.getLsbD 51, iepoch := l.extractLsb' 16 32 }
  if l = instLine v x then some x else none

/-- Lines of a bank (R359), and the line address of its first (Table NV-1). -/
def bankLines : Nat := 12288
def bankFirst (b : Bool) : Nat := if b then 0x3200 else 0x200

/-- What a line adds to the digest (R359). -/
def lineDigest (i : Nat) (x : BitVec 64) : BitVec 32 := crc32 (natBytes 2 i ++ natBytes 8 x.toNat)

/-- What line `i` of one voice holds: two lines of its own, Q, M and E by 64 bits, timers and counters one by one, W by four
words (Table NV-2). -/
def VoiceRun.body (r : VoiceRun) (i : Nat) : LineBody :=
  let w (j : Nat) : Word := vget r.w j 0
  if i < 2 then .voice r.state r.lastflt r.fltidx r.depoch i
  else if i < 29 then .bits (r.q.extractLsb' (64 * (i - 2)) 64)
  else if i < 61 then .bits (r.m.extractLsb' (64 * (i - 29)) 64)
  else if i < 77 then .bits (r.e.extractLsb' (64 * (i - 61)) 64)
  else if i < 205 then .soft (vget r.t (i - 77) {})
  else if i < 333 then .counter (vget r.c (i - 205) {})
  else let j := 4 * (i - 333); .words (w j) (w (j + 1)) (w (j + 2)) (w (j + 3))

/-- What a line of a bank holds (Table NV-2): the classes in the table's order, each in its number of lines. That the
classes stand in this order is a DESIGN CHOICE (log entry 52). -/
def Committed.body (c : Committed) (i : Nat) : LineBody :=
  if i < 4 then
    .core { mcount := c.mcount, cseq := c.cseq, epoch := c.epoch, push := c.push, canoncnt := c.canoncnt, elapsed := c.elapsed
            ctofs := c.ctofs, mapValid := c.mapValid, engStop := c.engStop, guard := c.guard, link := c.link } i
  else if i < 1540 then
    .settings { c.set with timers := Vector.replicate 16 {} } (c.voices.toList.map (fun r => (r.clrdata, r.pulselen))) (i - 4)
  else if i < 1564 then .tile (vget c.map (i - 1540) none)
  else if i < 1804 then .contexts { lvl := c.lvl, tioord := c.tioord, edgeSeq := c.edgeSeq } (i - 1564)
  else if i < 6412 then .charge (vget c.bays ((i - 1804) / 48) {}) ((i - 1804) % 48)
  else if i < 6460 then .charge c.keep (i - 6412)
  else if i < 6494 then .channels c.set.timers c.tcount c.trest (i - 6460)
  else if i < 8799 then (vget c.voices ((i - 6494) / 461) {}).body ((i - 6494) % 461)
  else .unused i

/-- A line's 8 bytes. Q, M and E stand in it bit by bit; the places in the others are free. -/
def Committed.line (c : Committed) (i : Nat) : BitVec 64 :=
  match c.body i with
  | .bits x => x
  | b => Config.lineBits b

/-- The power-fail record's fields as bytes, high byte first. -/
def PfRec.body (r : PfRec) : List Byte :=
  [r.cause.setWidth 8] ++ natBytes 4 r.mcount.toNat ++ natBytes 4 r.cseq.toNat ++ natBytes 8 r.elapsed.toNat ++
  [r.cut.setWidth 8, BitVec.ofNat 8 r.hostctx.val] ++ natBytes 4 r.hostaddr

/-- The record is written with its CRC, and checks when it still has it (R373). The widths and the order of the fields under the
CRC are a DESIGN CHOICE (log entry 123): Table NV-5 gives none. -/
def PfRec.seal (r : PfRec) : PfRec := { r with crc := crc16 r.body }
def PfRec.checks (r : PfRec) : Bool := r.crc == crc16 r.body

/-- The content of a line. -/
def Bank.line (b : Bank) (i : Nat) : BitVec 64 :=
  match b.part.find? (fun x => x.1 == i) with | some x => x.2 | none => b.img.line i

/-- The digest of what the bank holds, recomputed (R359). -/
def Bank.digestNow (b : Bank) : BitVec 32 :=
  (List.range bankLines).foldl (fun d i => d ^^^ lineDigest i (b.line i)) 0

/-- A line is written, and the digest follows (R359). -/
def Bank.writeLine (b : Bank) (i : Nat) (x : BitVec 64) : Bank :=
  { b with digest := b.digest ^^^ lineDigest i (b.line i) ^^^ lineDigest i x
           part := (i, x) :: b.part.filter (fun y => y.1 != i), bad := b.bad.filter (· != i) }

/-- The lines that are stale for the bank against a snapshot, in ascending address (R362, R366): their content
differs, or they are uncorrectable. -/
def Bank.stale (b : Bank) (img : Committed) : List Nat :=
  (List.range bankLines).filter (fun i => b.line i != img.line i || b.bad.contains i)

/-- Lines of a snapshot written into the bank. -/
def Bank.writeLines (b : Bank) (img : Committed) (l : List Nat) : Bank :=
  l.foldl (fun b i => b.writeLine i (img.line i)) b

/-- Line 1 of the slot is written with TAG 0x00 (R362). -/
def Bank.voided (b : Bank) : Bank := { b with slot := b.slot.set 1 0 }

/-- Line 0 of the commit word of a snapshot: the digest and MCOUNT (Table NV-3). -/
def Bank.writeLine0 (b : Bank) (img : Committed) : Bank := { b with slot := b.slot.set 0 (b.digest ++ img.mcount) }

/-- The commit word is written: the bank holds the snapshot (R357, R362). -/
def Bank.commit (b : Bank) (onB : Bool) (img : Committed) (cseq : BitVec 32) : Bank :=
  let b := b.writeLine0 img
  { b with slot := b.slot.set 1 (commitLine1 onB cseq b.slot[0]), img := img, part := [], bad := [] }

/-- A bank as a start finds it: lines that read otherwise than they were written, uncorrectable ones, and its
commit slot. The digest is made anew. -/
def Bank.found (b : Bank) (mis : List (Nat × BitVec 64)) (bad : List Nat) (slot : Option (BitVec 64 × BitVec 64)) : Bank :=
  let b := { b with part := mis ++ b.part, bad := bad, slot := match slot with | some x => #v[x.1, x.2] | none => b.slot }
  { b with digest := b.digestNow }

/-- The rank of a requester (Table CN-4). -/
def PortReq.rank : PortReq → Nat
  | .journal => 2 | .coda => 3 | .install _ => 4 | .host | .debug => 4

def PortReq.isHost : PortReq → Bool
  | .host | .debug => true | _ => false

/-- Whether `x` takes a free port before `y`, which asked earlier (R261, R262). -/
def PortReq.first (hostLast : Bool) (x y : PortReq) : Bool :=
  decide (x.rank < y.rank) || (x.rank == y.rank && x.isHost != y.isHost && x.isHost != hostLast)

/-- The requester that takes a free port. A burst of HOST or INSTALL that a higher rank has preempted counts as the last:
the other of the two goes first (DESIGN CHOICE, log entry 118). -/
def pickReq (hostLast : Bool) : List (PortReq × Nat) → Option (PortReq × Nat)
  | [] => none
  | x :: l => match pickReq hostLast l with
    | some y => if y.1.first hostLast x.1 then some y else some x
    | none => some x

/-- A free port goes to the first of those that wait (R261). -/
def RetPort.serve (p : RetPort) : RetPort :=
  match p.holder with
  | some _ => p
  | none => match pickReq p.hostLast p.waits with
    | none => p
    | some x => { holder := some x, waits := p.waits.erase x
                  hostLast := if x.1.rank = 4 then x.1.isHost else p.hostLast }

/-- A requester has work for the port. -/
def RetPort.asks (p : RetPort) (r : PortReq) : Bool :=
  (match p.holder with | some x => x.1 == r | none => false) || p.waits.any (fun x => x.1 == r)

/-- A requester asks for `n` lines. One of higher rank than the holder takes the port at the next line boundary,
and the holder goes on afterwards (R261). -/
def RetPort.ask (p : RetPort) (r : PortReq) (n : Nat) : RetPort :=
  if p.asks r then p
  else
    let p := match p.holder with
      | some x => if r.rank < x.1.rank then { p with holder := none, waits := x :: p.waits } else p
      | none => p
    RetPort.serve { p with waits := p.waits ++ [(r, n)] }

/-- A requester that holds the port has moved its last line; or gives up its work. -/
def RetPort.release (p : RetPort) (r : PortReq) : RetPort :=
  RetPort.serve { p with holder := match p.holder with | some x => if x.1 = r then none else some x | none => none
                         waits := p.waits.filter (fun x => x.1 != r) }

/-- A burst of 32 lines of an install ends while HOST waits (R262). -/
def RetPort.turn (p : RetPort) : RetPort :=
  match p.holder with
  | some (.install v, n) =>
    if 32 < n ∧ p.waits.any (fun x => x.1.isHost) = true then
      RetPort.serve { p with holder := none, waits := p.waits ++ [(.install v, n - 32)], hostLast := false }
    else p
  | _ => p

/-- A requester holds the port. -/
def RetPort.holds (p : RetPort) (r : PortReq) : Bool := match p.holder with | some x => x.1 == r | none => false

/-- The inactive slot is void from the first line of a journal on, until its commit word (R362). -/
def Nv.voidSlot (n : Nv) : Nv := n.setBank (!n.onB) Bank.voided

/-- The next CSEQ. -/
def Nv.nextSeq (n : Nv) : BitVec 32 := match n.activeWord with | some w => w.1 + 1 | none => 1

/-- The lines that a journal may write besides the commit word (R363). -/
def Nv.room (n : Nv) : Nat := if (n.bank (!n.onB)).isVoid then 1022 else 1021

/-- The state that a journal writes: the snapshot with the next CSEQ (R355, R361). -/
def Nv.target (n : Nv) (snap : Committed) : Committed := { snap with cseq := n.nextSeq }

/-- The lines that are stale for the bank that a journal of this snapshot writes into (R362). -/
def Nv.staleLines (n : Nv) (snap : Committed) : List Nat := (n.bank (!n.onB)).stale (n.target snap)

/-- Data lines of the snapshot, written into the inactive bank. -/
def Nv.writeData (n : Nv) (snap : Committed) (l : List Nat) : Nv :=
  n.setBank (!n.onB) (fun b => b.writeLines (n.target snap) l)

/-- The line of the journal that fails for good, when the journal writes it (R380): its line address where the spec
gives the line a place, and the lines written before it. The void and the commit word lie in the control area. -/
def Nv.failing (n : Nv) (snap : Committed) (f : JLine) : Option (Option Nat × List Nat) :=
  let l := (n.staleLines snap).take n.room
  match f with
  | .void => if (n.bank (!n.onB)).isVoid then none else some (none, [])
  | .data i => if l.contains i.val then some (some (bankFirst (!n.onB) + i.val), l.takeWhile (· != i.val)) else none
  | .word => if (n.staleLines snap).length ≤ n.room then some (none, l) else none

/-- A line of the inactive bank has failed its check twice: it is uncorrectable. -/
def Nv.badLine (n : Nv) (f : JLine) : Nv :=
  match f with
  | .data i => n.setBank (!n.onB) (fun b => { b with bad := i.val :: b.bad.filter (· != i.val) })
  | _ => n

/-- The journal's commit word has been written into the inactive bank, which becomes the active one (R358, R362). -/
def Nv.commit (n : Nv) (img : Committed) (cseq : BitVec 32) : Nv :=
  let n := n.setBank (!n.onB) (fun b => b.commit (!n.onB) img cseq)
  { n with onB := !n.onB, header := true, cage := 0, defer := false, nocommit := false, failRun := 0, snap := none
           layout := img.set.layout }

/-- A journal that is cut after `k` of its lines: the void, data, and the lines of the commit word. Line 1 makes the
commit stand (R360, R362, R372, Table NV-7). -/
def Nv.cutJournal (n : Nv) (k : Nat) : Nv :=
  match n.snap with
  | some c =>
    if n.port.asks .journal && decide (0 < k) then
      let d := if (n.bank (!n.onB)).isVoid then k else k - 1
      let l := n.staleLines c
      let m := (n.writeData c (l.take (min n.room d))).voidSlot
      if n.room < l.length ∨ d ≤ l.length then m
      else if d = l.length + 1 then m.setBank (!n.onB) (fun b => b.writeLine0 (n.target c))
      else m.commit (n.target c) n.nextSeq
    else n
  | none => n

end Sys2Proof
end

