-- ==== Sys2Proof/Machine/TileOps.lean ====
section
/-! DEFINITION. The named operations of a tile: starting and stopping a channel, attempts, tile SAFE,
locks and lamps, the SMBus master's queue, the telemetry latch and applying a CMD block
(chapters 03, 04, 05, 06, 10). -/

namespace Sys2Proof

/-! The shared ADC (R256 to R260). -/

/-- One more sample; the sum of two runs; the mean, to the nearest LSB below. -/
def Acc.add (a : Acc) (x : Nat) : Acc := { sum := a.sum + x, cnt := a.cnt + 1 }
def Acc.join (a b : Acc) : Acc := { sum := a.sum + b.sum, cnt := a.cnt + b.cnt }
def Acc.mean (a : Acc) : Nat := a.sum / a.cnt

/-- What a run of frames has added up: every quantity of Table BT-3, and for each position the VOUT and
NTC samples of the frames for which it was windowed. -/
structure AdcSum where
  vout : Vector Acc 4 := Vector.replicate 4 {}
  iout : Vector Acc 4 := Vector.replicate 4 {}
  ntc  : Vector Acc 4 := Vector.replicate 4 {}
  id   : Vector Acc 4 := Vector.replicate 4 {}
  tj   : Vector Acc 4 := Vector.replicate 4 {}
  own  : Vector Acc 4 := Vector.replicate 4 {}      -- VIN, VLOG, die temperature, reference check
  winV : Vector Acc 4 := Vector.replicate 4 {}
  winN : Vector Acc 4 := Vector.replicate 4 {}
  turn : Pos := 0                                   -- the position after the last that took a boost frame
deriving DecidableEq, Repr

/-- A window that opens `o` microseconds after the beat holds the whole of frame `f` (R257). -/
def windowed (o : Option Int) (f : Nat) : Bool :=
  match o with
  | some t => decide (t ≤ 20 * (f : Int)) && decide (20 * ((f : Int) + 1) ≤ t + 4000)
  | none => false

/-- The windowed position that takes the next boost frame: in turn, ascending from `turn`. -/
def boostPos (w : Pos → Bool) (turn : Pos) : Option Pos :=
  (List.finRange 4).findSome? (fun i => if w (turn + i) then some (turn + i) else none)

/-- Samples `l` join the accumulator of position `p`. -/
def addAll (v : Vector Acc 4) (p : Pos) (l : List Nat) : Vector Acc 4 := upd v p (fun a => l.foldl Acc.add a)

/-- One frame of Table CN-1, of 20 samples. -/
def AdcSum.frame (w : Pos → Bool) (boost : Bool) (f : Nat) (x : List Nat) (s : AdcSum) : AdcSum :=
  let at_ (i : Nat) : Nat := match (x.drop i).head? with | some v => v | none => 0
  let m : Pos := Fin.ofNat 4 f
  let chosen := if boost then boostPos w s.turn else none
  let b : Pos := match chosen with | some p => p | none => m
  let vs (p : Pos) : List Nat := at_ p.val :: (if p = b then [at_ 12, at_ 13, at_ 14] else [])
  let ns (p : Pos) : List Nat := at_ (8 + p.val) :: (if p = b then [at_ 15, at_ 19] else [])
  { vout := Vector.ofFn fun p => (vs p).foldl Acc.add s.vout[p]
    iout := Vector.ofFn fun p => s.iout[p].add (at_ (4 + p.val))
    ntc := Vector.ofFn fun p => (ns p).foldl Acc.add s.ntc[p]
    id := addAll s.id m [at_ 16], tj := addAll s.tj m [at_ 17], own := addAll s.own m [at_ 18]
    winV := Vector.ofFn fun p => if w p then (vs p).foldl Acc.add s.winV[p] else s.winV[p]
    winN := Vector.ofFn fun p => if w p then (ns p).foldl Acc.add s.winN[p] else s.winN[p]
    turn := match chosen with | some p => p + 1 | none => s.turn }

/-- The whole frames of a run of samples, from frame `f` of a tick; a tick has 50 (R256). -/
def AdcSum.run (w : Nat → Pos → Bool) (boost : Bool) : Nat → Nat → List Nat → AdcSum → AdcSum
  | 0, _, _, s => s
  | n + 1, f, l, s =>
    if l.length < 20 then s
    else AdcSum.run w boost n (f + 1) (l.drop 20) (AdcSum.frame (w f) boost f (l.take 20) s)

/-- The tick means (R79, R259). A quantity without a sample keeps its last mean. -/
def AdcSum.means (s : AdcSum) (old : TileAdc) : TileAdc :=
  let m (a : Acc) (o : Nat) : Nat := if a.cnt = 0 then o else a.mean
  { bays := Vector.ofFn fun p =>
      { vout := m s.vout[p] old.bays[p].vout, iout := m s.iout[p] old.bays[p].iout, ntc := m s.ntc[p] old.bays[p].ntc
        id := m s.id[p] old.bays[p].id, tj := m s.tj[p] old.bays[p].tj }
    vin := m s.own[0] old.vin, vlog := m s.own[1] old.vlog, die := m s.own[2] old.die, ref := m s.own[3] old.ref }

/-- The reference check is more than 2 % away from 2.500 V, which is 10000 LSB (R80, R260). -/
def refOut (a : Acc) : Bool := decide (200 * a.cnt < absDiff a.sum (10000 * a.cnt))

/-- What the tile's ADC finds in samples taken since the last beat, under the ADCBOOST that is active at their end.
R273 puts a change into effect at the next beat: settings that a measure's configuration brings at the beat of
tick 1 hold for the tick that this beat begins (DESIGN CHOICE, log entry 120). -/
def Tile.convert (t : Tile) (samples : List (BitVec 14)) : AdcSum :=
  AdcSum.run (fun f p => windowed t.chans[p].winOpen f) t.active.adcboost 50 0 (samples.map (·.toNat))
    { turn := t.boostTurn }

/-! Packs, records and channels. -/

/-- The bay of a tile number and a position (R4). -/
def bayOf (t : TileNo) (p : Pos) : Bay := ⟨4 * t.val + p.val, by omega⟩

/-- Tile number of a bay. -/
def tileOf (b : Bay) : TileNo := ⟨b.val / 4, by omega⟩

/-- Position of a bay. -/
def posOf (b : Bay) : Pos := ⟨b.val % 4, by omega⟩

/-- VOUT below 0.20 V, in 1.25 mV (R67, R96). -/
def voutShort (v : Nat) : Bool := v < 160

/-- NTC ratio of 0.975 or more (R96). -/
def ntcOpen (n : Nat) : Bool := 975 * 16384 ≤ n * 1000

/-- The missing condition of R96 on latched values. -/
def missing (vout ntc : Nat) : Bool := voutShort vout && ntcOpen ntc

/-- The present condition of R96: VOUT of 0.50 V or more, or an NTC ratio below 0.975. -/
def present (vout ntc : Nat) : Bool := decide (400 ≤ vout) || !ntcOpen ntc

/-- The order a bay holds in tile SAFE and in an absent block: OFF, LOCKED, lamps off (R93, R165). -/
def BayRec.safe : BayRec := {}

/-- A record holds a reserved encoding of Table BT-2 or a reserved RESTAT (R66, R129). -/
def BayRec.reserved (r : BayRec) (period : Nat) : Bool :=
  r.mode == 3 || r.lock == 3 || decide (r.iset.toNat < 5 ∨ 400 < r.iset.toNat) ||
  decide (3600 < r.vset.toNat) || (r.lock == 2 && r.lkpulse == 0) ||
  decide (period ≤ r.restat.toNat ∧ r.restat.toNat ≤ 126)

/-- The buck stops and the isolation switch opens (R65). -/
def Chan.stop (c : Chan) : Chan :=
  { c with pulsing := false, isocl := false, dropout := false, plt := 0, pltGap := 0, clean := 0 }

/-- ISET of an order in mA (Table BT-2). -/
def BayRec.isetMa (r : BayRec) : Nat := r.iset.toNat * 10

/-- The peak current limit of R70, in quarters of a mA: 1.25 × ISET + 0.25 A, capped at 5.25 A. -/
def peakLimit4 (isetMa : Nat) : Nat := min 21000 (5 * isetMa + 1000)

/-- RAMP as the current that each microsecond adds, in 0.5 mA (Table BT-5). -/
def rampStep (ramp : BitVec 2) : Nat := 2 ^ ramp.toNat

/-- The ramp of R67 from 0 to ISET, `us` microseconds on. -/
def Chan.rampFor (c : Chan) (us : Nat) : Chan :=
  { c with rampI := min (2 * c.order.isetMa) (c.rampI + us * rampStep c.use.ramp) }

/-- The current that the channel lets flow, in mA: the ramp (R67), cut by the folded limit (R76, Table BT-6). -/
def Chan.limitMa (c : Chan) : Nat := min c.isetLim (c.rampI / 2)

/-- The limit condition (R70). The output current is at most the one that the channel lets flow (log entry 111). -/
def Chan.limited (c : Chan) (o : OutSample) : Bool :=
  decide (peakLimit4 c.order.isetMa ≤ 4 * o.peak) || decide (2 * o.vout < c.vStart) ||
  (voutShort o.vout && decide (50 ≤ min o.iout c.limitMa))

/-- The output for a while: the ramp goes on (R67); PLT runs under the limit condition and returns to zero after
100 µs without it (R71); `clean` counts how long the pulse has run without it (R75). -/
def Chan.seeOut (c₀ : Chan) (o : OutSample) : Chan :=
  let c := c₀.rampFor o.us
  if c₀.pulsing = false then c₀
  else if c.limited o then { c with plt := c.plt + o.us, pltGap := 0, clean := 0 }
  else
    let gap := c.pltGap + o.us
    { c with pltGap := gap, plt := if 100 ≤ gap then 0 else c.plt, clean := c.clean + o.us }

def Chan.seeOuts (c : Chan) (l : List OutSample) : Chan := l.foldl Chan.seeOut c

/-- PLT has reached the setting that the pulse start took, in units of 0.5 ms (R71, Table BT-5). -/
def Chan.pltDone (c : Chan) : Bool := c.pulsing && decide (500 * c.use.plt.toNat ≤ c.plt)

/-- The limit under foldback, from a junction in (°C + 50) * 64 (R76). -/
def foldLimit (iset tj : Nat) : Nat :=
  if tj ≤ 175 * 64 then iset else iset * (190 * 64 - tj) / (15 * 64)

/-- The current limit of the order in force under the junction as last seen (R76). -/
def Chan.refold (c : Chan) : Chan :=
  let lim := foldLimit c.order.isetMa c.tj
  { c with isetLim := lim, fold := decide (lim < c.order.isetMa) }

/-- A failed attempt (R73, R74): the third sets OCLOCK, else the wait of 1.00 s begins. -/
def Chan.failAttempt (c : Chan) : Chan :=
  let a := min 3 (c.att + 1)
  { c.stop with att := a, oclock := c.oclock || a == 3, retryWait := decide (a < 3) && c.order.mode == 1, retryTicks := 0 }

/-- CLRFLT clears the attempt counter, OCLOCK and OVP; THERM follows R77 alone (Table BT-2, R75). With
the counter at zero no retry is due: the retry wait ends too (DESIGN CHOICE, log entry 79). -/
def Chan.clearFault (c : Chan) : Chan :=
  { c with att := 0, oclock := false, ovp := false, retryWait := false, retryDue := false }

/-- The level at the lock pin: LKSAFE when locked, the opposite when unlocked (R82). -/
def lockLevel (lksafe unlocked : Bool) : Bool := if unlocked then !lksafe else lksafe

/-- Command a lock level: a change drives the solenoid afresh and lets a stopped driver try again (R84). -/
def Chan.setLock (c : Chan) (lksafe unl : Bool) : Chan :=
  if unl = c.unlocked then c else
    { c with unlocked := unl, lkshort := false, lockTicks := 0
             lockDrv := if lockLevel lksafe unl then .full else .off }

/-- A lamp order at a tick count: off, on, blink 1 Hz, blink 4 Hz (Table BT-2). The on-phase begins where
the count of ticks is a multiple of the blink's period (DESIGN CHOICE, log entry 80). -/
def lampLit (code : BitVec 2) (ticks : Nat) : Bool :=
  if code = 0 then false else if code = 1 then true
  else if code = 2 then decide (ticks % 1000 < 500) else decide (ticks % 250 < 125)

/-- The lamps follow their orders; a lamp that tripped stays off until the next measure beat (R85). -/
def Chan.stepLamps (c : Chan) (ticks : Nat) : Chan :=
  { c with lampAOn := lampLit c.order.lampA ticks && !c.lampfltA
           lampBOn := lampLit c.order.lampB ticks && !c.lampfltB }

/-- A channel in tile SAFE (R93): OFF, locked, unlock pulse cut short, lamps off, no rest measurement;
OFF is the last order, so no probe has run since (Table of R101). -/
def Chan.toSafe (c : Chan) (lksafe : Bool) : Chan :=
  { (c.stop.setLock lksafe false) with
      order := BayRec.safe, pulseLeft := none, lampAOn := false, lampBOn := false
      probing := false, proberes := 0, retryWait := false, retryDue := false, restIn := none, rest := none
      winDue := false, winOpen := none }

/-- TIOMODE of a pin: 0 input, 1 open-drain, 2 push-pull; and its DEBOUNCE bit (R87). -/
def tiomode (w : BitVec 12) (k : Fin 4) : BitVec 2 := w.extractLsb' (3 * k.val) 2
def tioDebounce (w : BitVec 12) (k : Fin 4) : Bool := w.getLsbD (3 * k.val + 2)

/-- What drives a pin (R87, Table CN-6): an input is not driven; push-pull drives the level ordered and
open-drain only a low one. With no order the level is one the spec does not give. -/
def tioDrives (mode : BitVec 2) (level : Bool) : Bool := mode == 2 || (mode == 1 && !level)

/-- The pins follow their orders and the settings in effect. -/
def Tile.driveTio (t : Tile) : Tile :=
  let lev (k : Fin 4) : Bool := match t.tioOrd[k] with | some l => l | none => Config.tioIdle k.val
  { t with tioOut := Vector.ofFn lev
           tioDrive := Vector.ofFn fun k => !t.tioIn && tioDrives (tiomode t.tioUse k) (lev k) }

/-- The tile enters tile SAFE (R93). -/
def Tile.enterSafe (t : Tile) : Tile :=
  Tile.driveTio { t with safe := true, chans := t.chans.map (fun c => c.toSafe t.lksafe), tioIn := true }

/-- No protection, shed, rest, retry wait or epoch hold keeps the channel from a pulse. -/
def Chan.mayStart (c : Chan) : Bool :=
  c.order.mode == 1 && !c.pulsing && c.rest.isNone && !c.retryWait && !c.oclock && !c.ovp &&
  !c.therm && !c.revpol && c.shedS.isNone && !c.epHoldOff

/-- VIN ≥ VOUT + 3.0 V, with VIN in 2 mV and VOUT in 1.25 mV (R63). -/
def headroom (vin vout : Nat) : Bool := decide (vout * 125 + 300000 ≤ vin * 200)

/-- LKHOLD as a duty in percent (Table BT-5). -/
def lkholdPct (c : BitVec 2) : Nat := if c = 0 then 100 else if c = 1 then 75 else if c = 2 then 50 else 35

/-- The settings of Table BT-5 take effect at a pulse start (R95). -/
def Chan.takeBt5 (c : Chan) (g : BayTileCfg) : Chan :=
  { c with use := { c.use with ramp := g.ramp, plt := g.plt, lkhold := g.lkhold }
           lockDrv := match c.lockDrv with | .hold _ => .hold (lkholdPct g.lkhold) | d => d }

/-- The sequence of R67 with the VOUT it measured; PLT and the clean time start at zero. -/
def Chan.startPulse (c : Chan) (g : BayTileCfg) (vin vout : Nat) : Chan :=
  let c := { (c.takeBt5 g).refold with retryDue := false }
  if voutShort vout then { c.failAttempt with preshort := true }
  else { c with preshort := false, pulsing := true, isocl := true, vStart := vout
                dropout := !headroom vin vout, rampI := 0, plt := 0, pltGap := 0, clean := 0 }

/-- Microseconds of the ramp down from `iout` mA at 4 A/ms (R68); at most 1.0 ms (R200). -/
def rampDown (iout : Nat) : Nat := min 1000 (ceilDiv iout 4)

/-- A rest starts at a beat (R68, R199, R200): the channel ramps down from `iout` and opens its isolation
switch; the window opens 12.0 ms after the current has reached zero. -/
def Chan.startRest (c : Chan) (restlen iout : Nat) : Chan :=
  { c.stop with rest := some restlen, restIn := none, winDue := true, restMean := none
                winOpen := some (rampDown iout + 12000), winV := {}, winN := {} }

/-! The bay SMBus master (R106 to R117, R265, R661). -/

/-- One bit, and one byte, of the packet error code: CRC-8 with polynomial 0x07. -/
def crc8Bit (c : Byte) : Byte := if c.getLsbD 7 then (c <<< 1) ^^^ 0x07 else c <<< 1
def crc8Byte (c b : Byte) : Byte := (List.range 8).foldl (fun c _ => crc8Bit c) (c ^^^ b)
/-- The PEC of a message, from its address byte on (PRESUMED from SMBus 3.x, log entry 81). -/
def crc8 (l : List Byte) : Byte := l.foldl crc8Byte 0

/-- Bytes of a word as SMBus sends them: the low byte first. -/
def smbWord (w : Word) : List Byte := [w.extractLsb' 0 8, w.extractLsb' 8 8]

/-- Command codes of Table PK-4. -/
def identCode (i : Fin 5) : Byte := if i = 0 then 0x22 else if i = 1 then 0x19 else if i = 2 then 0x18 else if i = 3 then 0x1C else 0x20
def pollCode (i : Fin 7) : Byte :=
  if i = 0 then 0x16 else if i = 1 then 0x09 else if i = 2 then 0x0A else if i = 3 then 0x08
  else if i = 4 then 0x14 else if i = 5 then 0x15 else 0x0D

/-- The command code of a read of 0x0B and what the pack returns on the wire; none for what is no read
(Table PK-3: protocols 0, 2 and 4 of a pass-through read). -/
def BayMaster.readWire (m : BayMaster) (tx : SmbTx) (w : Word) (blk : List Byte) : Option (Byte × List Byte) :=
  let block := BitVec.ofNat 8 blk.length :: blk
  match tx with
  | .statusAfterLoop => some (0x16, smbWord w)
  | .poll i => some (pollCode i, smbWord w)
  | .ident i => some (identCode i, if i = 0 ∨ i = 4 then block else smbWord w)
  | .passThrough =>
    match m.mailbox with
    | some q => if q.proto = 0 then some (q.cmd, [w.extractLsb' 0 8])
                else if q.proto = 2 then some (q.cmd, smbWord w)
                else if q.proto = 4 then some (q.cmd, block) else none
    | none => none
  | .recovery | .loopback => none

/-- A read with a PEC error, while PECEN = 1 (R108). -/
def BayMaster.pecError (m : BayMaster) (pecen : Bool) (tx : SmbTx) (w : Word) (blk : List Byte) (pec : Byte) : Bool :=
  pecen && (match m.readWire tx w blk with
    | some (cmd, d) => crc8 ([0x16, cmd, 0x17] ++ d) != pec
    | none => false)

/-- A transaction is one of the master's own reads or its loopback. -/
def SmbTx.own : SmbTx → Bool
  | .recovery | .passThrough => false
  | _ => true

/-- A transaction is an identification read. -/
def SmbTx.isIdent : SmbTx → Bool
  | .ident _ => true
  | _ => false

/-- A transaction is a poll read. -/
def SmbTx.isPoll : SmbTx → Bool
  | .poll _ => true
  | _ => false

/-- Some transaction with a property is in progress or waits to be repeated. -/
def BayMaster.open_ (m : BayMaster) (f : SmbTx → Bool) : Bool :=
  (match m.cur with | some j => f j.tx | none => false) || m.waiting.any (fun j => f j.1.tx)

/-- The master's own reads and loopback are abandoned, with the one in progress. -/
def BayMaster.dropOwn (m : BayMaster) : BayMaster :=
  { m with identNext := none, identOn := false, pollNext := none, readAfter := false
           waiting := m.waiting.filter (fun j => !j.1.tx.own)
           cur := match m.cur with | some j => if j.tx.own then none else some j | none => none }

/-- Identification reads restart (R661). -/
def BayMaster.identRestart (m : BayMaster) (smben : Bool) : BayMaster :=
  { m.dropOwn with idDone := false, ident := {}, statChg := m.statChg || m.idDone
                   identNext := if smben then some 0 else none, identOn := smben }

/-- Identification ends without a pack (R661). The reads that are still to run are dropped, which the rule does not
say (DESIGN CHOICE, log entry 113). -/
def BayMaster.identClear (m : BayMaster) : BayMaster :=
  { m.dropOwn with idDone := false, ident := {}, statChg := m.statChg || m.idDone }

/-- When the last of the five reads has ended, with its retries, IDDONE is set (R661). -/
def BayMaster.identCheck (m : BayMaster) : BayMaster :=
  if m.identOn && m.identNext.isNone && !m.open_ SmbTx.isIdent then
    { m with identOn := false, idDone := true, statChg := m.statChg || !m.idDone }
  else m

/-- The read that follows identification read `i`. -/
def identStep (i : Fin 5) : Option (Fin 5) := if h : i.val + 1 < 5 then some ⟨i.val + 1, h⟩ else none

/-- The first retry whose wait has passed, and the list without it. -/
def takeReady : List (SmbJob × SmbWait) → Option (SmbJob × List (SmbJob × SmbWait))
  | [] => none
  | x :: l => if x.2 = .ready then some (x.1, l) else (takeReady l).map (fun r => (r.1, x :: r.2))

/-- The first item of R265 that is ready, started. The loopback closes the round: it waits until the
round's poll reads have ended, with their retries (DEDUCED from R107). -/
def BayMaster.startNext (m : BayMaster) (loopen : Bool) : BayMaster :=
  if m.recoverDue then { m with recoverDue := false, cur := some { tx := .recovery } }
  else if m.readAfter then { m with readAfter := false, cur := some { tx := .statusAfterLoop } }
  else if m.mailbox.isSome && !m.open_ (· == .passThrough) then { m with cur := some { tx := .passThrough } }
  else match takeReady m.waiting with
    | some (j, l) => { m with waiting := l, cur := some j }
    | none =>
      match m.identNext with
      | some i => { m with identNext := identStep i, cur := some { tx := .ident i } }
      | none =>
        match m.pollNext with
        | none => m
        | some i =>
          if h : i.val < 7 then { m with pollNext := some ⟨i.val + 1, by omega⟩, cur := some { tx := .poll ⟨i.val, h⟩ } }
          else if m.open_ SmbTx.isPoll then m
          else if loopen then { m with pollNext := none, cur := some { tx := .loopback } }
          else { m with pollNext := none }

/-- Start the next transaction when the bus is idle. -/
def BayMaster.pump (m : BayMaster) (loopen : Bool) : BayMaster :=
  let m := m.identCheck
  if m.cur.isSome then m else m.startNext loopen

/-- Store what identification read `i` returned (Table PK-4, Table WR-6). -/
def Ident.store (d : Ident) (i : Fin 5) (w : Word) (blk : List Byte) : Ident :=
  let ok := d.idvalid ||| 1 ||| (BitVec.ofNat 6 (2 ^ (i.val + 1)))
  match i with
  | 0 => { d with chem := blk.take 8, idvalid := ok }
  | 1 => { d with desV := w, idvalid := ok }
  | 2 => { d with desC := w, idvalid := ok }
  | 3 => { d with serial := w, idvalid := ok }
  | 4 => { d with name := blk.take 16, idvalid := ok }

/-- The alarm item that reports the same word as a poll word, and the reverse (Table RG-7). -/
def alarmOfPoll (i : Fin 7) : Option (Fin 3) :=
  if i = 0 then some 0 else if i = 4 then some 1 else if i = 5 then some 2 else none

def pollOfAlarm (a : Fin 3) : Fin 7 := if a = 0 then 0 else if a = 1 then 4 else 5

/-- A poll word was read: the later of an alarm and a read in one measure is the one latched (Table PK-7). -/
def BayMaster.gotWord (m : BayMaster) (i : Fin 7) (w : Word) : BayMaster :=
  let m := { m with words := m.words.set i w, wordNew := m.wordNew.set i true
                    wordFresh := m.wordFresh.set i true }
  match alarmOfPoll i with
  | some a => if m.alarmFresh[a] then { m with alarmNew := m.alarmNew.set a false } else m
  | none => m

/-- The slave accepts an alarm word (R110). -/
def BayMaster.gotAlarm (m : BayMaster) (a : Fin 3) (w : Word) : BayMaster :=
  let m := { m with alarms := m.alarms.set a w, alarmNew := m.alarmNew.set a true
                    alarmFresh := m.alarmFresh.set a true, almcnt := satAdd 15 m.almcnt 1 }
  let i := pollOfAlarm a
  if m.wordFresh[i] then { m with wordNew := m.wordNew.set i false } else m

/-- A pack's message on the wire, without its PEC. -/
def PackMsg.bytes : PackMsg → List Byte
  | .hostNotify dev w _ => [0x10, dev] ++ smbWord w
  | .writeWord cmd w _ => [0x12, cmd] ++ smbWord w
  | .other a => [a]

/-- The PEC of a message checks, when it carries one (Table PK-3). -/
def PackMsg.pecOk (x : PackMsg) : Bool :=
  match x with
  | .hostNotify _ _ (some p) | .writeWord _ _ (some p) => crc8 x.bytes == p
  | _ => true

/-- The alarm that a message carries, when the slave accepts it. -/
def PackMsg.alarm (x : PackMsg) : Option (Fin 3 × Word) :=
  if x.pecOk = false then none
  else match x with
    | .hostNotify dev w _ => if dev = 0x16 then some (0, w) else none
    | .writeWord cmd w _ =>
      if cmd = 0x16 then some (0, w) else if cmd = 0x14 then some (1, w)
      else if cmd = 0x15 then some (2, w) else none
    | .other _ => none

def BayMaster.receive (m : BayMaster) (msg : PackMsg) : BayMaster :=
  match msg.alarm with
  | some (a, w) => m.gotAlarm a w
  | none => m

/-- What the master sends first in a transaction, as far as a pack's message can differ from it: the
address byte of 0x0B, or the whole loopback (R111). Bus recovery sends no byte. -/
def BayMaster.sends (m : BayMaster) : SmbTx → List Byte
  | .recovery => []
  | .loopback => [0x10, 0x16] ++ smbWord m.words[(0 : Fin 7)]
  | _ => [0x16]

/-- The pack wins the arbitration (R113, Table PK-5): at the first bit in which the two messages differ it
sends 0, that is its first different byte is the lower one. -/
def packWins : List Byte → List Byte → Bool
  | own :: a, pack :: b => if own = pack then packWins a b else decide (pack < own)
  | _, _ => false

/-- A transaction to 0x0B was acknowledged (R98). -/
def BayMaster.acked (m : BayMaster) : BayMaster :=
  { m with nackRun := 0, nack3 := false, statChg := m.statChg || m.nack3 }

/-- A transaction ended in a NACK after its retry (R98, R108). -/
def BayMaster.nackedTwice (m : BayMaster) : BayMaster :=
  let n := satAdd 3 m.nackRun 1
  { m with nackRun := n, nack3 := m.nack3 || n == 3, statChg := m.statChg || (n == 3 && !m.nack3) }

/-- A pass-through ends with FCAUSE (R600). -/
def BayMaster.ptFail (m : BayMaster) (cause : BitVec 3) : BayMaster :=
  { m with mailbox := none, ptRes := .fail cause, ptCause := cause }

/-- A transaction that gives up (R108, R115, R117): a pass-through fails; the round goes on. -/
def BayMaster.giveUp (m : BayMaster) (tx : SmbTx) (cause : BitVec 3) : BayMaster :=
  match tx with
  | .passThrough => m.ptFail cause
  | _ => m

/-- A loopback failure (R111): three in a row set SMBFLT. -/
def BayMaster.loopFail (m : BayMaster) : BayMaster :=
  let n := satAdd 3 m.lbFails 1
  { m with lbFails := n, lbPasses := 0, smbflt := m.smbflt || n == 3 }

/-- A loopback passes (R111): three in a row clear SMBFLT; the read of R112 follows. -/
def BayMaster.loopPass (m : BayMaster) : BayMaster :=
  let n := satAdd 3 m.lbPasses 1
  { m with lbPasses := n, lbFails := 0, smbflt := m.smbflt && n != 3, readAfter := true }

/-- A NACK or a PEC error: one retry 1 ms later, then the failure counts (R108). -/
def BayMaster.notOk (m : BayMaster) (j : SmbJob) (cause : BitVec 3) : BayMaster :=
  match j.tx with
  | .loopback => m.loopFail
  | .recovery => m
  | tx =>
    if j.nackTried then m.nackedTwice.giveUp tx cause
    else { m with waiting := m.waiting ++ [({ j with nackTried := true }, .nack)] }

/-- A transaction completes (R107 to R112, R661). -/
def BayMaster.complete (m : BayMaster) (tx : SmbTx) (w : Word) (blk : List Byte) : BayMaster :=
  match tx with
  | .recovery => m
  | .statusAfterLoop => m.acked.gotWord 0 w
  | .passThrough =>
    match m.mailbox with
    | none => m
    | some q =>
      { m.acked with mailbox := none
                     ptRes := if q.proto = 0 then .word (w &&& 0x00FF) else if q.proto = 2 then .word w else .block
                     ptBuf := if q.proto = 4 then blk.take 32 else [] }
  | .ident i => { m.acked with ident := m.ident.store i w blk }
  | .poll i => m.acked.gotWord i w
  | .loopback => m.loopPass

/-- A read with a PEC error is discarded; the address was acknowledged all the same (R100, R108). -/
def BayMaster.badPec (m : BayMaster) (j : SmbJob) : BayMaster :=
  match j.tx with
  | .ident _ => ({ m with ident := { m.ident with idvalid := m.ident.idvalid ||| 1 } }).notOk j 2
  | _ => m.notOk j 2

/-- The end of the transaction in progress, and the start of the next (R265). -/
def BayMaster.txEnd (m : BayMaster) (pecen loopen : Bool) (r : SmbEnd) : BayMaster :=
  match m.cur with
  | none => m
  | some j =>
    let n := { m with cur := none }
    match r with
    | .ok w blk pec =>
      (if n.pecError pecen j.tx w blk pec then n.badPec j else n.complete j.tx w blk).pump loopen
    | .nack => (n.notOk j 1).pump loopen
    | .loopDiffers => if j.tx = .loopback then ({ n.loopFail with readAfter := true }).pump loopen else m

/-- The transaction in progress loses arbitration (R113 to R115, Table PK-5): a loopback goes with the next
round; any other is repeated after 50 µs of bus free, at most three times. -/
def BayMaster.lost (m : BayMaster) : BayMaster :=
  match m.cur with
  | none => m
  | some j =>
    let m := { m with cur := none }
    match j.tx with
    | .loopback | .recovery => m
    | tx =>
      if j.arbTries < 3 then { m with waiting := m.waiting ++ [({ j with arbTries := j.arbTries + 1 }, .bus)] }
      else { (m.giveUp tx 3) with arbloss := satAdd 15 m.arbloss 1 }

/-- A wait of retry `i` has passed. -/
def BayMaster.waitPassed (m : BayMaster) (i : Nat) : BayMaster :=
  match (m.waiting.drop i).head? with
  | some x => { m with waiting := m.waiting.set i (x.1, .ready) }
  | none => m

/-- What retry `i` waits for. -/
def BayMaster.waitOf (m : BayMaster) (i : Nat) : Option SmbWait := (m.waiting.drop i).head?.map (·.2)

/-- Milliseconds of POLLPER (Table PK-6). -/
def pollMs (c : BitVec 3) : Nat := 125 * 2 ^ c.toNat

/-- The SMBSTAT item (Table RG-7). -/
def BayMaster.smbstat (m : BayMaster) (ptdone ptfail : Bool) : BitVec 17 :=
  BitVec.ofNat 17 (m.almcnt + 16 * m.arbloss + 256 * m.smbto.toNat + 512 * m.smbstuck.toNat +
    1024 * ptdone.toNat + 2048 * ptfail.toNat + 4096 * m.idDone.toNat + 8192 * m.nack3.toNat)

/-- The lowest index whose flag is set. -/
def firstSet {n : Nat} (v : Vector Bool n) : Option (Fin n) := (List.finRange n).find? (fun i => v[i])

/-- SMBSTAT is carried: ALMCNT returns to 0 (R110). SMBTO, SMBSTUCK and ARBLOSS stay until the tile is reset
(DESIGN CHOICE, log entry 82). -/
def BayMaster.carried (m : BayMaster) : BayMaster := { m with almcnt := 0, statChg := false }

/-- The AUX item of a latch, in the order of R138. -/
def Chan.chooseAux (c : Chan) : BitVec 4 × BitVec 17 × Chan :=
  let m := c.smb
  match m.ptRes with
  | .word w => (0xA, w.setWidth 17, { c with smb := { m with ptRes := .none } })
  | .block => (0xB, m.smbstat true false, { c with smb := { m.carried with ptRes := .none } })
  | .fail _ => (0xB, m.smbstat false true, { c with smb := { m.carried with ptRes := .none } })
  | .none =>
    if c.doorDue then (0xC, BitVec.ofNat 17 (c.doorTick % 128 * 1024 + c.doorUs % 1024), { c with doorDue := false })
    else if c.probetDue then (0xD, BitVec.ofNat 17 (min 255 c.probeRise), { c with probetDue := false })
    else if m.statChg then (0xB, m.smbstat false false, { c with smb := m.carried })
    else if m.idrOnce then (0xE, BitVec.ofNat 17 c.adc.id, { c with smb := { m with idrOnce := false } })
    else
      match firstSet m.alarmNew with
      | some a => (BitVec.ofNat 4 (7 + a.val), m.alarms[a].setWidth 17,
                   { c with smb := { m with alarmNew := m.alarmNew.set a false } })
      | none =>
        match firstSet m.wordNew with
        | some i => (BitVec.ofNat 4 i.val, m.words[i].setWidth 17,
                     { c with smb := { m with wordNew := m.wordNew.set i false } })
        | none =>
          let nxt := { m with auxTurn := m.auxTurn + 1 }
          if m.auxTurn = 0 then (0xE, BitVec.ofNat 17 c.adc.id, { c with smb := nxt })
          else if m.auxTurn = 1 then (0xF, BitVec.ofNat 17 c.adc.tj, { c with smb := nxt })
          else (0xB, m.smbstat false false, { c with smb := nxt.carried })

/-- The tile's own presence runs and the restarts they cause (R661). -/
def BayMaster.watch (m : BayMaster) (smben : Bool) (vout ntc : Nat) : BayMaster :=
  if missing vout ntc then
    let n := satAdd 2 m.missRun 1
    let m := { m with missRun := n, presRun := 0, wasMissing := true }
    if n = 2 then m.identClear else m
  else if present vout ntc then
    let n := satAdd 3 m.presRun 1
    let m := { m with presRun := n, missRun := 0 }
    if n = 3 ∧ m.wasMissing = true then
      { (m.identRestart smben) with wasMissing := false, idrOnce := true }
    else m
  else { m with presRun := 0, missRun := 0 }

/-- One bay latches (R18, R79, Table RG-6); what the latch reports once is consumed. -/
def Chan.latchBay (c : Chan) (a : BayAdc) (smben loopen : Bool) : TelBay × Chan :=
  let c := { c with adc := a }
  let v := match c.restMean with | some r => r.1 | none => a.vout
  let n := match c.restMean with | some r => r.2 | none => a.ntc
  let x := c.chooseAux
  let tb : TelBay :=
    { restv := c.restMean.isSome, isocl := c.isocl, vout := v, att := c.att, iout := a.iout
      proberes := c.proberes, ntc := n, dropout := c.dropout, fold := c.fold, ovp := c.ovp
      therm := c.therm, oclock := c.oclock, preshort := c.preshort, revpol := c.revpol
      cmdrej := c.cmdrej, door := c.door, lkshort := c.lkshort, lkopen := c.lkopen
      lampfltA := c.lampfltA, lampfltB := c.lampfltB, smbflt := c.smb.smbflt, dcnt := c.dcnt
      edgeack := c.edgeSeq, auxsel := x.1, aux := x.2.1 }
  let d := x.2.2
  let m := (({ d.smb with wordFresh := Vector.replicate 7 false
                          alarmFresh := Vector.replicate 3 false }).watch smben v n).pump loopen
  (tb, { d with restMean := none, dcnt := 0, lampfltA := false, lampfltB := false, smb := m })

/-- A quantity in a byte that saturates. -/
def byteSat (n : Nat) : BitVec 8 := BitVec.ofNat 8 (min 255 n)

/-- TIO byte of a slot: levels in bits 7:4, edges in bits 3:0 (Table RG-5). -/
def tioByte (lev edge : Vector Bool 4) : BitVec 8 :=
  BitVec.ofNat 8 ((List.finRange 4).foldl
    (fun n i => n + 2 ^ (i.val + 4) * lev[i].toNat + 2 ^ i.val * edge[i].toNat) 0)

/-- The settings of Table PK-6 take effect at a measure beat (R116); changes of SMBEN and LOOPEN act
(R111, R661). When LOOPEN becomes 0, the runs of failures and passes stand (DESIGN CHOICE, log entry 83). -/
def Chan.takePk6 (c : Chan) (g : BayTileCfg) : Chan :=
  let m := c.smb
  let m := if !c.use.smben && g.smben then m.identRestart true else m
  let m := if c.use.smben && !g.smben then m.dropOwn else m
  let m := if g.loopen then m else { m with smbflt := false }
  { c with smb := m.pump g.loopen
           use := { c.use with smben := g.smben, smbspd := g.smbspd, pecen := g.pecen, loopen := g.loopen, pollper := g.pollper } }

/-- The tile latches its telemetry (R18, R79, R136, R137): the means of the tick that ends here. -/
def Tile.latchAll (t : Tile) (fw : Bool) : Tile :=
  let a := t.adc
  let r : Vector (TelBay × Chan) 4 := Vector.ofFn fun p =>
    let c := t.chans[p].takePk6 t.active.bays[p]
    let c := if c.pulsing then { c with dropout := !headroom a.vin a.bays[p].vout } else c
    c.latchBay a.bays[p] c.use.smben c.use.loopen
  { t with
      latch := { tileno := match t.number with | some k => k.val | none => 0
                 safe := t.safe, clkhold := t.clk == .holdover, adcfail := t.adcfail
                 vinlow := t.vinlow, vinov := t.vinov, beatfw := fw
                 epochlo := t.epoch.setWidth 8, bays := r.map (·.1)
                 vin := byteSat (a.vin * 2 / 125), vlog := byteSat (a.vlog * 2 / 125)
                 die := byteSat (a.die / 64), tio := tioByte t.tioLevel t.tioEdge }
      chans := r.map (·.2)
      tioEdge := Vector.replicate 4 false }

/-- The window of a rest moves with the beat and is forgotten once it has closed. -/
def stepWindow (o : Option Int) : Option Int :=
  match o with
  | some t => if t ≤ -3000 then none else some (t - 1000)
  | none => none

/-- The tick that ends at a beat, in the ADC (R79, R80, R257, R258, R260). -/
def Tile.convertTick (t : Tile) (samples : List (BitVec 14)) : Tile :=
  let r := t.convert samples
  { t with adc := r.means t.adc, boostTurn := r.turn
           refBad := if r.own[3].cnt = 0 then t.refBad else if refOut r.own[3] then satAdd 2 t.refBad 1 else 0
           chans := Vector.ofFn fun p =>
             let c := t.chans[p]
             { c with winV := if c.winDue then c.winV.join r.winV[p] else c.winV
                      winN := if c.winDue then c.winN.join r.winN[p] else c.winN
                      winOpen := stepWindow c.winOpen } }

/-- What the tile measured in the tick that ends at a beat: the ADC, and the outputs of the channels. -/
def Tile.observe (t : Tile) (o : TickObs) : Tile :=
  let t := t.convertTick o.samples
  { t with chans := Vector.ofFn fun p => t.chans[p].seeOuts o.outs[p] }

/-- One tick passes in a channel: schedules, rests, unlock pulses, lock times, retry waits, lamps. -/
def Chan.tick (c : Chan) (ticks : Nat) : Chan :=
  ({ c with
      restIn := c.restIn.map (· - 1)
      rest := match c.rest with | some (n + 2) => some (n + 1) | _ => none
      pulseLeft := c.pulseLeft.map (· - 1)
      retryTicks := if c.retryWait then c.retryTicks + 1 else c.retryTicks
      lockTicks := if c.lockDrv == LockDrv.full then satAdd 200 c.lockTicks 1 else c.lockTicks
      smb := { c.smb with pollTicks := c.smb.pollTicks - 1 } }).stepLamps ticks

/-- One beat of the tile's time (R175, R288): the canon phase is restored at a beat on the recovered
clock (R49). -/
def Tile.tickAll (t : Tile) (ticks : Nat) : Tile :=
  { t with chans := t.chans.map (fun c => c.tick ticks), phaseOk := t.clk == .locked }

/-- The supplies and the tile allow the bucks to switch (R88, R92). -/
def Tile.buckOk (t : Tile) : Bool := !t.inReset && !t.safe && !t.vinlow && !t.vinov

/-- A channel starts a pulse: the settings of R95 take effect here, those of the tile's pins too. -/
def Tile.startPulse (t : Tile) (p : Pos) (vin vout : Nat) : Tile :=
  Tile.driveTio { t with tioUse := t.active.tiocfg
                         chans := upd t.chans p (fun c => c.startPulse t.active.bays[p] vin vout) }

/-- A retry that fell due in a rest starts at the rest's end (R73), with the VOUT that the ADC found. Where
VINLOW, VINOV or THERM holds the channel then, it stays due and starts at the first beat at which nothing holds
it (DESIGN CHOICE, log entry 112). -/
def Tile.lateRetry (t : Tile) (p : Pos) : Tile :=
  let c := t.chans[p]
  if c.retryDue && c.rest.isNone && t.buckOk && c.mayStart then t.startPulse p t.adc.vin t.adc.bays[p].vout else t

def Tile.lateRetries (t : Tile) : Tile := (List.finRange 4).foldl Tile.lateRetry t

/-- DLY slews by at most 3 units a measure beat when the tile is out of qualification (R289). -/
def slew (goal now : Nat) : Nat :=
  if now < goal then min goal (now + 3) else max goal (now - 3)

/-- Edge-type orders of a record with a new EDGESEQ (R132). -/
def Chan.edges (c : Chan) (r : BayRec) (lksafe smben : Bool) : Chan :=
  if r.edgeseq = c.edgeSeq then c else
    let c := { c with edgeSeq := r.edgeseq }
    let c := if r.clrflt then c.clearFault else c
    let c := if r.clrflt && r.mode == 0 then { c with smb := c.smb.identRestart smben } else c
    if r.lock = 2 then { (c.setLock lksafe true) with pulseLeft := some r.lkpulse.toNat } else c

/-- The LOCK level of a record (R134): LOCKED ends a pulse, UNLOCKED is a level order. -/
def Chan.lockLevelOrder (c : Chan) (r : BayRec) (lksafe : Bool) : Chan :=
  if r.lock = 0 then { (c.setLock lksafe false) with pulseLeft := none }
  else if r.lock = 1 then { (c.setLock lksafe true) with pulseLeft := none }
  else c

/-- A shed stands until a frame with another SEQ is applied (R135). -/
def Chan.shedEnds (c : Chan) (seq : BitVec 8) : Chan :=
  match c.shedS with
  | some s => if s = seq then c else { c with shedS := none }
  | none => c

/-- MODE, RESTAT and the probe of a record (R101, R129, R171, R295). In epoch hold no probe runs: one in
progress ends without a result, and one that was ordered meanwhile runs after the hold. -/
def Chan.applyMode (c : Chan) (r : BayRec) (hold : Bool) (restlen : Nat) : Chan :=
  let was := c.order.mode
  let c := { c with epHoldOff := hold && r.mode == 1 }
  if r.mode = 1 then
    if hold then
      { c.stop with probing := false, proberes := 0, probeWait := false, restIn := none, retryWait := false, retryDue := false }
    else
      let c := { c with probing := false, probeWait := false }
      if c.rest.isSome then c
      else if r.restat = 127 then { c with restIn := none }
      else if c.shedS.isSome then { c with restIn := none }
      else if was ≠ 1 ∧ r.restat = 0 then c.startRest restlen 0
      else { c with restIn := some r.restat.toNat }
  else
    let c := { c.stop with retryWait := false, retryDue := false, restIn := none }
    if r.mode = 2 then
      let due := c.probeWait || was != 2 || (hold && c.probing)
      if hold then { c with probing := false, probeWait := due }
      else if due = false then c
      else if c.revpol then { c with proberes := 3, probeWait := false }
      else { c with probing := true, probeWait := false }
    else { c with probing := false, proberes := 0, probeWait := false }

/-- A bay takes its record (R66, R132, R134, R135); a reserved record is discarded with CMDREJ, which the next
valid order clears (Table BT-7). -/
def Chan.applyRec (c : Chan) (r : BayRec) (seq : BitVec 8) (period : Nat) (hold lksafe : Bool)
    (cfg : BayTileCfg) (ticks : Nat) : Chan :=
  if r.reserved period then { c with cmdrej := true }
  else
    let c := (c.shedEnds seq).edges r lksafe cfg.smben
    let c := c.lockLevelOrder r lksafe
    let c := c.applyMode r hold cfg.restlen.toNat
    ({ c with order := r, cmdrej := false }).refold.stepLamps ticks

/-- Staged settings become active (R171); they take effect as R95 and R116 give. -/
def Tile.activate (t : Tile) (e : BitVec 16) : Tile := { t with active := t.staged, epoch := e, epochHold := false }

/-- The epoch of an applied frame (R171): activate, stay, or enter epoch hold. -/
def Tile.takeEpoch (t : Tile) (e : BitVec 16) : Tile :=
  if t.pendEpoch = some e then { (t.activate e) with pendEpoch := none }
  else if e = t.epoch then { t with epochHold := false }
  else { t with epochHold := true }

/-- The pins take the merged orders (R601, Table CN-6). -/
def Tile.applyTio (t : Tile) (b : TileBlock) : Tile :=
  Tile.driveTio { t with tioIn := b.tioIn
                         tioOrd := Vector.ofFn fun k => if b.tioDrv.getLsbD k.val then some (b.tioVal.getLsbD k.val) else none }

/-- The tile leaves tile SAFE and restarts its identification reads (R94, R661). -/
def Tile.exitSafe (t : Tile) : Tile :=
  { t with safe := false, dieHot := false
           chans := Vector.ofFn fun p =>
             { t.chans[p] with smb := (t.chans[p].smb.identRestart t.chans[p].use.smben).pump t.chans[p].use.loopen } }

/-- The block that a frame holds for the tile: none when the tile is unnumbered or beyond NTILES. -/
def Tile.blockOf (t : Tile) (f : CmdFrame) : Option TileBlock :=
  match t.number with
  | some k => if k.val < f.ntiles then some f.blocks[k] else none
  | none => none

/-- The gate of Table BT-7 on leaving tile SAFE: ADCFAIL clear (R169); and after 155 °C of the die, the die below
130 °C, by the reading of the tick that has just ended (DESIGN CHOICE, log entry 84). -/
def Tile.mayLeave (t : Tile) : Bool := !t.adcfail && (!t.dieHot || decide (t.adc.die < 180 * 64))

/-- The tile applies its accepted frame at the beat of tick 1 (R25, R66, R94, R127, R171, R175). -/
def Tile.applyCmd (t : Tile) (ticks : Nat) : Tile :=
  match t.accepted with
  | none => t
  | some f =>
    let t := { t with accepted := none, mcount := f.mcount }
    let t := t.takeEpoch f.epoch
    match t.blockOf f with
    | none => t
    | some b =>
      if b.tflags.setWidth 7 ≠ 0 then
        { t with chans := t.chans.map (fun c => { c with cmdrej := true }) }
      else
        let t := if t.safe && b.tflags.getLsbD 7 && t.mayLeave then t.exitSafe else t
        if t.safe then
          { t with chans := Vector.ofFn fun p =>
              { t.chans[p] with cmdrej := b.recs[p].reserved t.period } }
        else
          ({ t with chans := Vector.ofFn fun p =>
              t.chans[p].applyRec b.recs[p] f.seq t.period t.epochHold t.lksafe t.active.bays[p] ticks }).applyTio b

/-- A tile in reset: only its straps, its identity and the world outside it stay (R89, R90, R153, R171). -/
def Tile.toReset (t : Tile) : Tile :=
  { lksafePin := t.lksafePin, uid := t.uid, rev := t.rev, proto := t.proto, lat := t.lat
    inReset := true, bypass := true }

/-- A bay is shed (R91, R135): the pulse and any ordered start are cancelled; not a failed attempt. -/
def Chan.shed (c : Chan) (s : BitVec 8) : Chan :=
  { c.stop with shedS := some s, retryWait := false, retryDue := false, restIn := none }

/-- A SHED set is valid when its check nibble and its values are (R140, R141). -/
def ShedSet.check (s : ShedSet) : BitVec 4 :=
  s.d1.extractLsb' 4 4 ^^^ s.d1.extractLsb' 0 4 ^^^ s.d2.extractLsb' 4 4 ^^^ 0xA

def ShedSet.valid (s : ShedSet) : Bool :=
  s.d2.extractLsb' 0 4 == s.check &&
  ((decide (s.d1.toNat < 24) && s.d2.extractLsb' 4 4 != 0) || (s.d1 == 0xFF && s.d2.extractLsb' 4 4 == 0xF))

/-- The positions of this tile that a set names. -/
def Tile.namedBy (t : Tile) (s : ShedSet) (p : Pos) : Bool :=
  s.valid && (s.d1 == 0xFF ||
    match t.number with
    | some k => s.d1.toNat == k.val && (s.d2.extractLsb' 4 4).getLsbD p.val
    | none => false)

/-- The tile acts on a set (R91, R141). An unnumbered tile acts on the form that names every tile. -/
def Tile.shed (t : Tile) (s : ShedSet) : Tile :=
  let q := match t.rxCmd with | some x => x | none => t.ackseq
  { t with chans := Vector.ofFn fun p => if t.namedBy s p then t.chans[p].shed q else t.chans[p] }

/-- The channel of a position changes. -/
def Tile.setChan (t : Tile) (p : Pos) (f : Chan → Chan) : Tile := { t with chans := upd t.chans p f }

/-- A tile that loses its number is unnumbered and in tile SAFE (R92, R153). -/
def Tile.unnumber (t : Tile) : Tile := { t.enterSafe with number := none, numBeat := false, held := false }

/-- The slot of a frame in passing (R93, R137, R174): in tile SAFE every slot carries SAFE = 1. -/
def Tile.fillSlot (t : Tile) : TelSlot :=
  { t.latch with tileno := match t.number with | some k => k.val | none => 0
                 safe := t.latch.safe || t.safe, cmdok := t.cmdok, ackseq := t.ackseq }

end Sys2Proof
end

