-- ==== Sys2Proof/Machine/Ops.lean ====
section
/-! DEFINITION. The named operations over the state that every family uses: changing one part of it,
taking a free value, posting events, ownership, and accesses by host contexts (R13, R563, R564, R576 to R581, R591, R592). -/

namespace Sys2Proof

/-- A queue entry, or what becomes of it when the class is masked or the queue is full (R578, R579). -/
def Ctx.push (x : Ctx) (e : Event) : Ctx :=
  if x.evmask.getLsbD (e.code.toNat / 4096) = false then x
  else if x.queue.length < 32 then { x with queue := x.queue ++ [e] }
  else { x with evovf := true, lost := satAdd 255 x.lost 1 }

/-- A refused or malformed access: REJ, and REJINFO of the first (R13, R564, R581). -/
def Ctx.refuse (x : Ctx) (ha : Nat) (write : Bool) : Ctx :=
  { x with rej := true
           rejinfo := if x.rej then x.rejinfo
                      else some (BitVec.ofNat 8 (ha % 128 + if write then 128 else 0)) }

/-- The bay's MODE is OFF from a tick on, by a SHED set (R209, R223). -/
def BayVol.stopNow (tick : Nat) (v : BayVol) : BayVol :=
  if tick < v.appliedAt then { v with applied := 0, appliedAt := tick }
  else { v with prevApp := v.applied, applied := 0, appliedAt := tick }

/-- A tile number is present: it is qualified, from the pass of step 4 on (R152, R160). -/
def TileHub.present (t : TileHub) : Bool := t.qual == .exit || t.qual == .done

end Sys2Proof

namespace Sys2Proof.Machine

/-- The outcome type of every meaning. -/
abbrev Res := Host.Outcome State Fault Refusal

def State.setTile (s : State) (h : Shelf) (f : Tile → Tile) : State := { s with tiles := upd s.tiles h f }
def State.setChan (s : State) (h : Shelf) (p : Pos) (f : Chan → Chan) : State :=
  s.setTile h (fun t => { t with chans := upd t.chans p f })
def State.setHub (s : State) (t : TileNo) (f : TileHub → TileHub) : State := { s with hub := upd s.hub t f }
def State.setBay (s : State) (b : Bay) (f : BayVol → BayVol) : State := { s with bays := upd s.bays b f }
def State.setC (s : State) (f : Committed → Committed) : State := { s with c := f s.c }
def State.setRun (s : State) (b : Bay) (f : BayRun → BayRun) : State :=
  s.setC (fun c => { c with bays := upd c.bays b f })
def State.setSet (s : State) (f : Settings → Settings) : State := s.setC (fun c => { c with set := f c.set })
def State.setRing (s : State) (f : Ring → Ring) : State := { s with ring := f s.ring }
def State.setFeeder (s : State) (i : FeederId) (f : Feeder → Feeder) : State := { s with feeders := upd s.feeders i f }
def State.setKeeper (s : State) (f : Keeper → Keeper) : State := { s with keeper := f s.keeper }
def State.setClk (s : State) (f : Clock → Clock) : State := { s with clk := f s.clk }
def State.setStart (s : State) (f : Start → Start) : State := { s with start := f s.start }
def State.setMode (s : State) (f : ModeSt → ModeSt) : State := { s with mode := f s.mode }
def State.setWd (s : State) (f : Watchdog → Watchdog) : State := { s with wd := f s.wd }
def State.setEng (s : State) (f : Engine → Engine) : State := { s with eng := f s.eng }
def State.setPipe (s : State) (f : Pipe → Pipe) : State := { s with pipe := f s.pipe }
def State.setWb (s : State) (f : Weigh → Weigh) : State := { s with wb := f s.wb }
def State.setVoice (s : State) (v : VoiceId) (f : VoiceVol → VoiceVol) : State := { s with voices := upd s.voices v f }
def State.setVRun (s : State) (v : VoiceId) (f : VoiceRun → VoiceRun) : State :=
  s.setC (fun c => { c with voices := upd c.voices v f })
def State.setTimer (s : State) (n : TimerId) (f : TimerSt → TimerSt) : State := { s with timers := upd s.timers n f }
def State.setCtx (s : State) (c : CtxId) (f : Ctx → Ctx) : State := { s with ctxs := upd s.ctxs c f }
def State.setPort (s : State) (p : PortId) (f : Port → Port) : State := { s with ports := upd s.ports p f }
def State.setPd (s : State) (p : PortId) (f : PdSt → PdSt) : State := s.setPort p (fun q => { q with pd := f q.pd })
def State.setLink (s : State) (f : Link → Link) : State := { s with link := f s.link }
def State.setSec (s : State) (f : Sec → Sec) : State := { s with sec := f s.sec }
def State.setNv (s : State) (f : Nv → Nv) : State := { s with nv := f s.nv }

/-- A free word: the next one, and the state with the counter moved on. -/
def State.freeWord (s : State) : Word × State := (Config.freeWord s.free, { s with free := s.free + 1 })
def State.freeNat (s : State) : Nat × State := (Config.freeNat s.free, { s with free := s.free + 1 })
def State.freeBool (s : State) : Bool × State := (Config.freeBool s.free, { s with free := s.free + 1 })

/-- The engine's state: the trap, and a debugger's halt, stand over what is committed (R319, R327, R391). -/
def State.engine (s : State) : EState :=
  if s.wd.trap then .trap else if s.eng.halted then .halt else if s.c.engStop then .stop else .run

/-- Measures run: Muster or Tutti, with the root not stopped (R463, R467). -/
def State.running (s : State) : Bool := s.start.stage == .muster || s.start.stage == .tutti
def State.inTutti (s : State) : Bool := s.start.stage == .tutti
/-- The hub decides by itself: it is out of reset and Recall has begun (R450). -/
def State.alive (s : State) : Bool := s.start.stage == .recall || s.running
/-- The ports and the keeper are under the hub's control: it is out of reset. -/
def State.powered (s : State) : Bool := s.start.stage == .tacet || s.alive

/-- The context of a tenant. -/
def ctxOf (t : Tenant) : CtxId := ⟨t.val, by omega⟩
/-- The tenant of a context. -/
def tenantOf (c : CtxId) : Option Tenant := if h : c.val < 4 then some ⟨c.val, h⟩ else none
/-- The index of a context's own orders and codes: the debug context has the rights of SYS (R624). -/
def ordIx (c : CtxId) : Fin 5 := if h : c.val < 4 then ⟨c.val, by omega⟩ else 4
/-- The context of a voice. -/
def voiceCtx (v : VoiceId) : CtxId := ⟨v.val, by omega⟩
/-- A 2-bit tenant number. -/
def tenant (w : BitVec 2) : Tenant := ⟨w.toNat, w.isLt⟩
/-- A 3-bit owner code: 0 to 3 tenants, any other SYS (R571). -/
def ownerCtx (w : BitVec 3) : CtxId := if h : w.toNat < 4 then ⟨w.toNat, by omega⟩ else ctxSYS

/-- The tenant that owns a bay (R571). -/
def State.owner (s : State) (b : Bay) : Tenant := tenant s.act.bays[b].owner
/-- The owner of pin `k` of a tile (R571, Table WR-5). -/
def State.pinOwner (s : State) (t : TileNo) (k : Fin 4) : CtxId :=
  ownerCtx (s.act.tiles[t].tioown.extractLsb' (3 * k.val) 3)

/-- A context that has the rights of SYS. -/
def isSys (c : CtxId) : Bool := c == ctxSYS || c == ctxDbg

/-- Keep the last 16 events posted to SYS (Table WD-2). -/
def lastN {α : Type} (n : Nat) (l : List α) : List α := l.drop (l.length - n)

/-- Post an event to one context (R576). The debug context has no queue (R624). -/
def State.postTo (s : State) (c : CtxId) (code a0 a1 : Nat) : State :=
  if c = ctxDbg then s else
    let e : Event := { code := BitVec.ofNat 16 code, arg0 := BitVec.ofNat 16 a0, arg1 := BitVec.ofNat 16 a1
                       mc := s.c.mcount.setWidth 16 }
    let s := s.setCtx c (fun x => x.push e)
    if c = ctxSYS then { s with sysLog := lastN 16 (s.sysLog ++ [e]) } else s

/-- Post an event to SYS. -/
def State.post (s : State) (code a0 a1 : Nat) : State := s.postTo ctxSYS code a0 a1

/-- Post an event to SYS and to tenants. -/
def State.postAlso (s : State) (ts : List Tenant) (code a0 a1 : Nat) : State :=
  ts.foldl (fun s t => s.postTo (ctxOf t) code a0 a1) (s.post code a0 a1)

/-- A context's HINT pin is low (R580): the queue holds an entry, INTEN is 1, and measures have begun. -/
def State.hint (s : State) (c : CtxId) : Bool :=
  s.running && s.ctxs[c].inten && !s.ctxs[c].queue.isEmpty

/-- The register offset, as HA[7:1]. -/
def ha (ofs : Nat) : Nat := ofs / 2

/-- The context is open: at DEVELOP from the first beat of Muster, else by a code (R615). The debug
context does not need to be opened (R624). -/
def State.isOpen (s : State) (c : CtxId) : Bool :=
  c == ctxDbg || s.sec.sess[ordIx c].open_

/-- The rest of the state after a rejected write at register offset `ofs`. A debug access sets its own
REJ flag (R624). -/
def State.reject (s : State) (c : CtxId) (ofs : Nat) : State :=
  let s := s.setCtx c (fun x => x.refuse (ha ofs) true)
  if c = ctxDbg then s.setSec (fun q => { q with accRej := true }) else s
def State.rejectRead (s : State) (c : CtxId) (ofs : Nat) : State :=
  let s := s.setCtx c (fun x => x.refuse (ha ofs) false)
  if c = ctxDbg then { (s.setSec (fun q => { q with accRej := true })) with hd := 0 } else { s with hd := 0 }

/-- The debugger may write: CONTROL is in effect (R620, R625, Table SE-3). The state in effect is what
was granted, but at FIELD in HOLDOVER CONTROL counts as OBSERVE, and it needs measures that run. -/
def State.dbgEffect (s : State) : Dbg :=
  if s.running = false then .none
  else match s.sec.granted with
    | .control => if s.sec.level = .field ∧ s.mode.mode ≠ .operate then .observe else .control
    | g => g

/-- The watchdog's count reaches its period before the next tick beat (R391, R396). -/
def State.wdDue (s : State) : Bool :=
  s.wd.en && s.wd.counting && !s.wd.trap && !(s.engine == .halt && s.wd.dbgfrz) && decide (32 * s.wd.period < s.wd.count + 32)

/-- Time has come to `n` ms after the trap (R392, R394); where the trap fell in no tick the model holds no time. -/
def State.sinceTrap (s : State) (n : Nat) : Bool := match s.wd.hardT with | some k => decide (n ≤ k) | none => true

/-- No event of the watchdog stands before the next tick beat (R391, R394). -/
def State.wdQuiet (s : State) : Bool :=
  !s.wdDue && !(s.wd.hard && match s.wd.hardT with | some k => decide (4 ≤ k) | none => false)

/-- The hub is held in reset, and Tacet has not begun (R453). -/
def State.inHold (s : State) : Bool := s.start.stage == .held && !s.start.isDorm

/-- Microseconds since the last measure beat: those of the tick in progress are the operand's. -/
def State.usNow (s : State) (us : Nat) : Nat := if s.running then 1000 * s.clk.tick + us % 1000 else us

/-- A debugger's halt ends (R327, R626): voices resume at their next slot. -/
def State.endHalt (s : State) : State :=
  if s.eng.halted || s.eng.haltReq || s.eng.brkHit then
    let was := s.eng.halted
    let s := s.setEng (fun e => { e with
      halted := false, haltReq := false, haltDue := false, stepReq := false, stepping := false, brkHit := false })
    let s := s.setSec (fun q => { q with brkVoice := none })
    { s with voices := s.voices.map (fun v => { v with first := v.first || was })
             timers := Vector.ofFn fun n => { s.timers[n] with loose := s.timers[n].loose || s.act.timers[n].frz } }
  else s

/-- Where CONTROL is no longer in effect, a halt ends at once (R626). -/
def State.debugFall (s : State) : State := if s.dbgEffect = .control then s else s.endHalt

/-- The debug session ends (R623, R631). -/
def State.endSession (s : State) : State :=
  State.debugFall (s.setSec (fun q => { q with
    granted := .none, request := .none, brks := Vector.replicate 8 {}, brkVoice := none, tmsel0 := 0, tmsel1 := 0 }))

/-- The bus serves this context's write (R461, R442, R391, R615, R619, R625): Recall has ended, the
context is open, and a debugger has CONTROL. -/
def State.mayWrite (s : State) (c : CtxId) : Bool :=
  (s.running || s.start.recalled) && s.isOpen c && (c != ctxDbg || s.dbgEffect == .control)

/-- The bus takes a cycle (R461, R442, R371): none while HWAIT# holds one (R574). -/
def State.busOn (s : State) : Bool := s.alive && s.held.isNone

/-- A SYS write at register offset `ofs`: done when the context has the rights, rejected otherwise. -/
def State.sysWrite (s : State) (c : CtxId) (ofs : Nat) (ok : Bool) (f : State → State) : State :=
  if s.busOn = false then s
  else if s.mayWrite c && isSys c && ok then f s else s.reject c ofs

/-- A write that any context with a right of its own may make. -/
def State.ctxWrite (s : State) (c : CtxId) (ofs : Nat) (ok : Bool) (f : State → State) : State :=
  if s.busOn = false then s
  else if s.mayWrite c && ok then f s else s.reject c ofs

/-- A host access has a right to a bay: it owns it, or it is SYS (R571). -/
def State.ownsBay (s : State) (c : CtxId) (b : Bay) : Bool :=
  isSys c || tenantOf c == some (s.owner b)

/-- A bay is present (R4, R160). -/
def State.bayPresent (s : State) (b : Bay) : Bool := s.hub[tileOf b].present

/-- The physical tile that answers to a number: the first in hop order (R174). -/
def State.shelfOf (s : State) (t : TileNo) : Option Shelf :=
  (List.finRange 32).find? (fun h => s.tiles[h].number == some t && !s.tiles[h].bypass)

/-- The measure period in force, in ticks. -/
def State.period (s : State) : Nat := s.act.layout.period.toNat

/-- The measure has had its last tick beat, or no measure has begun (R17, R44, R463). -/
def State.lastTick (s : State) : Bool :=
  decide (s.clk.tick + 1 = s.period) || (s.start.stage == .muster && s.start.meas == 0)

/-- Cabinet time in ms (R60). -/
def State.cabinetTime (s : State) : BitVec 64 := s.clk.elapsed / 32 + s.c.ctofs.signExtend 64

end Sys2Proof.Machine
end

