-- ==== Sys2Proof/Machine/BayOps.lean ====
section
/-! DEFINITION. Crusher and Screen for one bay and for the keeper: bay words, the temperature, the pack
states, profile selection, the charge phases and their ends, interruption and resume (chapters 04, 07,
08). -/

namespace Sys2Proof

/-- What Screen needs besides the bay itself. Times: ticks, and SLOW periods for `el`. -/
structure BayEnv where
  set     : BaySet
  p       : Nat            -- ticks of the measure that has ended
  now     : Nat            -- tick of the measure beat
  el      : Nat            -- ELAPSED at the measure beat
  resmax  : Nat            -- RESUME_MAX in minutes
  charge  : Bool           -- OPERATE, and bays are not held
  keeper  : Bool := false

/-- Natural logarithm of a positive number, times 2^24, by the series of the inverse hyperbolic tangent
after taking out powers of two. The terms are cut after the eleventh power (R103 allows 1.0 °C). -/
def lnFix (n : Nat) : Int :=
  let b := n.log2
  let one := 2 ^ 40
  let m := n * one / 2 ^ b
  let z := (m - one) * one / (m + one)
  let z2 := z * z / one
  let z3 := z * z2 / one
  let z5 := z3 * z2 / one
  let z7 := z5 * z2 / one
  let z9 := z7 * z2 / one
  let z11 := z9 * z2 / one
  let frac := 2 * (z + z3 / 3 + z5 / 5 + z7 / 7 + z9 / 9 + z11 / 11)
  (b * 11629080 + frac / 2 ^ 16 : Nat)

/-- B of the thermistor (Table PK-6). -/
def ntcB (code : BitVec 2) : Nat :=
  if code = 0 then 3380 else if code = 1 then 3435 else if code = 2 then 3950 else 4250

/-- A decoded thermistor (R103). -/
inductive NtcRes
  | temp (t : Int)     -- 0.1 °C
  | open_ | short | range
deriving DecidableEq, Repr

/-- NTC ratio * 16384 to a temperature (R103). -/
def ntcDecode (n : Nat) (code : BitVec 2) : NtcRes :=
  if ntcOpen n then .open_
  else if n * 1000 ≤ 15 * 16384 then .short
  else
    let b : Int := (ntcB code * 2 ^ 24 : Nat)
    let l := lnFix n - lnFix (16384 - n)
    let num := 29815 * b
    let den := 100 * b + 29815 * l
    let t := (20 * num - 5463 * den + den).fdiv (2 * den)
    if t < -400 ∨ 1250 < t then .range else .temp t

/-- The poll words that alarms repeat (Table WR-2): BatteryStatus, ChargingCurrent, ChargingVoltage. -/
def pollWord (k : Fin 3) : Fin 10 := if k = 0 then 0 else if k = 1 then 4 else 5
def alarmWord (k : Fin 3) : Fin 10 := ⟨7 + k.val, by omega⟩

/-- The latest stored value of a word that comes by polls and by alarms, once one has been received (R182, R205,
R221). -/
def BayVol.latest (v : BayVol) (k : Fin 3) : Option Word :=
  let x := if v.later[k] then v.store[alarmWord k] else v.store[pollWord k]
  if x.got then some x.val else none

/-- The identification data as far as it counts: none while SMBFLT is set (R117). -/
def BayVol.goodIdent (v : BayVol) : Ident := if v.smbflt then {} else v.ident

/-- The pack's Temperature word in 0.1 °C, while it is available (R104): the word is in 0.1 K. -/
def BayVol.smbTemp (v : BayVol) (e : BayEnv) : Option Int :=
  let w := v.store[(3 : Fin 10)]
  if v.smbflt = false ∧ w.got = true ∧ w.age ≤ ceilDiv (2 * pollMs e.set.tileCfg.pollper) e.p + 16 then
    some ((w.val.toNat : Int) - 2731)
  else none

/-- The temperature used for charging (R104). -/
def BayVol.chooseTemp (v : BayVol) (e : BayEnv) (n : NtcRes) : Option Int :=
  let a := match n with | .temp t => some t | _ => none
  if e.set.thermsrc = 0 then a
  else if e.set.thermsrc = 1 then v.smbTemp e
  else match a, v.smbTemp e with
    | some x, some y => some (max x y)
    | _, _ => none

/-- The ID code (R105). -/
def idDecode (n : Nat) : Option Nat :=
  let k := (30 * n + 16384) / 32768
  if absDiff (15 * n) (k * 16384) * 1000 ≤ 375 * 16384 then some k else none

/-- How many ticks of [lo, hi) lie in [a, b). -/
def overlap (lo hi a b : Nat) : Nat := min hi b - max lo a

/-- Ticks of the ending measure that fell inside one of the bay's rests (R181). -/
def BayVol.restTicks (v : BayVol) (e : BayEnv) : Nat :=
  match v.restStart with
  | some rs => overlap (e.now - e.p) e.now rs v.restEnd
  | none => 0

/-- Ticks of the ending measure with MODE PULSE applied (R209). -/
def BayVol.pulseTicks (v : BayVol) (e : BayEnv) : Nat :=
  let cut := max (e.now - e.p) (min v.appliedAt e.now)
  (if v.applied = 1 then e.now - cut else 0) + (if v.prevApp = 1 then cut - (e.now - e.p) else 0)

/-- FILT in ms (R191). -/
def filtMs (c : BitVec 2) : Nat := if c = 0 then 0 else 10 * 2 ^ c.toNat

/-- The filter of R180 on a value in mV * 256. The step is cut towards zero: the spec says only that eight
fraction bits are kept (DESIGN CHOICE, log entry 87). -/
def vavgStep (avg v p filt : Nat) : Nat :=
  let d : Int := (v : Int) * 256 - avg
  ((avg : Int) + (d * p).tdiv (p + filt)).toNat

/-- Flags of TEL bay-record byte 6, bits 7 to 0 (Table RG-6). -/
def TelBay.flags (t : TelBay) : BitVec 8 :=
  BitVec.ofNat 8 (128 * t.dropout.toNat + 64 * t.fold.toNat + 32 * t.ovp.toNat + 16 * t.therm.toNat +
    8 * t.oclock.toNat + 4 * t.preshort.toNat + 2 * t.revpol.toNat + t.cmdrej.toNat)

/-- File an AUX item (R182, Table RG-7). Only words, IDRATIO and SMBSTAT change the bay's record. -/
def BayVol.fileAux (v : BayVol) (sel : BitVec 4) (aux : BitVec 17) : BayVol :=
  let w : Word := aux.setWidth 16
  if h : sel.toNat < 10 then
    { v with store := v.store.set sel.toNat { val := w, age := 0, got := true }
             later := Vector.ofFn fun k => if (alarmWord k).val = sel.toNat then true
               else if (pollWord k).val = sel.toNat then false else v.later[k] }
  else if sel = 0xB then
    { v with smbstat := w, iddone := some (w.getLsbD 12), identOk := v.identOk && w.getLsbD 12 }
  else if sel = 0xE then { v with idRatio := some (w.toNat % 16384) }
  else v

/-- Ages go up by one and saturate (R180, R182, R183). -/
def BayVol.older (v : BayVol) : BayVol :=
  { v with store := v.store.map (fun x => { x with age := satAdd 255 x.age 1 }), vrage := satAdd 65535 v.vrage 1 }

/-- Crusher for one bay of a VALID slot (R179 to R182). The charge accumulator is in the committed part. -/
def crush (e : BayEnv) (v : BayVol) (r : BayRun) (t : TelBay) (safe : Bool) : BayVol × BayRun :=
  let vn := (t.vout * 5 + 2) / 4
  let inow := (t.iout * 5 + 8) / 16
  let n := ntcDecode t.ntc e.set.ntcb
  let v := v.older.fileAux t.auxsel t.aux
  let v := { v with
    tilest := 0, flags := t.flags, safe := safe, vnow := vn, inow := inow, isocl := t.isocl
    isoRun := if t.isocl || v.applied = 1 then 0 else v.isoRun + (if v.prevApp = 1 then min e.p (e.now - v.appliedAt) else e.p)
    vavg := if t.restv then v.vavg else if e.set.filt = 0 then vn * 256 else vavgStep v.vavg vn e.p (filtMs e.set.filt)
    vrest := if t.restv then vn else v.vrest
    vrage := if t.restv then 0 else v.vrage
    door := t.door, lkshort := t.lkshort, lkopen := t.lkopen
    lampflt := BitVec.ofNat 2 (t.lampfltA.toNat + 2 * t.lampfltB.toNat)
    dedge := t.dcnt != 0, smbflt := t.smbflt, edgeAck := t.edgeack == v.lastRec.edgeseq }
  let v := { v with temp := v.chooseTemp e n }
  (v, { r with qacc := r.qacc + inow * (e.p - v.restTicks e) })

/-- Nickel chemistry. -/
def Chem.nickel (c : Chem) : Bool := c == .nimh || c == .nicd

/-- A code or the chemistry's default (Table CP-6). -/
def codeOr (code dflt : Nat) : Nat := if code = 0 then dflt else code

/-- NIDV in mV per cell. -/
def BaySet.nidvMv (g : BaySet) (c : Chem) : Nat := codeOr g.nidv.toNat (if c = .nicd then 10 else 3)
/-- DTDT in 0.1 °C/min. -/
def BaySet.dtdtD (g : BaySet) : Nat := codeOr g.dtdt.toNat 10
/-- TABS in 0.1 °C. -/
def BaySet.tabsD (g : BaySet) (c : Chem) : Int := (codeOr g.tabs.toNat (if c = .nicd then 50 else 45) * 10 : Nat)
/-- TMAXC in ticks. -/
def BaySet.tmaxT (g : BaySet) (c : Chem) : Nat :=
  (if g.tmaxc = 0 then (if c.nickel then 180 else 300) else g.tmaxc.toNat * 10) * 60000
/-- TOPOFF in ticks; 0 is off. -/
def BaySet.topT (g : BaySet) (c : Chem) : Nat :=
  if g.topoff = 0 then (if c = .nimh then 1800000 else 0)
  else if g.topoff = 1 then 0 else if g.topoff = 2 then 900000 else 1800000
/-- MAINT interval in ticks; 0 is off. -/
def BaySet.maintT (g : BaySet) (c : Chem) : Nat :=
  if g.maint = 0 then (if c = .nimh then 1800000 else if c = .nicd then 900000 else 0)
  else if g.maint = 1 then 0 else if g.maint = 2 then 600000 else if g.maint = 3 then 900000
  else if g.maint = 4 then 1800000 else 3600000
/-- VCELL in mV. -/
def BaySet.vcellMv (g : BaySet) (c : Chem) : Nat :=
  if g.vcell = 0 then (if c = .lifepo4 then 3600 else 4200) else 3000 + 5 * g.vcell.toNat
/-- VABSM in mV. -/
def BaySet.vabsMv (g : BaySet) (c : Chem) : Nat :=
  if g.vabsm = 0 then (if c = .lifepo4 then 100 else 50) else 10 * g.vabsm.toNat
/-- HLWAIT in ticks. -/
def BaySet.hlT (g : BaySet) : Nat := codeOr g.hlwait.toNat 10 * 60000
/-- PLATINT in ticks; none is off (R214). -/
def BaySet.platT (g : BaySet) : Option Nat :=
  if g.platint = 0 then some 0 else if g.platint = 1 then some 30000 else if g.platint = 2 then some 60000 else none
/-- PPER in ticks. -/
def BaySet.pperT (g : BaySet) : Nat := g.pper.toNat * 10

/-- Cell counts of Table CP-1. -/
def Chem.cellsOk (c : Chem) (n : Nat) : Bool :=
  decide (1 ≤ n) && decide (n ≤ match c with | .nimh | .nicd => 12 | .liion => 4 | .lifepo4 => 5)
/-- VCELL of a chemistry lies in its range (Table CP-1). -/
def Chem.vcellOk (c : Chem) (mv : Nat) : Bool :=
  match c with
  | .nimh | .nicd => true
  | .liion => decide (4000 ≤ mv ∧ mv ≤ 4350)
  | .lifepo4 => decide (3400 ≤ mv ∧ mv ≤ 3650)
/-- The cell voltage that divides DesignVoltage (R203, R204). -/
def Chem.nominal : Chem → Nat
  | .nimh | .nicd => 1200
  | .liion => 3700
  | .lifepo4 => 3200
/-- Precharge ends at this many mV per cell (Table CP-1). -/
def Chem.preMv : Chem → Nat
  | .nimh | .nicd => 900
  | .liion => 3000
  | .lifepo4 => 2500

/-- A letter without its case. -/
def upper (b : Byte) : Byte := if 0x61 ≤ b.toNat ∧ b.toNat ≤ 0x7A then b - 0x20 else b

/-- DeviceChemistry (R204): NiMH, NiCd, LION or LiP, LFP or LiFe, in any case. -/
def chemOf (s : List Byte) : Option Chem :=
  let u := s.map upper
  if u = [0x4E, 0x49, 0x4D, 0x48] then some .nimh
  else if u = [0x4E, 0x49, 0x43, 0x44] then some .nicd
  else if u = [0x4C, 0x49, 0x4F, 0x4E] ∨ u = [0x4C, 0x49, 0x50] then some .liion
  else if u = [0x4C, 0x46, 0x50] ∨ u = [0x4C, 0x49, 0x46, 0x45] then some .lifepo4
  else none

/-- DesignVoltage to cells, to the nearest whole cell. -/
def cellsFrom (dv : Word) (c : Chem) : Nat := (dv.toNat + c.nominal / 2) / c.nominal

/-- The cell count that does not come from CELLS (R203). -/
def BayVol.cellSource (v : BayVol) (smart : Bool) (c : Chem) : Nat :=
  if smart then cellsFrom v.goodIdent.desV c
  else match v.idRatio.bind idDecode with
    | some k => if k = 0 ∨ k = 15 then 0 else k
    | none => 0

/-- Profile selection (R203, R204): a chemistry and a cell count, or none for NOPROF. -/
def selectProfile (g : BaySet) (v : BayVol) (smart : Bool) : Option (Chem × Nat) :=
  let ok (c : Chem) (n : Nat) : Option (Chem × Nat) :=
    if c.cellsOk n && c.vcellOk (g.vcellMv c) then some (c, n) else none
  let named (c : Chem) := ok c (if g.cells = 0 then v.cellSource smart c else g.cells.toNat)
  if g.prof = 1 then named .nimh
  else if g.prof = 2 then named .nicd
  else if g.prof = 3 then named .liion
  else if g.prof = 4 then named .lifepo4
  else if g.prof = 5 then
    if smart then (match chemOf v.goodIdent.chem with | some c => ok c (cellsFrom v.goodIdent.desV c) | none => none)
    else none
  else if g.prof = 6 then ok .nimh (v.cellSource false .nimh)
  else none

/-- A charge's state, begun afresh (R207). The pack stays as it is, and so does the accumulator (R181). -/
def BayRun.begin_ (r : BayRun) (c : Chem) (n vnow : Nat) : BayRun :=
  { pack := .ready, deepdis := r.deepdis, smart := r.smart, chem := c, cells := n, serial := r.serial, qacc := r.qacc
    base := if r.deepdis || decide (vnow < n * c.preMv) then .prechg else .cc }

/-- Selection and start, as at READY (R203). -/
def startProfile (g : BaySet) (v : BayVol) (r : BayRun) : BayRun :=
  match selectProfile g v r.smart with
  | some (c, n) => r.begin_ c n v.vnow
  | none => { pack := .noprof, deepdis := r.deepdis, smart := r.smart, serial := r.serial, qacc := r.qacc }

/-- RESTART: the accumulator starts from zero, and selection runs again (R181, R220). In a pulse no open-circuit
voltage is at hand: the choice of PRECHG or CC uses VNOW as latched (DESIGN CHOICE, log entry 115). -/
def restart (g : BaySet) (v : BayVol) (r : BayRun) : BayRun := startProfile g v { r with qacc := 0 }

/-- The phase that PHASE shows (Table CP-2, R663). -/
def BayRun.phase (r : BayRun) : Nat :=
  if r.resume then 1
  else if r.faultHold then 11 else if r.tempPause then 8 else if r.packHold then 9 else if r.hostLate then 10
  else match r.base with
    | .none => 0 | .prechg => 2 | .cc => 3 | .cv => 4 | .topoff => 5 | .maint => 6 | .done => 7

/-- A hold stands. -/
def BayRun.held (r : BayRun) : Bool := r.faultHold || r.tempPause || r.packHold || r.hostLate

/-- Entering a holding phase clears a pending below_peak (R212). -/
def BayRun.hold (r : BayRun) : BayRun := { r with below := false }

/-- A charge has begun. -/
def BayRun.charging (r : BayRun) : Bool := r.base != .none

/-- The charge is of a kind that R223 interrupts or R225 checks: one that has pulsed (log entry 55), one in DONE and
one in FAULTHOLD. -/
def BayRun.checked (r : BayRun) : Bool := r.charging && (r.tchg != 0 || r.base == .done || r.faultHold)

/-- TOPOFF or MAINT, then DONE (Table CP-3). -/
def BayRun.enterMaint (r : BayRun) (g : BaySet) : BayRun :=
  if g.maintT r.chem = 0 then { r with base := .done }
  else { r with base := .maint, maintTicks := 0, maintPulse := !r.tempSusp, maintLeft := g.pperT }

def BayRun.enterTop (r : BayRun) (g : BaySet) : BayRun :=
  if g.topT r.chem = 0 then r.enterMaint g else { r with base := .topoff, topTicks := 0 }

/-- KEEPFLT ends (R222). -/
def Term.keepFault (t : Term) : Bool :=
  match t with | .vmax | .vabs | .litimer | .pretime | .norest => true | _ => false

/-- A charge ends with a cause (Table CP-3). The keeper never enters FAULTHOLD: its charging stops (R222). -/
def BayRun.endWith (r : BayRun) (e : BayEnv) (t : Term) : BayRun :=
  let r := { r with term := t }
  match t with
  | .none => r
  | .negdv | .dtdt | .plateau | .timer => r.enterTop e.set
  | .temp => { r with tempSusp := true }.enterMaint e.set
  | .hostend => { r with base := .done, resume := false, hlRun := false, hlTicks := 0, faultHold := false, tempPause := false, packHold := false, hostLate := false }
  | .vmax | .vabs | .litimer | .pretime | .norest =>
    if e.keeper then { r with base := .done } else { r.hold with faultHold := true }

/-- The lithium voltage above which VABS ends the charge (R218). -/
def BayRun.vabs (r : BayRun) (g : BaySet) : Nat := r.cells * (g.vcellMv r.chem + g.vabsMv r.chem)

/-- The capacity C in mAh (R219). -/
def capacity (g : BaySet) (v : BayVol) (smart : Bool) : Nat :=
  if g.capmah ≠ 0 then g.capmah.toNat
  else if smart && !v.smbflt then v.ident.desC.toNat
  else g.ichg.toNat * 10

/-- The pulse voltage limit in mV, rounded down to a code (Table CP-1, R205, R206). -/
def pulseVset (g : BaySet) (v : BayVol) (r : BayRun) : Nat :=
  let b := if r.chem.nickel then min (r.cells * 1800) 18000 else r.cells * g.vcellMv r.chem
  let x := if r.smart && !v.smbflt then
      (match v.latest 2 with | some w => if w = 0xFFFF then b else min b w.toNat | none => b) else b
  min 18000 (x / 5 * 5)

/-- ISET of the main charge in mA (R205, R206). -/
def pulseIset (g : BaySet) (v : BayVol) (r : BayRun) : Nat :=
  let b := g.ichg.toNat * 10
  let x := if r.smart && !v.smbflt then
      (match v.latest 1 with | some w => if w = 0xFFFF then b else min b w.toNat | none => b) else b
  max 50 (x / 10 * 10)

/-- 10 % of ISET, at least 50 mA (Table CP-2). -/
def tenth (i : Nat) : Nat := max 50 (i / 10 / 10 * 10)

/-- Charge time advances (R209), with the timers that count it: not in a holding phase. A gap of R211 that holds
an outage counts at the upper value (R57, R223). -/
def BayRun.advance (r : BayRun) (e : BayEnv) (ticks : Nat) : BayRun :=
  let pt := if r.held then 0 else ticks
  let gap := match r.pulseEnd with
    | some x => decide ((2 * e.set.pperT + pt) * 32 < e.el - x + 32 * r.intErr)
    | none => false
  let r := if pt ≠ 0 && gap then { r with gapOpen := true, gapTicks := 0, pulseEnd := none } else r
  let r := if pt ≠ 0 then { r with intErr := 0, intLong := false } else r
  { r with
      tchg := r.tchg + pt
      ccTicks := if r.base = .cc then r.ccTicks + pt else r.ccTicks
      gapTicks := if r.gapOpen then r.gapTicks + pt else 0
      gapOpen := r.gapOpen && decide (r.gapTicks + pt < 180000)
      preTicks := if r.base = .prechg then r.preTicks + pt else r.preTicks
      topTicks := if r.base = .topoff then r.topTicks + pt else r.topTicks
      maintTicks := if r.base = .maint && !r.held && !r.interrupted && !r.resume then r.maintTicks + e.p else r.maintTicks
      maintLeft := r.maintLeft - (if r.base = .maint then pt else 0)
      maintPulse := r.maintPulse && !(r.base == .maint && decide (r.maintLeft ≤ pt))
      hlTicks := if r.hlRun then r.hlTicks + pt else r.hlTicks
      norest := r.norest + pt }

/-- Armed (R211). -/
def BayRun.armed (r : BayRun) : Bool := decide (300000 ≤ r.ccTicks) && !r.gapOpen

/-- A rest measurement is stored with its stamp (R202). `t` is the rest temperature. -/
def BayRun.restStore (r : BayRun) (e : BayEnv) (vrest : Nat) (t : Option Int) : BayRun :=
  { r with vrest := some vrest, trest := t, stamp := e.el, norest := 0 }

/-- A rest measurement enters the detectors' history (R211 to R214). -/
def BayRun.restIn (r : BayRun) (e : BayEnv) (vrest : Nat) (t : Option Int) : BayRun :=
  if r.base ≠ .cc then r else
    let r := match t with
      | some x => { r with hist := ((x, e.el) :: r.hist).take 32 }
      | none => r
    let r := if r.ccTicks < 300000 then r
      else if r.armedSet then { r with vpeak := max r.vpeak vrest }
      else { r with armedSet := true, vpeak := vrest, platAt := r.tchg - (r.ccTicks - 300000) }
    match e.set.platT with
    | none => r
    | some iv =>
      if r.armedSet = false ∨ r.tchg < r.platAt + iv then r else
        let at' := if iv = 0 then r.tchg else r.platAt + (r.tchg - r.platAt) / iv * iv
        match r.platCmp with
        | none => { r with platCmp := some vrest, platAt := at' }
        | some c =>
          { r with platCmp := some vrest, platAt := at'
                   platCount := if vrest < c + r.cells then r.platCount + 1 else 0 }

/-- Newest and oldest entry of the dT/dt history, when it is ready (R213). -/
def BayRun.span (r : BayRun) : Option (Int × Nat) :=
  if r.hist.length < 32 then none
  else match r.hist.head?, r.hist.getLast? with
    | some n, some o => some (n.1 - o.1, n.2 - o.2)
    | _, _ => none

/-- The slope reaches DTDT (R210, R213): 0.1 °C per SLOW periods against 0.1 °C/min. -/
def BayRun.steep (r : BayRun) (g : BaySet) : Bool :=
  match r.span with
  | some (dt, ds) => decide ((g.dtdtD * ds : Nat) ≤ dt * 1920000)
  | none => false

/-- SLOPE in 0.01 °C/min (Table WR-2). -/
def BayRun.slopeC (r : BayRun) : Int :=
  match r.span with
  | some (dt, ds) => if ds = 0 then 0 else (dt * 19200000).fdiv ds
  | none => 0

/-- below_peak (R212). -/
def BayRun.belowPeak (r : BayRun) (g : BaySet) (vrest : Nat) : Bool :=
  r.armedSet && decide (vrest + r.cells * g.nidvMv r.chem ≤ r.vpeak)

/-- The nickel ends of R210, in order. -/
def nickelEnd (e : BayEnv) (r : BayRun) (temp : Int) (rest : Option Nat) : Option Term :=
  let g := e.set
  if g.tabsD r.chem ≤ temp then some .temp
  else match rest with
    | some v =>
      if r.cells * 1600 < v then some .vmax
      else if g.tmaxT r.chem ≤ r.tchg then some .timer
      else if r.armed then
        if r.steep g then some .dtdt
        else if r.belowPeak g v && r.below then some .negdv
        else if 8 ≤ r.platCount then some .plateau
        else none
      else none
    | none => if g.tmaxT r.chem ≤ r.tchg then some .timer else none

/-- A charge of the bay is interrupted (R223); `err` is the bound of an outage in ms. -/
def BayRun.interrupt' (r : BayRun) (err : Nat) (long : Bool) : BayRun :=
  if r.checked then
    { r with interrupted := true, resume := false, intErr := r.intErr + err, intLong := r.intLong || long }
  else r

/-- Discard the charge state: the bay starts from EMPTY (R98, R225). -/
def BayVol.discard (v : BayVol) : BayVol :=
  { v with idRatio := none, iddone := none, ident := {}, identOk := false, fetchFail := false, fetchWait := false
           probeFail := false, presRun := 0, missRun := 0, det := .start, reprobe := false, pMode := 0
           ipSum := 0, ipCnt := 0, ipulse := none, newPulse := false, vpkDue := true, slope := 0
           mEnd := false, mCont := false, mRestart := false }

/-- Removal clears words 0x10 to 0x35 (R596). -/
def BayVol.clearWords (v : BayVol) : BayVol :=
  { v.discard with store := Vector.replicate 10 {}, later := Vector.replicate 3 false, smbstat := 0, reschk := 0, fault := 0 }

/-- Entering DETECT (R100, R180, R181, R596): an item of the same latch stands. -/
def enterDetect (v : BayVol) (t : TelBay) : BayVol :=
  { v.discard with vavg := v.vnow * 256, store := Vector.replicate 10 {}, later := Vector.replicate 3 false }.fileAux t.auxsel t.aux

/-- Step 4 of detection, and step 5 of a pack that is not smart (R100). -/
def detectIdent (e : BayEnv) (v : BayVol) (r : BayRun) : BayVol × BayRun :=
  if e.set.tileCfg.smben then ({ v with det := if v.iddone = some true then .fetch else .ident }, r)
  else (v, startProfile e.set v { r with smart := false })

/-- The steps of detection (R100). A step that needs nothing new runs at the same beat. -/
def detect (e : BayEnv) (v : BayVol) (r : BayRun) (t : TelBay) : BayVol × BayRun :=
  match v.det with
  | .start =>
    if v.idRatio.isNone then (v, r)
    else if voutShort t.vout then ({ v with det := .probe, pMode := 2 }, r)
    else detectIdent e v r
  | .probe =>
    if v.applied = 2 ∧ t.proberes = 2 then ({ v with det := .start, pMode := 0, probeFail := true, probeT := e.now }, { r with pack := .shorted })
    else if v.applied = 2 ∧ t.proberes = 1 then detectIdent e { v with pMode := 0 } { r with deepdis := true }
    else (v, r)
  | .ident => detectIdent e v r
  | .fetch =>
    if v.identOk then
      (v, startProfile e.set v { r with smart := v.goodIdent.idvalid.getLsbD 0, serial := v.goodIdent.serial })
    else detectIdent e v r

/-- Detection from its first step (R99, R100, R102). -/
def detectFrom (e : BayEnv) (v : BayVol) (t : TelBay) : BayVol × BayRun :=
  let v := enterDetect v t
  if t.revpol then (v, { pack := .reversed }) else detect e v { pack := .detect } t

/-- The pack is reversed by REVPOL, or by a probe that REVPOL has stopped (R99, Table PK-7). -/
def BayVol.reversed (v : BayVol) (t : TelBay) : Bool := t.revpol || (v.pMode == 2 && v.applied == 2 && t.proberes == 3)

/-- Presence, removal and the steps of the pack states (R96 to R98, R100, R102). The flag says that the bay was
removed. The missing condition and that of an open thermistor in a pulse count in one run of beats: the spec does
not say whether beats of the two follow one another (DESIGN CHOICE, log entry 88). -/
def packMove (e : BayEnv) (v : BayVol) (r : BayRun) (t : TelBay) : BayVol × BayRun × Bool :=
  let miss := missing t.vout t.ntc
  let nack := e.set.thermsrc == 1 && t.auxsel == 0xB && t.aux.getLsbD 13
  match r.pack with
  | .empty | .seating =>
    if r.pack = .seating ∧ nack = true then (v.clearWords, {}, true)
    else if miss then ({ v with presRun := 0 }, { r with pack := .empty }, false)
    else if present t.vout t.ntc then
      if 2 ≤ v.presRun then let x := detectFrom e v t; (x.1, x.2, false)
      else ({ v with presRun := v.presRun + 1 }, { r with pack := .seating }, false)
    else ({ v with presRun := 0 }, r, false)
  | _ =>
    let gone := miss || (ntcOpen t.ntc && t.isocl && decide (t.iout < 64))
    let n := if gone then satAdd 2 v.missRun 1 else 0
    let v := { v with missRun := n }
    if n = 2 ∨ nack = true then (v.clearWords, {}, true)
    else if v.reversed t then (v, r, false)
    else match r.pack with
      | .detect => let x := detect e v r t; (x.1, x.2, false)
      | .shorted =>
        if v.reprobe = false then (v, r, false)
        else if v.pMode = 2 then
          if v.applied = 2 ∧ t.proberes = 1 then
            let x := detectFrom e v t; ({ x.1 with missRun := n }, x.2, false)
          else if v.applied = 2 ∧ t.proberes = 2 then ({ v with reprobe := false, pMode := 0 }, r, false)
          else (v, r, false)
        else ({ v with pMode := 2, probeT := e.now }, r, false)
      | _ => (v, r, false)

/-- Checks 1 and 2 of R184 as far as they move the pack state: REVPOL, or a probe that it has stopped, moves any bay
that has not been removed to REVERSED (R99, Table PK-7). -/
def packStep (e : BayEnv) (v : BayVol) (r : BayRun) (t : TelBay) : BayVol × BayRun × Bool :=
  let x := packMove e v r t
  if x.2.2 = false ∧ v.reversed t = true ∧ x.2.1.pack ≠ .reversed then
    ({ x.1 with pMode := 0, presRun := 0, reprobe := false }, { pack := .reversed, qacc := x.2.1.qacc }, false)
  else x

/-- FAULT (Table PL-2). -/
def faultWord (e : BayEnv) (v : BayVol) (r : BayRun) (t : TelBay) (vinlow vinov clkhold : Bool) : BitVec 16 :=
  let n := ntcDecode t.ntc e.set.ntcb
  let notemp := r.pack == .ready && v.temp.isNone
  let idbad := v.idRatio.isSome && (v.idRatio.bind idDecode).isNone && r.pack != .empty
  BitVec.ofNat 16 (notemp.toNat + 2 * (n == .open_).toNat + 4 * (n == .short).toNat + 8 * (n == .range).toNat +
    16 * idbad.toNat + 32 * t.smbflt.toNat + 64 * v.probeFail.toNat + 128 * t.lkshort.toNat +
    256 * t.lkopen.toNat + 512 * t.lampfltA.toNat + 1024 * t.lampfltB.toNat + 2048 * r.hostLate.toNat +
    4096 * vinlow.toNat + 8192 * vinov.toNat + 16384 * clkhold.toNat)

/-- END, CONT and RESTART as merged in the previous measure (R220). An END of a charge that waits for its resume
reading ends it too; where the interruption still stands, R225 checks the bay in DONE. -/
def chargeOrders (e : BayEnv) (v : BayVol) (r : BayRun) : BayVol × BayRun :=
  let v' := { v with mEnd := false, mCont := false, mRestart := false }
  let r := if v.mCont ∧ r.base = .cv then { r with hlTicks := 0, hostLate := false } else r
  if v.mEnd ∧ r.charging = true ∧ r.base ≠ .done ∧ r.faultHold = false then (v', r.endWith e .hostend)
  else if v.mRestart ∧ v.mEnd = false ∧ (r.pack = .ready ∨ r.pack = .noprof) then (v', restart e.set v r)
  else (v', r)

/-- PACKHOLD (R205, R221): an alarm bit of the latest BatteryStatus, or a word of zero. -/
def packHolds (v : BayVol) (r : BayRun) : Bool :=
  r.smart && !v.smbflt &&
  ((match v.latest 0 with | some w => w.getLsbD 15 || w.getLsbD 14 || w.getLsbD 12 | none => false) ||
   v.latest 1 == some 0 || v.latest 2 == some 0)

/-- The resume reading and its checks (R57, R224, R225); none while it waits. The identification data of a pack
in SMBFLT is not valid, so its serial number does not match (R117). -/
def resumeStep (e : BayEnv) (v : BayVol) (r : BayRun) : BayVol × BayRun :=
  if v.isoRun < 12 ∨ (r.smart = true ∧ v.identOk = false ∧ e.set.tileCfg.smben = true) then (v, r) else
    let badLen := r.intLong || match r.pulseEnd with
      | some x => decide (e.resmax * 60000 * 32 < e.el - x + 32 * r.intErr)
      | none => true
    let badV := match r.vrest with | some x => decide (x * 2 < absDiff v.vnow x * 100) | none => true
    let badT := match r.trest, v.temp with | some a, some b => decide (30 < (a - b).natAbs) | _, _ => true
    let badS := r.smart && (v.smbflt || v.ident.serial != r.serial)
    let bits := BitVec.ofNat 6 ((!(badLen || badV || badT || badS)).toNat + 2 * badLen.toNat + 4 * badV.toNat +
      8 * badT.toNat + 16 * badS.toNat)
    if badLen || badV || badT || badS then
      ({ v.discard with reschk := bits }, {})
    else ({ v with reschk := bits }, { r with resume := false })

/-- Pulse measurements (R216, R234): the mean current of the last complete pulse, and its highest VNOW. -/
def pulseMeas (e : BayEnv) (v : BayVol) (t : TelBay) : BayVol :=
  let pt := v.pulseTicks e - v.restTicks e
  let sum := v.ipSum + v.inow * pt
  let cnt := v.ipCnt + pt
  let began := match v.restStart with | some rs => decide (e.now - e.p ≤ rs ∧ rs < e.now) | none => false
  let over_ := began && decide (v.restEnd ≤ e.now)
  let inPulse := t.isocl && !t.restv
  let v := { v with
    vpk := if inPulse then (if v.vpkDue || over_ then v.vnow else max v.vpk v.vnow) else v.vpk
    vpkDue := v.applied != 1 || (if inPulse then began && !over_ else began || v.vpkDue) }
  if began && decide (cnt ≠ 0) then { v with ipulse := some (sum / cnt), ipSum := 0, ipCnt := 0, newPulse := true }
  else if v.applied = 1 then { v with ipSum := sum, ipCnt := cnt, newPulse := false }
  else { v with ipSum := 0, ipCnt := 0, newPulse := false }

/-- The tick at which the hub has ended the bay's pulse, when it has within the ending measure: the start of the
rest that it scheduled, or the frame or the SHED set that took MODE PULSE away (R223). -/
def BayVol.hubEnd (e : BayEnv) (v : BayVol) : Option Nat :=
  let off := if v.applied = 1 then none else some v.appliedAt
  if v.pulseTicks e = 0 then none
  else match v.restStart with
    | some rs =>
      let at' := if v.applied = 1 then e.now else v.appliedAt
      if rs < e.now ∧ rs ≤ at' ∧ at' ≤ v.restEnd then some rs else off
    | none => off

/-- The first slot that shows a stop that the tile has made by itself (R223). `iso` is ISOCL, none without a
VALID slot. -/
def BayVol.selfStopped (e : BayEnv) (v : BayVol) (iso : Option Bool) : Option Nat :=
  if v.pulseTicks e = 0 then none
  else match v.selfStop, iso with
    | _, some true => none
    | some x, _ => some x
    | none, some false => if (v.hubEnd e).isNone then some e.el else none
    | none, none => none

/-- The instant at which the last pulse ended, as an ELAPSED value: the earliest that applies (R223). None while
the bay pulses. -/
def pulseEnded (e : BayEnv) (v : BayVol) (prev : Option Nat) (iso : Option Bool) : Option Nat :=
  if v.pulseTicks e = 0 then prev
  else match v.hubEnd e, v.selfStopped e iso with
    | some k, some x => some (min x (e.el - (e.now - k) * 32))
    | some k, none => some (e.el - (e.now - k) * 32)
    | none, some x => some x
    | none, none => none

/-- Charge time of the measure that has ended, and the end of its pulse (R209, R223). -/
def chargeTime (e : BayEnv) (v : BayVol) (r : BayRun) (iso : Option Bool) : BayVol × BayRun :=
  let pt := v.pulseTicks e
  let r' := if r.pack = .ready ∧ r.charging = true then { (r.advance e pt) with pulseEnd := pulseEnded e v r.pulseEnd iso } else r
  ({ v with lastEnd := pulseEnded e v v.lastEnd iso, selfStop := v.selfStopped e iso }, r')

/-- The temperature pause (R208). -/
def tempStep (e : BayEnv) (r : BayRun) (temp : Int) : BayRun :=
  let tabs := e.set.tabsD r.chem
  if temp < 0 ∨ (r.chem.nickel = false ∧ tabs ≤ temp) then
    if r.tempPause then r else { r.hold with tempPause := true }
  else if r.tempPause ∧ 30 ≤ temp ∧ temp ≤ tabs - 30 then { r with tempPause := false }
  else r

/-- The lithium checks of R218 after the temperature pause: step 4 in CV only, which no hold interrupts. -/
def lithiumStep (e : BayEnv) (v : BayVol) (r : BayRun) (rest : Option Nat) : BayRun :=
  let g := e.set
  let tooHigh := decide (r.vabs g < v.vnow) || (match rest with | some x => decide (r.vabs g < x) | none => false)
  if r.faultHold then r
  else if tooHigh then r.endWith e .vabs
  else if g.tmaxT r.chem ≤ r.tchg then r.endWith e .litimer
  else if r.base = .cv ∧ r.held = false ∧ e.keeper = false then
    let low := match v.ipulse with | some i => decide (i * 20 < capacity g v r.smart) | none => false
    let r := if v.newPulse && low && !r.hlRun && !r.hostLate then { r with hlRun := true, hlTicks := 0 } else r
    if r.hlRun ∧ g.hlT ≤ r.hlTicks ∧ r.hostLate = false then { r.hold with hostLate := true } else r
  else r

/-- The ends and moves of the phase that runs (R207, R210, R215, R216, R227). The spec gives NOREST no place among the
checks of one latch: it comes before those of the phase (DESIGN CHOICE, log entry 116). -/
def phaseStep (e : BayEnv) (v : BayVol) (r : BayRun) (temp : Int) (t : TelBay) : BayRun :=
  let g := e.set
  let rest := if t.restv then some v.vnow else none
  if 8 * g.pperT ≤ r.norest ∧ r.held = false ∧ r.base ≠ .done then r.endWith e .norest
  else if r.chem.nickel then
    match r.base with
    | .prechg =>
      if 1800000 ≤ r.preTicks then r.endWith e .pretime
      else if (match rest with | some x => decide (r.cells * r.chem.preMv ≤ x) | none => false) then { r with base := .cc }
      else r
    | .cc =>
      match nickelEnd e r temp rest with
      | some c => r.endWith e c
      | none => match rest with | some x => { r with below := r.belowPeak g x && !r.held } | none => r
    | .topoff =>
      if g.tabsD r.chem ≤ temp then r.endWith e .temp
      else if (match rest with | some x => decide (r.cells * 1600 < x) | none => false) then r.endWith e .vmax
      else if g.topT r.chem ≤ r.topTicks then r.enterMaint g
      else r
    | .maint =>
      if g.maintT r.chem = 0 then { r with base := .done, maintPulse := false }
      else if g.tabsD r.chem ≤ temp ∧ r.tempSusp = false then
        { r with term := .temp, tempSusp := true, maintPulse := false }
      else if (match rest with | some x => decide (r.cells * 1600 < x) | none => false) then r.endWith e .vmax
      else if g.maintT r.chem ≤ r.maintTicks then
        let cool := decide (temp < g.tabsD r.chem - 50)
        let susp := r.tempSusp && !cool
        { r with maintTicks := r.maintTicks - g.maintT r.chem, tempSusp := susp
                 maintPulse := !susp, maintLeft := g.pperT }
      else r
    | _ => r
  else
    match r.base with
    | .prechg =>
      if 1800000 ≤ r.preTicks then r.endWith e .pretime
      else if (match rest with | some x => decide (r.cells * r.chem.preMv ≤ x) | none => false) then { r with base := .cc }
      else r
    | .cc => if t.isocl && !t.restv && decide (pulseVset g v r ≤ v.vnow + 10) then { r with base := .cv } else r
    | .cv =>
      if e.keeper then
        let low := match v.ipulse with | some i => decide (i * 20 < capacity g v r.smart) | none => false
        { r with taper := if low then r.taper + v.pulseTicks e else 0 }
      else r
    | .done =>
      match rest with
      | some x => if e.keeper && !r.term.keepFault && decide (x < r.cells * (g.vcellMv r.chem - 100)) then
          { r with qacc := 0 }.begin_ r.chem r.cells x else r
      | none => r
    | _ => r

/-- The profile order (R185, R206, Table CP-2). -/
def profileOrder (e : BayEnv) (v : BayVol) (r : BayRun) (ok : Bool) : BayVol :=
  let g := e.set
  let i := pulseIset g v r
  let run := ok && r.pack == .ready && !r.resume && !r.interrupted && !r.held
  let m : BitVec 2 := if !run then 0 else match r.base with
    | .prechg | .cc | .cv | .topoff => 1
    | .maint => if r.maintPulse then 1 else 0
    | _ => 0
  let i := match r.base with | .prechg | .topoff => tenth i | _ => i
  { v with pMode := if r.pack = .detect ∨ r.pack = .shorted then v.pMode else m, pIset := i, pVset := pulseVset g v r }

/-- Checks 4 and 5 of R184 for a READY bay whose temperature is known. -/
def profileStep (e : BayEnv) (v : BayVol) (r : BayRun) (t : TelBay) (temp : Int) : BayRun :=
  let rest := if t.restv then some v.vnow else none
  let r := match rest with | some x => r.restIn e x v.temp | none => r
  let r := tempStep e r temp
  let hold := packHolds v r && !e.keeper
  let r := if hold && !r.packHold then { r.hold with packHold := true } else { r with packHold := hold }
  let r := if r.chem.nickel || r.base == .done || r.base == .none then r else lithiumStep e v r rest
  if r.held then r else phaseStep e v r temp t

/-- Checks 2 to 6 of R184 after the pack state. A charge that is interrupted, or waits in an engine hold, does
not move (R197, R223); its resume reading is taken at a later latch than the one at which the cause has ended
(Table CP-10). -/
def screenCharge (e : BayEnv) (v : BayVol) (r : BayRun) (t : TelBay) (vinlow vinov : Bool) : BayVol × BayRun :=
  let ends := r.interrupted && e.charge
  let r :=
    if ends then { r with interrupted := false, resume := true }
    else if r.checked && !e.charge && !r.interrupted then { r with interrupted := true, resume := false }
    else r
  if t.oclock || t.ovp || t.therm || v.safe || vinlow || vinov then ({ v with safety := .hold }, r)
  else if r.pack ≠ .ready ∨ ends = true ∨ e.charge = false then (profileOrder e v r true, r)
  else match v.temp with
    | none => (profileOrder e v r false, r)
    | some temp =>
      if r.resume then let z := resumeStep e v r; (profileOrder e z.1 z.2 true, z.2)
      else let r := profileStep e v r t temp; (profileOrder e { v with slope := r.slopeC } r true, r)

/-- Screen for one present bay at a VALID latch (R184). A removed bay gets the safety order OFFCLR. -/
def screen (e : BayEnv) (v : BayVol) (r : BayRun) (t : TelBay) (vinlow vinov clkhold : Bool) : BayVol × BayRun :=
  let x := chargeTime e (pulseMeas e v t) r (some t.isocl)
  let v := x.1
  let r := if r.pack = .ready ∧ r.charging = true ∧ t.restv = true then x.2.restStore e v.vnow v.temp else x.2
  let x := chargeOrders e v r
  let y := packStep e x.1 x.2 t
  if y.2.2 then ({ y.1 with safety := .offclr, fault := 0, tchgw := 0 }, y.2.1) else
    let z := screenCharge e { y.1 with safety := .none } y.2.1 t vinlow vinov
    ({ z.1 with fault := faultWord e z.1 z.2 t vinlow vinov clkhold, tchgw := z.2.tchg }, z.2)

/-- A bit vector from its bits, bit 0 first. -/
def bitsOf (n : Nat) (l : List Bool) : BitVec n := (BitVec.ofBoolListLE l).setWidth n

end Sys2Proof

namespace Sys2Proof.Machine

/-- What Screen needs for a bay (R202, R223, R226). -/
def State.bayEnv (s : State) (b : Bay) : BayEnv :=
  { set := s.act.bays[b], p := s.clk.endP, now := s.clk.beatTick, el := s.c.elapsed.toNat
    resmax := s.act.mode.resmax.toNat, charge := s.inTutti && s.mode.mode == .operate && !s.c.guard }

/-- A bay's two parts change. -/
def State.setBoth (s : State) (b : Bay) (x : BayVol × BayRun) : State :=
  (s.setBay b (fun _ => x.1)).setRun b (fun _ => x.2)

/-- A bay starts from EMPTY: its charge state is discarded (R164, R225). -/
def State.emptyBay (s : State) (b : Bay) : State := s.setBoth b (s.bays[b].discard, {})

/-- The bays of a tile number. -/
def baysOf (t : TileNo) : List Bay := (List.finRange 4).map (bayOf t)

/-- Tenants that own a bay or a TIO pin of a tile (R164). -/
def State.ownersOn (s : State) (t : TileNo) : List Tenant :=
  (List.finRange 4).filter fun x =>
    (baysOf t).any (fun b => s.owner b == x) || (List.finRange 4).any (fun k => s.pinOwner t k == ctxOf x)

/-- The input bits of a present bay (Table RE-3). -/
def State.liveBits (s : State) (b : Bay) : BitVec 16 :=
  let v := s.bays[b]
  let r := s.c.bays[b]
  let ph := r.phase
  bitsOf 16 [true, r.pack != .empty && r.pack != .seating, v.door, v.dedge, r.pack == .ready,
    decide (2 ≤ ph ∧ ph ≤ 6), ph == 7, decide (8 ≤ ph ∧ ph ≤ 11), v.fault != 0, v.lkshort || v.lkopen,
    v.lampflt != 0, v.wb.granted, v.tilest == 1, v.safe, s.c.guard, v.emrel]

end Sys2Proof.Machine
end

