-- ==== Sys2Proof/Machine/TimerOps.lean ====
section
/-! DEFINITION. Timer channels: counting, cascades, sync, captures and the advance of wall timers
(chapter 11, R58, R59). -/

namespace Sys2Proof

/-- The channel counts ticks and leads its group. -/
def TimerSet.ticks (g : TimerSet) : Bool := !g.casc && g.clksel == 3

/-- A one-shot channel that is enabled drives its pin high until the MATCH; only a one-shot channel stands at PER
(R277, R286). -/
def TimerSt.taken (t : TimerSt) (old g : TimerSet) : TimerSt :=
  { t with
    out := t.out || (g.oneshot && g.en && !(old.oneshot && old.en) && !t.stopped)
    stopped := t.stopped && g.oneshot }

/-- Counts of a channel that a free clock drives in the whole of a tick, with what its prescaler holds. -/
def TimerSt.counts (t : TimerSt) (g : TimerSet) (edges : Nat) : Nat := (t.pre + edges) / 2 ^ g.presc.toNat

end Sys2Proof

namespace Sys2Proof.Machine

/-- The channel after `n`. -/
def nextChan (n : TimerId) : Option TimerId := if h : n.val + 1 < 16 then some ⟨n.val + 1, h⟩ else none

/-- Members of the group above and with channel `n` (R279). -/
def State.membersFrom (s : State) : Nat → TimerId → List TimerId
  | 0, n => [n]
  | f + 1, n =>
    match nextChan n with
    | some m => if s.act.timers[m].casc then n :: s.membersFrom f m else [n]
    | none => [n]

/-- The group that `n` leads: at most four channels. -/
def State.group (s : State) (n : TimerId) : List TimerId := s.membersFrom 3 n

/-- The channel is frozen by a debug halt (R285). -/
def State.frozen (s : State) (n : TimerId) : Bool := s.act.timers[n].frz && s.engine == .halt

/-- The context that owns a channel. -/
def State.chanOwner (s : State) (n : TimerId) : CtxId := ownerCtx s.act.timers[n].owner

/-- An event of a channel, when its enable bit is 1 (R277). -/
def State.timerEvent (s : State) (n : TimerId) (bit : Nat) (arg1 : Nat) : State :=
  if s.act.timers[n].ie.getLsbD bit then s.postTo (s.chanOwner n) (0x5001 + bit) n.val arg1 else s

def State.setCount (s : State) (n : TimerId) (w : Word) : State :=
  s.setC (fun c => { c with tcount := c.tcount.set n w })

/-- WRAP, MATCH and DONE of a channel (R277, R286). -/
def State.timerWrapped (s : State) (n : TimerId) : State :=
  ((s.setCount n 0).setTimer n (fun t => { t with wrap := true, out := true })).timerEvent n 0 0
def State.timerMatched (s : State) (n : TimerId) : State :=
  (s.setTimer n (fun t => { t with match_ := true, out := false })).timerEvent n 1 0
def State.timerDone (s : State) (n : TimerId) : State :=
  (s.setTimer n (fun t => { t with done := true, stopped := true })).timerEvent n 2 0

/-- One count edge (R277), with the overflow that a cascade counts (R279). -/
def State.countEdge : Nat → TimerId → State → State
  | 0, _, s => s
  | f + 1, n, s =>
    let g := s.act.timers[n]
    let c := s.c.tcount[n]
    if s.timers[n].stopped then s
    else if c = g.per then
      if g.oneshot then s.timerDone n
      else
        let s := s.timerWrapped n
        let s := if g.cmp = 0 then s.timerMatched n else s
        match nextChan n with
        | some m => if s.act.timers[m].casc && !s.frozen m then State.countEdge f m s else s
        | none => s
    else
      let s := s.setCount n (c + 1)
      if c + 1 = g.cmp then s.timerMatched n else s

/-- Plain counts ahead of the next count edge that means something: at PER, to CMP, or past 0xFFFF (R277). -/
def plainEdges (g : TimerSet) (c : Nat) : Nat :=
  let lim := if c ≤ g.per.toNat then g.per.toNat - c else 65535 - c
  if c < g.cmp.toNat then min lim (g.cmp.toNat - 1 - c) else lim

/-- `k` count edges of a channel (R277). The fuel bounds the edges that mean something. -/
def State.countEdges : Nat → TimerId → Nat → State → State
  | 0, _, _, s => s
  | f + 1, n, k, s =>
    if k = 0 ∨ s.timers[n].stopped = true then s
    else
      let p := min k (plainEdges s.act.timers[n] s.c.tcount[n].toNat)
      if p = 0 then State.countEdges f n (k - 1) (State.countEdge 4 n s)
      else State.countEdges f n (k - p) (s.setCount n (s.c.tcount[n] + BitVec.ofNat 16 p))

/-- Edges of a channel's clock in a tick (R44, Table TC-3); `pins`: the rising edges on each TMRIO pin. -/
def clockEdges (g : TimerSet) (n : TimerId) (pins : Vector Nat 4) : Nat :=
  if g.clksel = 0 then 96000 else if g.clksel = 1 then 48000 else if g.clksel = 2 then 32
  else if g.clksel = 4 then pins[n.val % 4]'(Nat.mod_lt _ (by decide)) else 0

/-- The counts that are still to come in the tick; those that pins clock are not known before its end. -/
def State.countsLeft (s : State) (n : TimerId) : Nat :=
  let g := s.act.timers[n]
  if g.clksel = 4 then 65536 else s.timers[n].counts g (clockEdges g n (Vector.replicate 4 0)) - s.timers[n].used

/-- Counts up to and with the edge at PER, from a COUNT (R277). -/
def countsToEnd (g : TimerSet) (c : Nat) : Nat :=
  if c ≤ g.per.toNat then g.per.toNat - c + 1 else 65536 - c + g.per.toNat + 1

/-- Counts up to the MATCH; none where the channel never meets it. -/
def countsToMatch (g : TimerSet) (c : Nat) : Option Nat :=
  let m := g.cmp.toNat
  if c < m ∧ (m ≤ g.per.toNat ∨ g.per.toNat < c) then some (m - c)
  else if g.oneshot = true ∨ g.per.toNat < m then none
  else some (countsToEnd g c + m - (if g.per.toNat < c then g.per.toNat + 1 else 0))

/-- The channel's clock gives it `k` counts within a tick. -/
def State.runOn (s : State) (n : TimerId) (k : Nat) : State :=
  if s.timers[n].stopped = false ∧ k ≤ s.countsLeft n then
    (State.countEdges 200000 n k s).setTimer n (fun t => { t with used := t.used + k })
  else s

/-- A channel's COUNT has changed within a tick: the counts still to come in it are free. A frozen channel counts none
(R285). -/
def State.loosen (s : State) (n : TimerId) : State :=
  if s.frozen n then s else s.setTimer n (fun t => { t with loose := true })

/-- A sync of the group that `n` leads: PHASE into COUNT (R280, R281). A frozen member does not sync (R285). -/
def State.syncChan (s : State) (n : TimerId) : State :=
  if s.frozen n || s.act.timers[n].casc then s
  else ((s.group n).filter (fun m => !s.frozen m)).foldl (fun s m => (s.setCount m s.act.timers[m].phase).setTimer m (fun t =>
    { t with stopped := false, out := t.out || s.act.timers[m].oneshot })) (s.setC (fun c => { c with trest := c.trest.set n 0 }))

/-- Sync of every channel that selects the event (R281). -/
def State.syncAll (s : State) (sel : BitVec 2) : State :=
  (List.finRange 16).foldl (fun s n => if s.act.timers[n].syncsel = sel then s.syncChan n else s) s

/-- A channel that a free clock drives, enabled and not frozen. -/
def State.freeRuns (s : State) (n : TimerId) : Bool :=
  let g := s.act.timers[n]
  g.en && !g.casc && g.clksel != 3 && !s.frozen n

/-- The counts that a free clock still gives a channel at the end of a tick (R277, R285): all that are left; a free
number of them where COUNT was set or a halt ended within it. A channel that does not run in the tick counts nothing. -/
def State.freeTick (s : State) (n : TimerId) (pins : Vector Nat 4) : State :=
  let g := s.act.timers[n]
  let t := s.timers[n]
  if s.freeRuns n = false then s.setTimer n (fun t => { t with used := 0, loose := false })
  else
    let e := clockEdges g n pins
    let left := t.counts g e - t.used
    let f := s.freeNat
    let k := if t.loose then f.1 % (left + 1) else left
    let s := if t.loose then f.2 else s
    let s := State.countEdges 200000 n k s
    s.setTimer n (fun t => { t with used := 0, loose := false, pre := (t.pre + e) % 2 ^ g.presc.toNat })

/-- A debugger's halt begins within a tick (R285): a channel that it freezes has made a free number of the tick's
counts, and its prescaler stands anywhere. -/
def State.freezeTimers (s : State) : State :=
  (List.finRange 16).foldl (fun s n =>
    if s.act.timers[n].frz && s.freeRuns n then
      let f := s.freeNat
      let h := f.2.freeNat
      (h.2.runOn n (f.1 % (s.countsLeft n + 1))).setTimer n (fun t => { t with pre := h.1 % 2 ^ s.act.timers[n].presc.toNat })
    else s) s

/-- A captured value enters a channel's queue (R284). -/
def State.pushCapture (s : State) (n : TimerId) (w : Word) (src : BitVec 8) : State :=
  if s.timers[n].queue.length < 4 then
    (s.setTimer n (fun t => { t with queue := t.queue ++ [(w, src)] })).timerEvent n 3 w.toNat
  else s.setTimer n (fun t => { t with capovf := true })

/-- The counts of a group after `k` of those that a free clock still gives it in this tick (R277, R280): `x` of the
state that answers are the members' counts after the carries. -/
def State.peek (s : State) (n : TimerId) (k : Nat) : State :=
  if s.freeRuns n then State.countEdges 200000 n (k % (s.countsLeft n + 1)) s else s

/-- A capture of the group that `n` leads: every member's COUNT as it stands in `x` (R280). -/
def State.captureGroup (s : State) (n : TimerId) (x : State) : State :=
  let src := s.act.timers[n].capsel
  (s.group n).foldl (fun s m => s.pushCapture m x.c.tcount[m] src) s

/-- A source of Table TC-1 occurs that names no beat, pin or door: a channel that a free clock drives is then at a free
place in its tick. -/
def State.captureFrom (s : State) (src : BitVec 8) : State :=
  (List.finRange 16).foldl (fun s n =>
    if s.act.timers[n].capsel = src ∧ s.act.timers[n].casc = false then
      let f := s.freeNat
      f.2.captureGroup n (f.2.peek n f.1)
    else s) s

/-- Clock edges from a beat's symbol to its aligned instant, 16.000 µs later (R44, R288). -/
def alignEdges (g : TimerSet) : Nat := if g.clksel = 0 then 1536 else if g.clksel = 1 then 768 else 0

/-- The group that `n` leads at the aligned instant of a beat (R282, R283): its counts are recorded, and captured where
CAPSEL names the beat. What a pin has counted since the beat is free. -/
def State.recordGroup (meas : Bool) (s : State) (n : TimerId) : State :=
  let g := s.act.timers[n]
  if g.casc then s
  else
    let f := s.freeNat
    let k := if g.clksel = 4 then f.1 % 65536 else s.timers[n].counts g (alignEdges g)
    let s := if g.clksel = 4 then f.2 else s
    let x := if s.freeRuns n then State.countEdges 200000 n k s else s
    let s := (s.group n).foldl (fun s m =>
      if s.frozen m then s
      else s.setTimer m (fun t => { t with hist := ((s.clk.ticks, x.c.tcount[m]) :: t.hist).take 128 })) s
    if g.capsel = 8 ∨ (meas = true ∧ g.capsel = 9) then s.captureGroup n x else s

/-- The syncs of a beat and what its aligned instant records (R281 to R283); `meas`: a measure beat. -/
def State.timersBeat (s : State) (meas : Bool) : State :=
  let s := s.syncAll 2
  let s := if meas then s.syncAll 1 else s
  (List.finRange 16).foldl (State.recordGroup meas) s

/-- Channels count in a tick (R277, R278), a wall channel not before the outage has ended (R468), and its beat follows; `meas`: a measure beat. -/
def State.timersTick (s : State) (meas : Bool) (pins : Vector Nat 4) : State :=
  let s := (List.finRange 16).foldl (fun s n =>
    let g := s.act.timers[n]
    if g.ticks && g.wall && s.clk.outage.isSome then s
    else if g.ticks && g.en && !s.frozen n then State.countEdge 4 n s else s.freeTick n pins) s
  s.timersBeat meas

/-- EDGE against an edge's direction (Table TC-3). -/
def edgeOk (e : BitVec 2) (rising : Bool) : Bool := e == 2 || (if rising then e == 0 else e == 1)

/-- The count that a channel recorded at a beat; a frozen channel falls back on the last one before the halt
(R283, R285). -/
def State.recorded (s : State) (n : TimerId) (beat : Nat) : Option Word :=
  let h := s.timers[n].hist
  match h.find? (fun x => x.1 == beat) with
  | some x => some x.2
  | none => if s.frozen n then h.head?.map (·.2) else none

/-- Microseconds of a tick as counts of a group's lowest channel, and of the member above `d` counts of it (R283);
none where a pin clocks the group. -/
def usCounts (g : TimerSet) (us d : Nat) : Option Nat :=
  let per (e p : Nat) : Option Nat := some (us * e / (1000 * p * d))
  if g.clksel = 0 then per 96000 (2 ^ g.presc.toNat) else if g.clksel = 1 then per 48000 (2 ^ g.presc.toNat)
  else if g.clksel = 2 then per 32 (2 ^ g.presc.toNat) else if g.clksel = 3 then per 1 1 else none

/-- Each member of a group with the counts of the lowest channel that make one of its own. -/
def State.scaled (s : State) : Nat → List TimerId → List (TimerId × Nat)
  | _, [] => []
  | d, m :: rest => (m, d) :: s.scaled (d * (s.act.timers[m].per.toNat + 1)) rest

/-- A DOOREDGE item gives captures (R282, R283, R287): the count recorded at the beat that the item names, with the
item's microseconds at the channel's count rate. What a pin counts in them is free. -/
def State.doorCapture (s : State) (b : Bay) (tick us : Nat) (rising : Bool) : State :=
  let beat := s.clk.beatTick - s.clk.endP + tick
  (List.finRange 16).foldl (fun s n =>
    let g := s.act.timers[n]
    let mine := isSys (s.chanOwner n) || s.chanOwner n == ctxOf (s.owner b)
    if g.casc || g.capsel != BitVec.ofNat 8 (0x40 + b.val) || !edgeOk g.edge rising || !mine then s
    else if g.clksel != 3 && decide (s.timers[n].hist.length < 128) then s
    else (s.scaled 1 (s.group n)).foldl (fun s x =>
      match s.recorded x.1 beat with
      | some w =>
        let f := s.freeNat
        let per := s.act.timers[x.1].per.toNat + 1
        match usCounts g us x.2 with
        | some k => s.pushCapture x.1 (BitVec.ofNat 16 ((w.toNat + k) % per)) g.capsel
        | none => f.2.pushCapture x.1 (BitVec.ofNat 16 ((w.toNat + f.1) % per)) g.capsel
      | none => s) s) s

/-- A wall channel's count after `k` ticks (R58, R59): the wide count of its group, digit by digit. The
one-shot channel stops at PER and is done; a periodic one that passes its end restarts from zero. -/
def State.wallAdvance (s : State) (unknown : Bool) : List TimerId → Nat → State
  | [], _ => s
  | n :: rest, k =>
    let g := s.act.timers[n]
    let c := s.c.tcount[n].toNat
    let per := g.per.toNat
    if k = 0 ∧ unknown = false then s
    else if g.oneshot then
      if s.timers[n].stopped then s
      else
        let s := if c < g.cmp.toNat ∧ g.cmp.toNat ≤ min per (c + k) then s.timerMatched n else s
        if unknown = true ∨ per < c + k then (s.setCount n g.per).timerDone n else s.setCount n (BitVec.ofNat 16 (c + k))
    else
      let q := (c + k) / (per + 1)
      let at' := (c + k) % (per + 1)
      let hit := decide (c < g.cmp.toNat ∧ g.cmp.toNat ≤ c + k) || (q != 0 && decide (g.cmp.toNat ≤ at'))
      if unknown ∨ (rest = [] ∧ q ≠ 0) then
        let s := s.timerWrapped n
        if rest = [] then s else State.wallAdvance s unknown rest 0
      else
        let s := if q = 0 then s else s.timerWrapped n
        let s := s.setCount n (BitVec.ofNat 16 at')
        let s := if hit then s.timerMatched n else s
        State.wallAdvance s unknown rest q

/-- The wide count of a group, and the number of counts it runs through (R278). -/
def State.wideCount (s : State) (l : List TimerId) : Nat × Nat :=
  l.foldr (fun m x => (s.c.tcount[m].toNat + (s.act.timers[m].per.toNat + 1) * x.1, (s.act.timers[m].per.toNat + 1) * x.2)) (0, 1)

/-- A wall group after `k` ticks as one wide count (R59, R278): a periodic one that passes its end expires once and
restarts from zero. With elapsed time unknown a one-shot one stands at its preset; R278 gives a periodic one no preset:
it expires once and restarts from zero too (DESIGN CHOICE, log entry 29). -/
def State.wallGroup (s : State) (unknown : Bool) (l : List TimerId) (k : Nat) : State :=
  let x := s.wideCount l
  if l.all (fun m => !s.act.timers[m].oneshot) && (unknown || decide (x.2 ≤ x.1 + k)) then l.foldl State.timerWrapped s
  else s.wallAdvance unknown l k

/-- Every wall group is advanced by an outage of `n` SLOW periods; the part below a tick stays with it (R58). -/
def State.wallTimers (s : State) (unknown : Bool) (n : Nat) : State :=
  (List.finRange 16).foldl (fun s (i : TimerId) =>
    let g := s.act.timers[i]
    let m := n + s.c.trest[i]
    if g.ticks && g.wall && g.en then
      (s.setC (fun c => { c with trest := c.trest.set i (if unknown then 0 else m % 32) })).wallGroup unknown (s.group i) (m / 32)
    else s) s

/-- The lowest channel of the group that holds `n` (R279). -/
def leaderOf (g : Vector TimerSet 16) : Nat → TimerId → TimerId
  | 0, n => n
  | f + 1, n => if g[n].casc then leaderOf g f (n - 1) else n

/-- Free-clock channels take PHASE, and queues and histories empty, at a start (R287). -/
def State.timersStart (s : State) (valid : Bool) : State :=
  (List.finRange 16).foldl (fun s n =>
    let s := s.setTimer n (fun _ => {})
    if valid && s.c.set.timers[leaderOf s.c.set.timers 3 n].clksel == 3 then s
    else s.setCount n s.c.set.timers[n].phase) s

/-- The level that channel `n` drives on its TMRIO pin (R286); none while the pin is an input. -/
def State.tmrioDrive (s : State) (n : TimerId) : Option Bool :=
  let g := s.act.timers[n]
  if decide (n.val < 4) && g.outen && g.en && s.alive && !s.c.guard then some s.timers[n].out else none

/-- TIMER_WRAP (R277): the channel's clock gives the count edge at PER, within the counts that the tick still has.
Tick channels wrap at their beats. -/
def execTimerWrap (n : TimerId) (s : State) : Res :=
  .next (if s.freeRuns n && !s.act.timers[n].oneshot then s.runOn n (countsToEnd s.act.timers[n] s.c.tcount[n].toNat) else s)

/-- TIMER_MATCH (R277). -/
def execTimerMatch (n : TimerId) (s : State) : Res :=
  .next (match countsToMatch s.act.timers[n] s.c.tcount[n].toNat with
    | some k => if s.freeRuns n then s.runOn n k else s
    | none => s)

/-- TIMER_ONESHOT_DONE (R277). -/
def execTimerOneshotDone (n : TimerId) (s : State) : Res :=
  .next (if s.freeRuns n && s.act.timers[n].oneshot then s.runOn n (countsToEnd s.act.timers[n] s.c.tcount[n].toNat) else s)

/-- TIMER_CAPTURE (R282, R284, R286): an edge on the TMRIO pin that CAPSEL names. The other sources of Table TC-1 are
captured by the commands in which they occur. The operand says how many counts a channel that a free clock drives has
made since COUNT was last known, of those that the tick still has. -/
def execTimerCapture (n : TimerId) (count : Word) (rising : Bool) (s : State) : Res :=
  let g := s.act.timers[n]
  let pin := decide (1 ≤ g.capsel.toNat ∧ g.capsel.toNat ≤ 4)
  let ownOut := g.capsel.toNat == n.val + 1 && (s.tmrioDrive n).isSome
  .next (if pin && !g.casc && !ownOut && edgeOk g.edge rising then s.captureGroup n (s.peek n count.toNat) else s)

end Sys2Proof.Machine
end

