-- ==== Sys2Proof/Machine/ShedOps.lean ====
section
/-! DEFINITION. SHED sets: their sending, their limits in a measure, and the bays that they stop (R140 to R143). -/

namespace Sys2Proof.Machine

/-- Send a SHED set on the ring (R140): it is outstanding until it returns (R142); its sending is a capture source
(Table TC-1). -/
def State.sendShed (s : State) (x : ShedSet) : State :=
  (s.setRing (fun r => { r with sheds := r.sheds ++ [{ set := x }] })).captureFrom 0x0A

/-- The mask that a shed of tile `t` takes under R143: between the measure beat and the return of the TEL
frame the first set carries the exact mask and a later one names all four bays. -/
def State.shedMask (s : State) (t : TileNo) (mask : BitVec 4) : BitVec 4 :=
  if s.pipe.closed || s.ring.shedCnt[t] == 0 then mask else 15

/-- MODE ends at a SHED set that names the bay: the ticks from `tick` on are no charge time (R209, R223). -/
def State.stopBays (s : State) (t : TileNo) (mask : BitVec 4) : State :=
  (List.finRange 4).foldl (fun s p =>
    if mask.getLsbD p.val then s.setBay (bayOf t p) (BayVol.stopNow s.clk.ticks) else s) s

/-- Send it, within the limit of R143: no third set to one tile in the interval. -/
def State.shedTile (s : State) (t : TileNo) (mask : BitVec 4) : State :=
  if mask = 0 then s
  else if s.pipe.closed then (s.stopBays t mask).sendShed (ShedSet.mk' (BitVec.ofNat 8 t.val) mask)
  else if s.ring.shedCnt[t] < 2 then
    let m := s.shedMask t mask
    ((s.stopBays t m).sendShed (ShedSet.mk' (BitVec.ofNat 8 t.val) m)).setRing
      (fun r => { r with shedCnt := upd r.shedCnt t (· + 1) })
  else s

/-- Stop every bay (R143). Where the set that names every bay would be a third one for some tile, the tiles
that have taken fewer get their own. Outside the interval of R143 it counts for nothing. -/
def State.sendShedAll (s : State) : State :=
  if s.pipe.closed || s.ring.shedCnt.all (fun n => decide (n < 2)) then
    (State.sendShed { s with bays := s.bays.map (BayVol.stopNow s.clk.ticks) } shedAll).setRing (fun r =>
      if s.pipe.closed then r else { r with shedCnt := r.shedCnt.map (· + 1) })
  else (List.finRange 24).foldl (fun s t => s.shedTile t 15) s

end Sys2Proof.Machine
end

