-- ==== Sys2Proof/Machine/WbOps.lean ====
section
/-! DEFINITION. The Weighbridge: the budget in force, requests, the stage, the ends of grants and the
shed path (chapter 09). All amounts are in setts. -/

namespace Sys2Proof

/-- A request's size (R234). -/
def reqSetts (vest ireq eff : Nat) : Nat := ceilDiv (vest * ireq) (2500 * eff)

/-- A tenant's FLOOR in percent; none is off (Table WB-2). -/
def floorPct (c : BitVec 2) : Option Nat :=
  if c = 0 then some 25 else if c = 1 then some 50 else if c = 2 then some 75 else none

/-- The floor current (R235). -/
def floorMa (ireq pct : Nat) : Nat := max 50 (ireq * pct / 100 / 10 * 10)

/-- QUANT in setts per weight unit (Table WB-2). -/
def quantOf (c : BitVec 2) : Nat := 32 * 2 ^ c.toNat

/-- A pool divided by weights (R231). -/
def sharesOf (pool : Nat) (w : Vector (BitVec 4) 4) : Vector Nat 4 :=
  let tot := w.foldl (fun n x => n + x.toNat) 0
  let base : Vector Nat 4 := w.map (fun x => if tot = 0 then 0 else pool * x.toNat / tot)
  let rest := pool - base.foldl (· + ·) 0
  Vector.ofFn fun i => base[i] + (if i.val < rest then 1 else 0)

/-- The grant is gone and its setts are back. -/
def WbBay.release (w : WbBay) : WbBay := { w with granted := false, grant := 0, igr := 0, gend := .running, lent := false }

/-- A grant ends by an event other than a rest or a shed (R239, R240). -/
def WbBay.endGrant (w : WbBay) : WbBay := if w.granted then { w with gend := .ended } else w

/-- The request is withdrawn (R236). -/
def WbBay.withdraw (w : WbBay) : WbBay :=
  { w with opened := false, setAside := false, age := 0, entitled := false, shrunk := false }

/-- The setts of a grant have returned at a stage whose measure beat is at tick `beat` (R240). -/
def WbBay.returned (w : WbBay) (beat : Nat) : Bool :=
  w.granted && match w.gend with
    | .running | .passed => false
    | .atRest k => decide (k ≤ beat)
    | .ended => true

/-- A request is made at the size at which it is offered. -/
def WbBay.make (w : WbBay) (stage tick : Nat) (lent : Bool) : WbBay :=
  { w with opened := false, entitled := false, granted := true, grant := w.req, igr := w.ireq, ovrd := false
           gstage := stage, gtick := tick, lent := lent, gend := .running }

/-- Requests in rank order: older first, then lower bay (R233). -/
def rankLe (bs : Vector BayVol 96) (a b : Bay) : Bool :=
  decide (bs[b].wb.age < bs[a].wb.age) || (bs[a].wb.age == bs[b].wb.age && decide (a ≤ b))

end Sys2Proof

namespace Sys2Proof.Machine

/-- FEEDBUD (R411): 0 in HOLDOVER, whatever the feeders show (R435). -/
def State.feedbud (s : State) : Nat :=
  if s.mode.mode ≠ .operate then 0
  else (List.finRange 2).foldl (fun n i => n + if s.feeders[i].state = .on then s.act.power.feed[i].fcap.toNat else 0) 0

/-- LINKBUD (Table SW-8). -/
def State.linkbud (s : State) : Nat :=
  if s.act.link.sharen then
    match s.c.link with
    | .none => s.act.wb.cabbud.toNat
    | .entered | .lost => s.act.link.shfall.toNat
    | .agreed => if s.link.haveSplit then s.link.mine else s.act.link.shfall.toNat
  else s.act.wb.cabbud.toNat

/-- BIF (R229). -/
def State.bif (s : State) : Nat :=
  min s.act.wb.cabbud.toNat (min s.feedbud s.linkbud)

/-- The pool that the budget gives now (R230). -/
def State.poolNow (s : State) : Nat := s.bif - s.act.wb.reserve.toNat

def State.setWbBay (s : State) (b : Bay) (f : WbBay → WbBay) : State :=
  s.setBay b (fun v => { v with wb := f v.wb })

/-- Bays whose tenant is `t`. -/
def State.baysBy (s : State) (t : Tenant) : List Bay := (List.finRange 96).filter (fun b => s.owner b == t)

/-- Setts that tenant `t` holds. -/
def State.heldBy (s : State) (t : Tenant) : Nat :=
  (s.baysBy t).foldl (fun n b => n + if s.bays[b].wb.granted then s.bays[b].wb.grant else 0) 0

def State.heldAll (s : State) : Nat :=
  s.bays.foldl (fun n v => n + if v.wb.granted then v.wb.grant else 0) 0

/-- Eligible, staleness apart (R232). -/
def State.eligible (s : State) (b : Bay) : Bool :=
  let v := s.bays[b]
  let t := s.hub[tileOf b]
  t.present && v.tilest == 0 && !t.epBad && !t.safe && !v.safe && v.safety == .none && v.pMode == 1 &&
  !(v.mode == 0 && decide (2 ≤ v.winsrc.toNat ∧ v.winsrc.toNat ≤ 6)) && !v.wb.granted && !s.c.guard

/-- The claimed request has ended (R245). -/
def State.dropClaim (s : State) (b : Bay) : State :=
  if s.wb.claimReq = some b then s.setWb (fun w => { w with claimReq := none }) else s

/-- The size at which a bay's request is offered (R234, R235). -/
def State.sizeReq (s : State) (b : Bay) (w : WbBay) : WbBay :=
  let v := s.bays[b]
  let g := s.act.bays[b]
  let recent := v.vpk != 0 && match v.lastEnd with
    | some x => decide (s.c.elapsed.toNat - x ≤ 64 * g.pperT)
    | none => true
  let vest := if recent then min v.vsetw (v.vpk * 17 / 16 + 100) else v.pVset
  match (if s.act.wb.shrinkw.toNat ≤ w.age then floorPct s.act.wb.floor[s.owner b] else none) with
  | some pct =>
    let f := floorMa v.pIset pct
    { w with shrunk := true, ireq := f, req := reqSetts vest f g.eff.toNat }
  | none => { w with shrunk := false, ireq := v.pIset, req := reqSetts vest v.pIset g.eff.toNat }

/-- Opening, ageing, setting aside and withdrawal of one bay's request (R233 to R236). -/
def State.ageBay (s : State) (b : Bay) : State :=
  let v := s.bays[b]
  let w := v.wb
  let ok := s.eligible b && !w.waits
  let w := { w with entitled := false, waits := false }
  if ok then
    let w := if !w.opened then { w with opened := true, setAside := false, age := 0 }
      else if w.setAside then { w with setAside := false } else { w with age := w.age + 1 }
    s.setWbBay b (fun _ => s.sizeReq b w)
  else if w.opened then
    if v.tilest = 1 ∧ s.hub[tileOf b].present = true then
      (s.setWbBay b (fun _ => { w with setAside := true })).dropClaim b
    else (s.setWbBay b (fun _ => w.withdraw)).dropClaim b
  else s.setWbBay b (fun _ => w)

/-- Open requests of a list of bays, in rank order; those set aside are not in the queue. -/
def State.queueOf (s : State) (bs : List Bay) : List Bay :=
  sortBy (rankLe s.bays) (bs.filter (fun b => s.bays[b].wb.opened && !s.bays[b].wb.setAside))

/-- The entitled set of a tenant: the longest part of its queue that stays within its share (R243). -/
def entitledPart (bs : Vector BayVol 96) (share : Nat) : Nat → List Bay → List Bay
  | _, [] => []
  | held, b :: rest =>
    if held + bs[b].wb.req ≤ share then b :: entitledPart bs share (held + bs[b].wb.req) rest else []

/-- Phase 1: entitled requests, oldest first, up to the first that does not fit (R244). -/
def phase1 (bs : Vector BayVol 96) (pool : Nat) : Nat → List Bay → List Bay
  | _, [] => []
  | held, b :: rest =>
    if held + bs[b].wb.req ≤ pool then b :: phase1 bs pool (held + bs[b].wb.req) rest else []

/-- What phase 2 carries: setts held, deficits, the queues not yet granted, the grants it made, the claim. -/
structure Lend where
  held  : Nat
  dfc   : Vector Int 4
  queue : Vector (List Bay) 4
  made  : List Bay := []
  claim : Option (Tenant × Bay) := none
  stop  : Bool := false

/-- The tenant whose turn it is is served while its deficit lasts (R245). -/
def Lend.serve (bs : Vector BayVol 96) (pool e : Nat) (t : Tenant) : Nat → Lend → Lend
  | 0, l => l
  | n + 1, l =>
    match l.queue[t] with
    | [] => l
    | b :: rest =>
      let w := bs[b].wb
      if w.entitled ∨ l.dfc[t] < w.req then l
      else if pool < l.held + w.req + e then { l with claim := some (t, b), stop := true }
      else Lend.serve bs pool e t n
        { l with held := l.held + w.req, dfc := l.dfc.set t (l.dfc[t] - w.req)
                 queue := l.queue.set t rest, made := b :: l.made }

/-- A tenant has a head that is not entitled. -/
def Lend.has (bs : Vector BayVol 96) (l : Lend) (t : Tenant) : Bool :=
  match l.queue[t] with | [] => false | b :: _ => !bs[b].wb.entitled

/-- One round of the rotation. -/
def Lend.round (bs : Vector BayVol 96) (pool e quant : Nat) (wgt : Vector (BitVec 4) 4) (first : Tenant) (l : Lend) : Lend :=
  (List.range 4).foldl (fun l i =>
    let t : Tenant := first + Fin.ofNat 4 i
    if l.stop || !l.has bs t then l
    else Lend.serve bs pool e t 97 { l with dfc := l.dfc.set t (l.dfc[t] + quant * wgt[t].toNat) }) l

/-- Rounds go on while a head that is not entitled is left. A head of at most 576 setts is earned in 18
rounds, so the fuel never ends them. -/
def Lend.run (bs : Vector BayVol 96) (pool e quant : Nat) (wgt : Vector (BitVec 4) 4) (first : Tenant) : Nat → Lend → Lend
  | 0, l => l
  | n + 1, l =>
    if l.stop || !(List.finRange 4).any (l.has bs) then l
    else Lend.run bs pool e quant wgt first n (l.round bs pool e quant wgt first)

/-- The claim at the start of phase 2 (R245): it ends, is granted, or stops the phase. -/
def Lend.claimStep (bs : Vector BayVol 96) (pool e : Nat) (claim : Option Tenant) (req : Option Bay) (l : Lend) : Lend :=
  match claim, req with
  | some t, some b =>
    match l.queue[t] with
    | [] => l
    | h :: rest =>
      let w := bs[b].wb
      if h ≠ b ∨ w.entitled = true then l
      else if l.held + w.req + e ≤ pool then
        { l with held := l.held + w.req, dfc := l.dfc.set t (l.dfc[t] - w.req)
                 queue := l.queue.set t rest, made := b :: l.made }
      else { l with claim := some (t, b), stop := true }
  | _, _ => l

/-- Grants that the stage makes. -/
def State.makeGrants (s : State) (bs : List Bay) (lent : Bool) : State :=
  bs.foldl (fun s b => s.setWbBay b (fun w => w.make s.c.mcount.toNat s.clk.beatTick lent)) s

/-- The Weighbridge settings that are written come into force at the stage (R254). -/
def State.takeWb (s : State) : State :=
  let w := s.c.set.wb
  let a := s.act
  { s with act := { a with
      wb := { w with canonper := a.wb.canonper, phmap := a.wb.phmap }
      bays := Vector.ofFn fun b => { a.bays[b] with eff := s.c.set.bays[b].eff } } }

/-- The Weighbridge stage (R242). -/
def State.wbStage (s : State) : State :=
  let s := s.takeWb
  let s := { s with bays := s.bays.map fun v => if v.wb.returned s.clk.beatTick then { v with wb := v.wb.release } else v }
  let pool := s.poolNow
  let share := sharesOf pool s.act.wb.wgt
  let s := (List.finRange 96).foldl State.ageBay s
  let open_ (t : Tenant) := (s.baysBy t).any (fun b => s.bays[b].wb.opened)
  let dfc : Vector Int 4 := Vector.ofFn fun t => if open_ t then s.wb.def_[t] else 0
  let ent := (List.finRange 4).flatMap fun t => entitledPart s.bays share[t] (s.heldBy t) (s.queueOf (s.baysBy t))
  let s := ent.foldl (fun s b => s.setWbBay b (fun w => { w with entitled := true })) s
  let got := phase1 s.bays pool s.heldAll (s.queueOf ent)
  let e0 := ent.foldl (fun n b => n + if got.contains b then 0 else s.bays[b].wb.req) 0
  let l : Lend :=
    { held := s.heldAll + got.foldl (fun n b => n + s.bays[b].wb.req) 0, dfc := dfc
      queue := Vector.ofFn fun t => (s.queueOf (s.baysBy t)).filter (fun b => !got.contains b) }
  let l := Lend.claimStep s.bays pool e0 s.wb.claim s.wb.claimReq l
  let l := Lend.run s.bays pool e0 (quantOf s.act.wb.quant) s.act.wb.wgt s.wb.ptr 4096 l
  let s := (s.makeGrants got false).makeGrants l.made true
  s.setWb (fun w => { w with bifW := s.bif, feedW := s.feedbud, linkW := s.linkbud
                             pool := pool, share := share, e := e0, def_ := l.dfc, ptr := w.ptr + 1
                             claim := l.claim.map (·.1), claimReq := l.claim.map (·.2) })

/-- A bay's MODE is OFF in the frame that is being built or waits to leave, and in its ORDER word (R135, R189,
R190). -/
def State.offRecord (s : State) (b : Bay) : State :=
  let s := s.setBay b (fun v => { v with mode := 0, lastRec := { v.lastRec with mode := 0 } })
  let s := s.setPipe (fun p => { p with recs := upd p.recs b (fun r => { r with mode := 0 }) })
  s.setRing (fun r => { r with built := r.built.map (fun f =>
    { f with blocks := upd f.blocks (tileOf b) (fun k =>
      { k with recs := upd k.recs (posOf b) (fun x => { x with mode := 0 }) }) }) })

/-- The grants of this measure's stage are void when the Loader has not started (R187): their requests
stay open with their ages, and a deficit that phase 2 took is given back. -/
def State.voidStage (s : State) : State :=
  if s.pipe.wbDone && !s.pipe.ldDone then
    (List.finRange 96).foldl (fun s b =>
      let w := s.bays[b].wb
      if w.granted && w.gstage == s.c.mcount.toNat then
        let s := if w.lent then s.setWb (fun q => { q with def_ := upd q.def_ (s.owner b) (· + w.grant) }) else s
        s.setWbBay b (fun w => { w.release with opened := true })
      else s) s
  else s

/-- Newest grant first, ties to the higher bay (R249). -/
def newerLe (bs : Vector BayVol 96) (a b : Bay) : Bool :=
  decide (bs[b].wb.gtick < bs[a].wb.gtick) || (bs[a].wb.gtick == bs[b].wb.gtick && decide (b ≤ a))

/-- Step 1 of R249: setts held in all, per tenant, and the grants taken. -/
def shedStep1 (s : State) : List Bay → Nat → Vector Nat 4 → List Bay → List Bay × Nat
  | [], tot, _, got => (got, tot)
  | b :: rest, tot, held, got =>
    let t := s.owner b
    let g := s.bays[b].wb.grant
    if tot ≤ s.wb.pool then (got, tot)
    else if s.wb.share[t] < held[t] then shedStep1 s rest (tot - g) (held.set t (held[t] - g)) (b :: got)
    else shedStep1 s rest tot held got

/-- Step 2 of R249. -/
def shedStep2 (s : State) : List Bay → Nat → List Bay → List Bay
  | [], _, got => got
  | b :: rest, tot, got =>
    if tot ≤ s.wb.pool then got else shedStep2 s rest (tot - s.bays[b].wb.grant) (b :: got)

/-- Bays stopped by the sets that the chosen bays of a tile need (R250, R251): all that a wider mask names. -/
def State.shedBays (s : State) (chosen : List Bay) : List Bay :=
  (List.finRange 24).flatMap fun t =>
    let mask : BitVec 4 := (List.finRange 4).foldl
      (fun m p => if chosen.contains (bayOf t p) then m ||| (1#4 <<< p.val) else m) 0
    if mask = 0 then [] else
      (List.finRange 4).filterMap (fun p => if (s.shedMask t mask).getLsbD p.val then some (bayOf t p) else none)

/-- Send the sets for a list of bays, one a tile (Table RG-8, R143). -/
def State.shedList (s : State) (chosen : List Bay) : State :=
  (List.finRange 24).foldl (fun s t =>
    s.shedTile t ((List.finRange 4).foldl
      (fun m p => if chosen.contains (bayOf t p) then m ||| (1#4 <<< p.val) else m) 0)) s

/-- A grant is taken back: the bay asks again at the next stage with age 0 (R252). -/
def State.revoke (s : State) (b : Bay) : State := (s.setWbBay b (fun w => w.release.withdraw)).offRecord b

/-- SHEDREV to each tenant that lost a grant (R252). -/
def State.postShedrev (s : State) (lost : List Bay) : State :=
  (List.finRange 4).foldl (fun s' t =>
    let n := (lost.filter (fun b => s.owner b == t)).length
    if n = 0 then s'
    else (s'.setWb (fun w => { w with shedrev := upd w.shedrev t (satAdd 65535 · n) })).postTo (ctxOf t) 0x3002 n 0) s

/-- What an uncorrectable grant record leads to when the stage or the shed path reads it (R255): the bay asks again
at the next stage, so not in a stage that reads it. Where the set that stops it names other bays too (R143), their
grants are taken back with it (R251). -/
def State.badGrant (stage : Bool) (s : State) (b : Bay) : State :=
  let also := (s.shedBays [b]).filter (fun c => c != b)
  let s := (s.shedTile (tileOf b) (1#4 <<< (posOf b).val)).dropClaim b
  let s := also.foldl (fun s c => if s.bays[c].wb.granted then s.revoke c else s.offRecord c) s
  let s := s.offRecord b
  (s.setWbBay b (fun w => { (w.release).withdraw with waits := stage, bad := false })).postAlso [s.owner b] 0x1002 b.val 1

/-- Every grant record is read: those that are uncorrectable are revoked (R255). -/
def State.readGrants (s : State) (stage : Bool) : State :=
  ((List.finRange 96).filter (fun b => s.bays[b].wb.bad)).foldl (State.badGrant stage) s

/-- The shed path: a change that may lower the pool (R248 to R252). A rise waits for the next stage. A grant that
R255 takes back here counts in no SHEDREV. -/
def State.repool (s : State) : State :=
  let old := s.wb.pool
  let new := s.poolNow
  if old ≤ new then s
  else
    let fall := decide (new < s.heldAll)
    let s := s.setWb (fun w => { w with pool := new })
    if !fall then s
    else
      let s := s.voidStage
      let s := { s with bays := s.bays.map fun (v : BayVol) => if v.wb.returned s.clk.ticks then { v with wb := v.wb.release } else v }
      let s := s.readGrants false
      let gs := sortBy (newerLe s.bays) ((List.finRange 96).filter (fun b => s.bays[b].wb.granted))
      let x := shedStep1 s gs s.heldAll (Vector.ofFn fun t => s.heldBy t) []
      let chosen := shedStep2 s (gs.filter (fun b => !x.1.contains b)) x.2 x.1
      let sent := chosen.filter (fun b => s.bays[b].wb.gstage != s.c.mcount.toNat)
      let stopped := s.shedBays sent
      let lost := (List.finRange 96).filter fun b => chosen.contains b || (stopped.contains b && s.bays[b].wb.granted)
      let s := s.shedList sent
      let s := stopped.foldl State.offRecord (lost.foldl State.revoke s)
      (s.post 0x3001 old new).postShedrev lost

/-- Every grant is released and every record is OFF, as a hold leaves them (R194 to R197, R240). -/
def State.endGrants (s : State) : State :=
  { s with bays := s.bays.map fun v => { v with wb := v.wb.endGrant } }

end Sys2Proof.Machine
end

