-- ==== Sys2Proof/Machine/RingOps.lean ====
section
/-! DEFINITION. The ring's service space, the hub's service work, placement, qualification, drops, and
the hop delays (chapters 05, 06, 11, 24). -/

namespace Sys2Proof

/-- The tile's fields of bay words 0x46 and 0x48 as the service space carries them (Table WR-3). -/
def BayTileCfg.word46 (g : BayTileCfg) : Word :=
  BitVec.ofNat 16 (4096 * g.smben.toNat + 8192 * g.smbspd.toNat + 16384 * g.pecen.toNat + 32768 * g.loopen.toNat)
def BayTileCfg.word48 (g : BayTileCfg) : Word :=
  BitVec.ofNat 16 (g.pollper.toNat + 8 * g.ramp.toNat + 32 * g.plt.toNat + 512 * g.lkhold.toNat)

def BayTileCfg.put46 (g : BayTileCfg) (w : Word) : BayTileCfg :=
  { g with smben := w.getLsbD 12, smbspd := w.getLsbD 13, pecen := w.getLsbD 14, loopen := w.getLsbD 15 }
def BayTileCfg.put48 (g : BayTileCfg) (w : Word) : BayTileCfg :=
  { g with pollper := w.extractLsb' 0 3, ramp := w.extractLsb' 3 2, plt := w.extractLsb' 5 4, lkhold := w.extractLsb' 9 2 }

/-- Encodings of word 0x48 that are not reserved (Tables PK-6, BT-5). -/
def ok48 (w : Word) : Bool :=
  decide ((w.extractLsb' 0 3).toNat ≤ 4) && w.extractLsb' 5 4 != 0 && w.extractLsb' 11 5 == 0
/-- TIOMODE 0b11 is reserved at every pin (Table BT-5). -/
def okTio (w : Word) : Bool :=
  w.extractLsb' 12 4 == 0 && (List.range 4).all (fun k => w.extractLsb' (3 * k) 2 != 3)

/-- A bay of the service space: `addr` lies in the run that starts at `base` with step `step`. -/
def svcPos (base step addr : Nat) : Option Pos :=
  if base ≤ addr ∧ (addr - base) % step = 0 ∧ (addr - base) / step < 4 then
    some ⟨(addr - base) / step % 4, Nat.mod_lt _ (by decide)⟩ else none

/-- A staged field changes; the staged set is complete only until then (R171). -/
def Tile.stage (t : Tile) (f : TileCfg → TileCfg) : Tile := { t with staged := f t.staged, pendEpoch := none }

/-- The staged settings of one position change. -/
def TileCfg.setPos (g : TileCfg) (p : Pos) (f : BayTileCfg → BayTileCfg) : TileCfg := { g with bays := upd g.bays p f }

/-- A service write at a tile (Table WR-6): the tile after it, or none where it is rejected. -/
def Tile.svcWrite (t : Tile) (addr : Nat) (d : List Byte) : Option Tile :=
  if addr = 0x0000 then
    match d with
    | [v] => if v = 0xFF then some t.unnumber
             else if h : v.toNat < 24 then
               let same := t.number == some ⟨v.toNat, h⟩
               some { t with number := some ⟨v.toNat, h⟩, numBeat := t.numBeat && same, held := t.held && same }
             else none
    | _ => none
  else if addr = 0x0002 then
    match d with | [a, b] => some { t with pendEpoch := some (bytesWord a b) } | _ => none
  else if addr = 0x0020 then
    match d with
    | [a, b] =>
      let t := { t with dlyGoal := (bytesWord a b).toNat }
      some (if t.safe then { t with dly := t.dlyGoal } else t)
    | _ => none
  else if addr = 0x0140 then
    match d with
    | [a, b, c] =>
      if okTio (bytesWord a b) && c.extractLsb' 1 7 == 0 then
        some (t.stage (fun g => { g with tiocfg := (bytesWord a b).setWidth 12, adcboost := c.getLsbD 0 }))
      else none
    | _ => none
  else match svcPos 0x0100 4 addr with
    | some p =>
      match d with
      | [a, b, c, e] =>
        if (bytesWord a b).extractLsb' 0 12 == 0 && ok48 (bytesWord c e) then
          some (t.stage (fun g => g.setPos p (fun k => (k.put46 (bytesWord a b)).put48 (bytesWord c e))))
        else none
      | _ => none
    | none =>
      match svcPos 0x0180 1 addr with
      | some p =>
        match d with
        | [v] => if 18 ≤ v.toNat ∧ v.toNat ≤ 60 then
                   some (t.stage (fun g => g.setPos p (fun k => { k with restlen := v.setWidth 6 })))
                 else none
        | _ => none
      | none =>
        match svcPos 0x0200 0x40 addr with
        | some p =>
          match d with
          | a :: b :: c :: e :: buf =>
            let w := bytesWord a b
            let q : PtReq := { proto := w.extractLsb' 0 3, blen := w.extractLsb' 3 5, cmd := w.extractLsb' 8 8,
                               data := bytesWord c e, buf := buf }
            if 5 < q.proto.toNat ∨ 32 < buf.length then none
            else some (t.setChan p (fun x =>
              { x with smb := ({ x.smb with mailbox := some q }).pump t.active.bays[p].loopen }))
          | _ => none
        | none => none

/-- The identity block (Table RM-1). -/
def Tile.identity (t : Tile) : List Byte :=
  natBytes 8 t.uid.toNat ++ [t.rev, t.proto, if t.lksafe then 1 else 0, if t.held then 1 else 0, 0, 0, 0, 0]

/-- Identification data of a position (Table WR-6). -/
def BayMaster.identBytes (m : BayMaster) : List Byte :=
  if m.idDone then
    padTo 0 8 m.ident.chem ++ wordBytes m.ident.desV ++ wordBytes m.ident.desC ++ wordBytes m.ident.serial ++
    padTo 0 16 m.ident.name ++ wordBytes (m.ident.idvalid.setWidth 16) ++ [0, 0, 0, 0]
  else List.replicate 36 0

/-- A service read at a tile (Table WR-6). -/
def Tile.svcRead (t : Tile) (addr len : Nat) : Option (List Byte) :=
  if addr = 0x0004 ∧ len = 2 then some (wordBytes t.epoch)
  else if addr = 0x0010 ∧ len = 16 then some t.identity
  else match svcPos 0x0224 0x40 addr with
    | some p => if len = 2 then some (natBytes 2 t.chans[p].smb.ptBuf.length) else none
    | none =>
      match svcPos 0x0204 0x40 addr with
      | some p =>
        let m := t.chans[p].smb
        if 1 ≤ len ∧ len ≤ 34 then some ((padTo 0 32 m.ptBuf ++ natBytes 2 m.ptBuf.length).take len) else none
      | none =>
        match svcPos 0x0400 0x40 addr with
        | some p => if len = 36 then some t.chans[p].smb.identBytes else none
        | none => none

/-- The tile writes into service frames and slots that pass: its bypass is open and it follows the line. -/
def Tile.onRing (t : Tile) : Bool := !t.inReset && !t.bypass && t.clk != .unlocked

/-- The identification data as the hub takes it. -/
def identOf (d : List Byte) : Ident :=
  let w (i : Nat) : Word := BitVec.ofNat 16 (bytesNat ((d.drop i).take 2))
  { chem := (d.take 8).takeWhile (· != 0), desV := w 8, desC := w 10, serial := w 12
    name := ((d.drop 14).take 16).takeWhile (· != 0), idvalid := (w 30).setWidth 6 }

/-- A number's record as an enumeration begins: partly done steps are abandoned (Table RM-6). -/
def TileHub.forEnum (h : TileHub) : TileHub :=
  { h with qual := .unnumber, stepped := false, dropped := false, short := false }

/-- The tile is qualified (R160, R161, R168): its rejoin timer ends. -/
def TileHub.back (h : TileHub) : TileHub := { h with settled := true, stale := 0, rejoin := false, dropped := false, fresh := false }

/-- A tile receives a valid CMD frame (R92, R130): it accepts the first copy after a beat. -/
def Tile.receiveCmd (t : Tile) (f : CmdFrame) : Tile :=
  if t.cmdok then { t with cmdHeard := true }
  else { t with cmdHeard := true, accepted := some f, ackseq := f.seq, cmdok := true }

/-- A tile that follows the line begins to receive a copy of the CMD frame (R135). -/
def Tile.hearCopy (t : Tile) (seq : BitVec 8) : Tile :=
  if !t.inReset && t.clk != .unlocked then { t with rxCmd := some seq } else t

/-- REJOIN in ticks (Table RM-5). -/
def RingSet.rejoinT (g : RingSet) : Nat := 100 * g.rejoin.toNat

end Sys2Proof

namespace Sys2Proof.Machine

/-- The caesura, in which service and echo frames go (R148): it begins when the journal commit has ended
(R24). -/
def State.caesura (s : State) : Bool := s.running && s.pipe.haulDone && s.nv.snap.isNone

/-- The highest mapped number, when any number is mapped (R152). -/
def State.topMapped (s : State) : Option TileNo := ((List.finRange 24).filter (fun t => s.c.map[t].isSome)).getLast?
/-- NTILES (R152). -/
def State.ntiles (s : State) : Nat := match s.topMapped with | some t => t.val + 1 | none => 1
/-- The number one above the highest mapped one, or 0. -/
def State.nextNumber (s : State) : Nat := match s.topMapped with | some t => t.val + 1 | none => 0

/-- A number is in placement or qualification (R158). -/
def TileHub.inQual (t : TileHub) : Bool := t.qual != .absent && !t.present

/-- Start the service work on a number. -/
def State.setQual (s : State) (t : TileNo) (q : Qual) : State :=
  s.setHub t (fun h => { h with qual := q, stepped := true, fails := 0, good := 0, pushNext := 0, exitAck := false })

/-- The bays of a tile become absent to the host (R183). -/
def State.baysAbsent (s : State) (t : TileNo) : State :=
  (baysOf t).foldl (fun s b => s.setBay b (fun v =>
    { v with tilest := 2, safety := .none, pMode := 0, wb := v.wb.endGrant, applied := 0, prevApp := 0, restStart := none
             presRun := 0, missRun := 0 })) s

/-- A pulse that a drop ends (R223): it has ended at the start of its scheduled rest, or now with the SHED set. An end
that is on record stands where the pulse had begun before the last measure beat. -/
def State.endPulse (s : State) (b : Bay) : State :=
  let v := s.bays[b]
  if v.applied = 1 then
    let now := s.clk.elapsed.toNat
    let at' := match v.restStart with
      | some rs => if rs ≤ s.clk.ticks ∧ v.appliedAt ≤ rs ∧ s.clk.ticks < v.restEnd then now - (s.clk.ticks - rs) * 32 else now
      | none => now
    let start := match v.restStart with
      | some rs => if v.appliedAt ≤ rs ∧ v.restEnd ≤ s.clk.ticks then v.restEnd else v.appliedAt
      | none => v.appliedAt
    let was (o : Option Nat) : Nat := match o with | some x => if start < s.clk.beatTick then x else at' | none => at'
    (s.setRun b (fun r => { r with pulseEnd := some (was r.pulseEnd) })).setBay b
      (fun v => { v with lastEnd := some (was v.lastEnd) })
  else s

/-- The service frame to a tile is given up: the step that it serves has been abandoned. -/
def State.dropSvc (s : State) (t : TileNo) : State :=
  match s.ring.svc with
  | some x => if x.frame.tile = t then s.setRing (fun r => { r with svc := none, svcLive := false }) else s
  | none => s

/-- A qualification is abandoned with no event (R160, R169). -/
def State.abandon (s : State) (t : TileNo) : State :=
  (s.dropSvc t).setHub t (fun h => { h with qual := .absent, slotBad := 0 })

/-- The input bits of a tile's bays as SUBST 0b10 shows them from now on: the last valid ones (R166). -/
def State.keepBits (s : State) (t : TileNo) : State :=
  (baysOf t).foldl (fun s b => let w := s.liveBits b; s.setBay b (fun v => { v with lastBits := w })) s

/-- A qualified tile is dropped (R164): SHED, grants, TILEDROP, rejoin timer; a frame that Haul has built
carries MODE OFF for its bays (R135); its charges are interrupted (R223). A drop after Face has taken the tile's
slot keeps the input bits of that slot (R166). -/
def State.dropTile (s : State) (t : TileNo) (cause : Nat) : State :=
  let s := if s.hub[t].cls = .valid ∧ cause ≠ 2 then s.keepBits t else s
  let s := (baysOf t).foldl State.endPulse s
  let s := (baysOf t).foldl State.offRecord (s.shedTile t 15)
  let s := s.baysAbsent t
  let s := (baysOf t).foldl (fun s b => s.setRun b (fun r => r.interrupt' 0 false)) s
  let s := s.setHub t (fun h => { h with
    qual := .absent, stale := 0, dropped := true, dropMeas := true, rejoin := true, dropTick := s.clk.ticks, safeDrop := cause == 2
    epBad := false, epFails := 0, pushDue := false, exitSent := 0, good := 0, fails := 0 })
  s.postAlso (s.ownersOn t) 0x4002 t.val cause

/-- A step of qualification has failed (R160): the third time the tile is unnumbered. -/
def State.failStep (s : State) (t : TileNo) (step : Nat) : State :=
  let n := s.hub[t].fails + 1
  if n < 3 then s.setHub t (fun h => { h with fails := n, stepped := true, pushNext := 0, good := 0 })
  else
    let s := if s.hub[t].present then s.baysAbsent t else s
    ((s.setQual t .unnumber).setHub t (fun h => { h with settled := true })).post 0x4003 t.val step

/-- The hub's record of EDGESEQ matches a tile that has been reset (R162). -/
def State.seqZero (s : State) (b : Bay) : State :=
  (s.setC (fun c => { c with edgeSeq := c.edgeSeq.set b 0 })).setBay b (fun v =>
    { v with edgeAck := true, edgeUnl := none, edgeClr := false, lastRec := { v.lastRec with edgeseq := 0 } })

/-- Step 1 on the identity data that the record holds (Table RM-3, R161, Table RM-4). The rows of Table RM-4 do not
apply to the start after a wake (R445). A tile whose slot has shown ADCFAIL is not qualified before a reset (R169). -/
def State.step1 (s : State) (t : TileNo) : State :=
  let h := s.hub[t]
  if h.adcfail && !h.resetBack then s.abandon t
  else if h.proto = 0x02 ∧ h.lkOk = true then
    let s := if h.resetBack && !(h.fresh && s.start.cause == 7) then (baysOf t).foldl State.emptyBay s else s
    let s := if s.inTutti then s else s.setRing (fun r => { r with echoDue := true })
    if h.short then (s.setQual t .exit).setHub t (fun h => { h.back with
      pushDue := s.c.push.pending, acked := !s.c.push.pending, pushTry := 0 })
    else s.setQual t .push
  else
    if h.fails + 1 < 3 then (s.failStep t 1).setHub t (fun h => { h with qual := .identify }) else s.failStep t 1

/-- Every number from `a` to `b` is absent: the two lie in one gap (R159). -/
def State.sameGap (s : State) (a b : TileNo) : Bool :=
  (List.finRange 24).all fun t =>
    decide ((t < a ∧ t < b) ∨ (a < t ∧ b < t)) || !s.hub[t].present

/-- The gap that holds `k` is `k` alone; the map ends at the highest mapped number. -/
def State.gapAlone (s : State) (k : TileNo) : Bool :=
  let taken (n : Nat) : Bool := if h : n < 24 then s.hub[(⟨n, h⟩ : TileNo)].present else true
  (k.val == 0 || taken (k.val - 1)) && (decide (s.nextNumber ≤ k.val + 1) || taken (k.val + 1))

/-- Table RM-2 has placed a tile at `t`: step 1 goes on with what has been read. -/
def State.placed (s : State) (t : TileNo) : State := (s.setHub t (fun h => { h with placed := true })).step1 t

/-- A tile is placed at `t` (Table RM-2), which is told once. -/
def State.placeAt (s : State) (t : TileNo) : State := (s.post 0x4001 t.val 0).placed t

/-- 0xFF is to be written; the number settles (R160, Table RM-2). -/
def State.turnAway (s : State) (t : TileNo) (code arg1 : Nat) : State :=
  ((s.setQual t .unnumber).setHub t (fun h => { h with settled := true })).post code t.val arg1

/-- The identity block of a tile at `k` has been read (R159, R161, Table RM-2). A repetition of step 1 does
not place the tile again. A UID recorded outside the gap is turned away by a JOINNEXT poll too: so Table RM-2
has it, where Table RM-7 and Limits let JOINNEXT move it (DESIGN CHOICE, log entry 38). A tile that takes the short
qualification is not placed anew: no TILEJOIN is posted, at a warm start neither (DESIGN CHOICE, log entry 114). -/
def State.gotIdentity (s : State) (k : TileNo) (d : List Byte) : State :=
  let uid : BitVec 64 := BitVec.ofNat 64 (bytesNat (d.take 8))
  let byte (i : Nat) : Byte := match (d.drop i).head? with | some b => b | none => 0
  let held := byte 11 == 1
  let s := s.setHub k (fun h => { h with
    rev := byte 8, proto := byte 9, lkOk := (byte 10).getLsbD 0 == s.start.lockdef, resetBack := !held })
  let h := s.hub[k]
  let was := h.short
  let short := h.short && held && s.c.map[k] == some uid && !h.epBad
  let s := s.setHub k (fun h => { h with short := short })
  if h.placed then s.step1 k
  else match (List.finRange 24).find? (fun j => s.c.map[j] == some uid) with
  | some j =>
    if j = k then (if short || (was && h.dropped) then s.placed k else s.placeAt k)
    else if s.sameGap k j then s.setQual k (.renumber j)
    else s.turnAway k 0x4004 j.val
  | none =>
    if s.gapAlone k || k.val == s.nextNumber || h.anyUid then
      ((s.setC (fun c => { c with map := c.map.set k (some uid) })).post 0x4006 k.val 0).placed k
    else s.turnAway k 0x4005 0

/-- The tile at `k` has taken number `j`: it is placed there with what was read at `k` (Table RM-2). -/
def State.renumbered (s : State) (k j : TileNo) : State :=
  let h := s.hub[k]
  let s := s.setHub j (fun x => { x with rev := h.rev, proto := h.proto, lkOk := h.lkOk, resetBack := true, short := false
                                         fails := 0 })
  (s.setQual k .absent).placeAt j

/-- The settings that a push carries: those of the commit at which EPOCH was incremented (R170). -/
def State.pushSet (s : State) : Settings := s.nv.active.img.set

/-- One SVC write of the configuration push: field `step`, and PENDEPOCH last (R170, Table WR-6). -/
def State.pushWrite (s : State) (t : TileNo) (step : Nat) : Nat × List Byte :=
  let p : Pos := Fin.ofNat 4 (step - 1)
  let g := s.pushSet.bays[bayOf t p].tileCfg
  if step = 0 then
    (0x0140, wordBytes (s.pushSet.tiles[t].tiocfg.setWidth 16) ++ [if s.pushSet.tiles[t].adcboost then 1 else 0])
  else if step ≤ 4 then (0x0100 + 4 * p.val, wordBytes g.word46 ++ wordBytes g.word48)
  else if step ≤ 8 then (0x0180 + p.val, [g.restlen.setWidth 8])
  else (0x0002, wordBytes s.c.epoch)

/-- The frame of a job: address, direction, length and data. -/
def State.jobFrame (s : State) (j : SvcJob) : SvcFrame :=
  match j with
  | .number t v => { tile := t, write := true, addr := 0, len := 1, data := [v] }
  | .identity t => { tile := t, write := false, addr := 0x0010, len := 16 }
  | .push t n => let x := s.pushWrite t n; { tile := t, write := true, addr := x.1, len := x.2.length, data := x.2 }
  | .dly t => { tile := t, write := true, addr := 0x0020, len := 2, data := natBytes 2 s.hub[t].dly }
  | .mailbox b c =>
    let x := s.ctxBay[ordIx c][b].pt
    let q := match x.queued with | some q => q | none => {}
    let w : Word := q.cmd ++ q.blen ++ q.proto
    let d := wordBytes w ++ wordBytes q.data ++ padTo 0 32 q.buf
    { tile := tileOf b, write := true, addr := 0x0200 + 0x40 * (posOf b).val, len := 36, data := d }
  | .result b _ => { tile := tileOf b, write := false, addr := 0x0204 + 0x40 * (posOf b).val, len := 34 }
  | .identData b => { tile := tileOf b, write := false, addr := 0x0400 + 0x40 * (posOf b).val, len := 36 }

/-- A context's pass-through occupies the bay's mailbox at the tile. -/
def State.mailboxBusy (s : State) (b : Bay) : Bool :=
  (List.finRange 5).any (fun c => s.ctxBay[c][b].pt.handed)

/-- The merged pass-through of a bay that comes first (R600). -/
def State.firstMerged (s : State) (b : Bay) : Option (Fin 5) :=
  (sortBy (fun x y : Fin 5 × Nat => decide (x.2 ≤ y.2))
    ((List.finRange 5).filterMap (fun c =>
      match s.ctxBay[c][b].pt.merged with
      | some n => if s.ctxBay[c][b].pt.queued.isSome && !s.ctxBay[c][b].pt.handed then some (c, n) else none
      | none => none))).head?.map (·.1)

/-- Service work of a bay. -/
def State.bayJob (s : State) (b : Bay) : Option SvcJob :=
  let v := s.bays[b]
  let r := s.c.bays[b]
  let want := (r.pack == .detect && v.det == .fetch) || ((r.pack == .ready || r.pack == .noprof) && r.smart)
  if want && v.iddone == some true && !v.identOk && !v.fetchWait then
    some (.identData b)
  else match (List.finRange 5).find? (fun c => s.ctxBay[c][b].pt.fetch) with
    | some c => some (.result b (Fin.castLE (by decide) c))
    | none =>
      if s.mailboxBusy b then none
      else (s.firstMerged b).map (fun c => .mailbox b (Fin.castLE (by decide) c))

/-- Service work of a number, one step of qualification per caesura (R160, R170, R172). -/
def State.tileJob (s : State) (t : TileNo) : Option SvcJob :=
  let h := s.hub[t]
  match h.qual with
  | .unnumber => if h.stepped then none else some (.number t 0xFF)
  | .identify => if h.stepped then none else some (.identity t)
  | .renumber j => if h.stepped then none else some (.number t (BitVec.ofNat 8 j.val))
  | .push => if h.stepped then none else some (.push t h.pushNext)
  | .absent => none
  | .echo | .telem => if h.dlyDue then some (.dly t) else none
  | .exit | .done =>
    if h.pushDue && !h.stepped then some (.push t h.pushNext)
    else if h.dlyDue then some (.dly t)
    else (baysOf t).findSome? (fun b => s.bayJob b)

/-- The next service frame that the hub has to send. -/
def State.nextJob (s : State) : Option SvcJob := (List.finRange 24).findSome? (fun t => s.tileJob t)

/-- A push to a tile has ended well (R160, R170, R172). -/
def State.pushDone (s : State) (t : TileNo) : State :=
  if s.hub[t].qual = .push then
    let s := if s.hub[t].resetBack then (baysOf t).foldl State.seqZero s else s
    (s.setQual t .echo).setHub t (fun h => { h with pushEpoch := s.c.epoch })
  else s.setHub t (fun h => { h with pushDue := false, acked := true, pushNext := 0, pushEpoch := s.c.epoch, stepped := true, epFails := 0 })

/-- A push to a tile has failed for good (R160, R170); a push under R172 is counted in each caesura. -/
def State.pushFail (s : State) (t : TileNo) : State :=
  if s.hub[t].qual = .push then s.failStep t 2
  else
    let s := s.setHub t (fun h => { h with
      pushTry := h.pushTry + 1, pushNext := 0, stepped := true })
    let h := s.hub[t]
    if 3 ≤ h.pushTry ∧ h.epBad = false then
      let s := s.setHub t (fun h => { h with pushDue := false })
      { s with hub := s.hub.map (fun h => { h with acked := true }) }
    else s

/-- Field `n` is the one that the push to a tile has reached: a frame of an abandoned push leads to nothing. -/
def State.pushing (s : State) (t : TileNo) (n : Nat) : Bool :=
  let h := s.hub[t]
  (h.qual == .push || (h.present && h.pushDue)) && h.pushNext == n

/-- A pass-through of a context ends with FAIL (R600). -/
def State.ptFail (s : State) (c : Fin 5) (b : Bay) (cause : BitVec 3) : State :=
  { s with ctxBay := upd s.ctxBay c (fun v => upd v b (fun x =>
      { x with pt := { x.pt with queued := none, merged := none, handed := false, fetch := false, fail := true
                                 fcause := cause } })) }

def State.setPt (s : State) (c : Fin 5) (b : Bay) (f : PtBox → PtBox) : State :=
  { s with ctxBay := upd s.ctxBay c (fun v => upd v b (fun x => { x with pt := f x.pt })) }

/-- What a service frame that came back done leads to. -/
def State.jobDone (s : State) (j : SvcJob) (d : List Byte) : State :=
  match j with
  | .number t v =>
    if v = 0xFF then s.setQual t .absent
    else if h : v.toNat < 24 then s.renumbered t ⟨v.toNat, h⟩ else s
  | .identity t => if s.hub[t].qual = .identify then s.gotIdentity t d else s
  | .push t n =>
    if s.pushing t n = false then s
    else if n < 9 then s.setHub t (fun h => { h with pushNext := n + 1 }) else s.pushDone t
  | .dly t => s.setHub t (fun h => { h with dlyDue := false })
  | .mailbox b c => s.setPt (ordIx c) b (fun x => { x with handed := true })
  | .result b c => s.setPt (ordIx c) b (fun x =>
      let n := bytesNat ((d.drop 32).take 2)
      { x with fetch := false, queued := none, merged := none, handed := false, done := true, bcnt := n, buf := d.take n })
  | .identData b => s.setBay b (fun v =>
      if v.iddone = some true then { v with ident := identOf d, identOk := true, fetchFail := false } else v)

/-- What a service frame that has failed for good leads to (R100, R145, R160, Table WR-10's error rows). -/
def State.jobFail (s : State) (j : SvcJob) : State :=
  match j with
  | .number t _ => s.setQual t .absent
  | .identity t => if s.hub[t].qual ≠ .identify then s else if s.hub[t].fails + 1 < 3 then (s.failStep t 1).setHub t (fun h => { h with qual := .identify }) else s.failStep t 1
  | .push t n => if s.pushing t n then s.pushFail t else s
  | .dly t => s.setHub t (fun h => { h with dlyDue := false })
  | .mailbox b c => s.ptFail (ordIx c) b 4
  | .result b c => s.ptFail (ordIx c) b 4
  | .identData b => s.setBay b (fun v => { v with fetchFail := true, fetchWait := true })

/-- SVCFAIL, once per fetch of identification data (R100, R145). -/
def State.postSvcfail (s : State) (j : SvcJob) (f : SvcFrame) : State :=
  let quiet := match j with | .identData b => s.bays[b].fetchFail | _ => false
  if quiet then s else s.post 0x4007 f.tile.val f.sseq.toNat

/-- The push of a tile whose EPOCHLO differs has failed in this caesura: the third drops it (R172). -/
def State.pushMiss (s : State) (x : SvcRun) : State :=
  match x.job with
  | .push t _ =>
    let h := s.hub[t]
    if h.present && h.epBad then
      if 3 ≤ h.epFails + 1 then (s.setRing (fun r => { r with svc := none })).dropTile t 3
      else s.setHub t (fun h => { h with epFails := h.epFails + 1, stepped := true })
    else s
  | _ => s

/-- A service frame has come back, or has not (R144, R145). -/
def State.svcBack (s : State) (x : SvcRun) (status : BitVec 8) (good : Bool) : State :=
  let s := s.setRing (fun r => { r with svcLive := false })
  let unn := match x.job with | .number _ v => v == 0xFF | _ => false
  if unn then (s.setRing (fun r => { r with svc := none })).jobDone x.job []
  else if status = 0x01 ∧ good = true then (s.setRing (fun r => { r with svc := none })).jobDone x.job x.frame.data
  else if status = 0x02 then ((s.setRing (fun r => { r with svc := none })).jobFail x.job).pushMiss x
  else if x.tries < 4 then
    (s.setRing (fun r => { r with svc := some { x with back := true, wait := true, tries := x.tries + 1 } })).pushMiss x
  else (((s.setRing (fun r => { r with svc := none })).postSvcfail x.job x.frame).jobFail x.job).pushMiss x

/-- A join poll has come back with a status, or not at all (R157, R159): only the status 0x00 settles a number in
Muster (R466). A present number that JOINNEXT named
and a tile answered for is identified again, with no drop (DESIGN CHOICE, log entry 85). -/
def State.pollBack (s : State) (k : TileNo) (got : Option (BitVec 8)) : State :=
  let status : BitVec 8 := match got with | some w => w | none => 0
  let s := s.setRing (fun r => { r with poll := none })
  let named := s.act.ring.joinnext.toNat == k.val
  let viaNext := named && s.ring.enum_.isNone && s.inTutti
  let s := if viaNext then
      { (s.setSet (fun g => { g with ring := { g.ring with joinnext := 31 } })) with
          act := { s.act with ring := { s.act.ring with joinnext := 31 } } }
    else s
  let s := if status = 0x01 then
      (s.setQual k .identify).setHub k (fun h => { h with
        anyUid := viaNext || s.ring.enum_.isSome, short := false, placed := false })
    else if status = 0x04 then s.setQual k .unnumber
    else if got = some 0 then s.setHub k (fun h => { h with settled := true })
    else s
  match s.ring.enum_ with
  | none => s
  | some n =>
    if status = 0x01 ∧ n + 1 < 24 then s.setRing (fun r => { r with enum_ := some (n + 1) })
    else if status = 0x04 then s
    else (s.setRing (fun r => { r with enum_ := none })).setC (fun c => { c with mapValid := true })

/-- Candidates of a join poll in Tutti (R158). -/
def State.candidates (s : State) : List TileNo :=
  (List.finRange 24).filter fun k =>
    (s.c.map[k].isSome && s.hub[k].cls == .empty && s.hub[k].qual == .absent) ||
    (k.val == s.nextNumber && s.hub[k].qual == .absent &&
      (match s.topMapped with | some t => s.hub[t].present | none => true))

/-- The number polled in this measure (R158). JOINNEXT is taken as it stands, also where it names a number that
is no candidate (DESIGN CHOICE, log entry 85). -/
def State.pollChoice (s : State) : Option TileNo :=
  match s.candidates with
  | [] => none
  | k :: ks =>
    if h : s.act.ring.joinnext.toNat < 24 then some ⟨s.act.ring.joinnext.toNat, h⟩
    else match s.ring.lastCand with
      | none => some k
      | some last =>
        match (k :: ks).find? (fun c => decide (last < c)) with
        | some c => some c
        | none => some k

/-- The interval of ECHOPER in measures (Table RG-9). -/
def echoEvery (c : BitVec 2) : Nat := 16 * 4 ^ c.toNat

/-- Delay to each number (R147, R289), in 1/64 RING period, from the loop's round trip and the latencies. A part of a unit
is rounded up, so that the wait which DLY carries is rounded down (DEDUCED, log entry 122). -/
def hopDelays (n trip : Nat) (lat w : Vector Nat 24) (ret : Nat) : Vector Nat 24 :=
  let sum (v : Vector Nat 24) (m : Nat) : Nat := ((List.finRange 24).filter (fun i => decide (i.val < m))).foldl (fun a i => a + v[i]) 0
  let cable := trip - 768 - sum lat n
  let tot := sum w n + ret
  Vector.ofFn fun k => 384 + (if tot = 0 then 0 else ceilDiv (cable * sum w (k.val + 1)) tot) + sum lat k.val

/-- An ECHO frame has come back (R146, R147, R160, R289, R301): the latency of each good entry. DLY follows, or
RINGDLY; step 3 passes where the entry is good. The first ECHO of Muster holds the tiles whose delay is too
long, until an ECHO finds it in range. -/
def State.echoBack (s : State) (seen : Vector (Option Nat) 24) (trip : Nat) : State :=
  let n := s.ntiles
  let good (k : TileNo) : Bool := decide (k.val < n) && seen[k].isSome
  let s := { s with hub := Vector.ofFn fun k =>
    match seen[k] with
    | some l => if good k then { s.hub[k] with lat := l } else s.hub[k]
    | none => s.hub[k] }
  let lat : Vector Nat 24 := Vector.ofFn fun k => if good k || s.hub[k].present then s.hub[k].lat else 0
  let d := hopDelays n trip lat (Vector.ofFn fun k => s.act.tiles[k].ringseg.toNat) s.act.ring.retseg.toNat
  let far (k : TileNo) : Bool := good k && decide (47616 < d[k])
  let any := (List.finRange 24).any far
  let first := s.ring.firstEcho
  let s := s.setRing (fun r => { r with firstEcho := false })
  let s := (List.finRange 24).foldl (fun s k => if far k then s.post 0x4008 k.val (min 65535 (d[k] * 125 / 384)) else s) s
  (List.finRange 24).foldl (fun s k =>
    let s := if good k && !any then s.setHub k (fun h => { h with dly := 49152 - d[k], dlyDue := true }) else s
    if s.hub[k].qual = .echo ∧ s.hub[k].stepped = false then
      if good k = false then s.failStep k 3
      else if far k && (first || s.hub[k].farHold) then s.setHub k (fun h => { h with farHold := true })
      else (s.setQual k .telem).setHub k (fun h => { h with farHold := false })
    else s) s

/-- The ECHO frame on the ring has not come back valid: every entry is BAD (R146, R160). -/
def State.echoLost (s : State) : State :=
  match s.ring.echo with
  | none => s
  | some _ => (s.setRing (fun r => { r with echo := none })).echoBack (Vector.replicate 24 none) 0

/-- A repeat copy falls due (R131). -/
def State.flagRepeat (s : State) : State :=
  if s.act.ring.rpten && !s.ring.rptSent && s.ring.cmd.isSome then s.setRing (fun r => { r with rptDue := true }) else s

/-- Every qualified tile has the newest EPOCH, or has failed its push three times (R170). -/
def State.epochReady (s : State) : Bool := (List.finRange 24).all (fun t => !s.hub[t].present || s.hub[t].acked)

/-- EPOCH goes up, and the push starts over (R170, Table RM-6). -/
def State.bumpEpoch (s : State) : State :=
  let s := s.setC (fun c => { c with epoch := c.epoch + 1, push := { c.push with pending := true, change := false } })
  let stale := match s.ring.svc with | some x => (match x.job with | .push _ _ => true | _ => false) | none => false
  let s := if stale then s.setRing (fun r => { r with svc := none, svcLive := false }) else s
  { s with hub := s.hub.map fun h =>
      if h.present then { h with pushDue := true, pushNext := 0, acked := false, pushTry := 0 }
      else match h.qual with
        | .push => { h with pushNext := 0, good := 0 }
        | .echo | .telem => { h with qual := .push, pushNext := 0, good := 0, fails := 0 }
        | _ => h }

end Sys2Proof.Machine
end

