-- ==== Sys2Proof/Machine/LoaderOps.lean ====
section
/-! DEFINITION. The Loader: what each source orders, the merge, the grant rule, the edge sets, canon
and the records it builds; and the hold records (chapters 07, 09, 10, 11, 12). -/

namespace Sys2Proof

/-- The orders of one source for one bay (Table CN-6). -/
structure BayOrd where
  stop    : Bool := false
  lock    : Bool := false
  unlock  : Bool := false
  unlkp   : Option (BitVec 8) := none
  lampA   : Option (BitVec 2) := none
  lampB   : Option (BitVec 2) := none
  clrflt  : Bool := false
  end_    : Bool := false
  cont    : Bool := false
  restart : Bool := false
  emrel   : Bool := false
deriving DecidableEq, Repr

/-- A context's orders (R598, R599). -/
def ctxOrd (l : BayLvl) (e : BayEdge) (sys : Bool) : BayOrd :=
  { stop := l.modeo == 1, lock := l.locko == 1, unlock := l.locko == 2
    unlkp := if l.locko = 0 then e.unlkp else none
    lampA := if l.aen then some l.aval else none, lampB := if l.ben then some l.bval else none
    clrflt := e.clrflt, end_ := e.end_, cont := e.cont, restart := e.restart, emrel := sys && l.emrel }

/-- Edge bits of a bay's 16 output bits (Table RE-4). -/
def edgeBits : BitVec 16 := 0x7810

/-- A voice's orders from its 16 output bits of the bay (Table RE-4). -/
def voiceOrd (w : BitVec 16) (pulse : BitVec 8) (sys : Bool) : BayOrd :=
  let g := w.getLsbD
  { stop := g 0, lock := g 2, unlock := g 3 && !g 2, unlkp := if g 4 && !g 2 && !g 3 then some pulse else none
    lampA := if g 5 then some (w.extractLsb' 6 2) else none, lampB := if g 8 then some (w.extractLsb' 9 2) else none
    clrflt := g 11, end_ := g 12, cont := g 13, restart := g 14, emrel := sys && g 15 }

/-- The orders of a bay by source, highest rank first, each with its WINSRC (Table CN-5). -/
abbrev Sources := List (BitVec 3 × BayOrd)

/-- The first source that gives something. -/
def Sources.first {α : Type} (l : Sources) (f : BayOrd → Option α) : Option α := l.findSome? (fun x => f x.2)
def Sources.any' (l : Sources) (f : BayOrd → Bool) : Bool := l.any (fun x => f x.2)

/-- An unlock-type order. -/
inductive Unl
  | level
  | pulse (len : BitVec 8)
deriving DecidableEq, Repr

def BayOrd.unl (o : BayOrd) : Option Unl := if o.unlock then some .level else o.unlkp.map .pulse

/-- LOCK as merged (Table CN-6, R270, R272). -/
inductive LockM
  | locked      -- ordered by a LOCK
  | idle        -- no order: LOCKED
  | open_
  | pulse (len : BitVec 8) (rank : Nat)
deriving DecidableEq, Repr

def mergeLock (l : Sources) : LockM :=
  if l.any' (·.emrel) then .open_
  else if l.any' (·.lock) then .locked
  else match (l.zipIdx).findSome? (fun x => x.1.2.unl.map (fun u => (u, x.2))) with
    | some (u, k) => match u with | Unl.level => .open_ | Unl.pulse n => .pulse n k
    | none => .idle

/-- The record of an absent number (R165): EDGESEQ as last sent. -/
def absentRec (eseq : BitVec 3) : BayRec := { edgeseq := eseq }

/-- ISET and VSET codes of Table BT-2 from mA and mV. -/
def isetCode (ma : Nat) : BitVec 9 := BitVec.ofNat 9 (max 5 (min 400 (ma / 10)))
def vsetCode (mv : Nat) : BitVec 12 := BitVec.ofNat 12 (min 3600 (mv / 5))

/-- Where a bay's buck starts each switching cycle of 96 RING periods, in RING periods after a period boundary
(R290): in the order of bays, or spread by position with PHMAP. -/
def buckStart (phmap : Bool) (b : Bay) : Nat := if phmap then 24 * (b.val % 4) + b.val / 4 else b.val

/-- The next rest of a granted bay (R292, R293, R294): its start tick, or none for this frame. `a` is the
tick at which the frame is applied, `canon` CANONCNT at that tick. -/
def nextRest (g : BaySet) (v : BayVol) (b : Bay) (c canon a p stage : Nat) : Option Nat :=
  let fin := v.wb.gtick + g.pperT
  let restlen := g.tileCfg.restlen.toNat
  if g.pperT = c then
    let base := max v.restEnd a
    let at' := (canon + (base - a)) % c
    let ofs := b.val * c / 96
    let r := base + (ofs + c - at') % c
    if fin < r then (if v.wb.gstage = stage then some a else none)
    else if r < a + p then some r else none
  else
    let r := match v.restStart with
      | some x => if x ≤ v.wb.gtick then x + g.pperT else v.wb.gtick + g.pperT - restlen
      | none => v.wb.gtick + g.pperT - restlen
    if a ≤ r ∧ r < a + p then some r else none

/-- Charge-control edges as merged (Table CN-6): they act in Screen in the next measure (R220). An order on which
Screen could not act then (a stale slot, a bad word) waits for the next latch on which it can; a later END or RESTART
takes its place. -/
def BayVol.takeEdges (v : BayVol) (l : Sources) : BayVol :=
  let e := l.any' (·.end_)
  let r := l.any' (·.restart)
  let e' := e || (v.mEnd && !r)
  let r' := !e && (r || v.mRestart)
  { v with mEnd := e', mRestart := r', mCont := (l.any' (·.cont) || v.mCont) && !e' && !r' }

/-- The edge set of a bay (R132, R133, R271). The first result is the bay, the second its EDGESEQ. -/
def BayVol.edgeStep (v : BayVol) (eseq : BitVec 3) (lock : LockM) (clr : Bool) (now a : Nat) : BayVol × BitVec 3 :=
  let v := match lock with
    | .locked => { v with pendUnl := none, edgeUnl := none }
    | .pulse n k => if v.pendUnl.isNone ∨ k ≤ v.pendRank then { v with pendUnl := some n, pendRank := k } else v
    | _ => v
  let v := { v with pendClr := v.pendClr || clr }
  let v := match v.edgeUnl with
    | some n => if v.edgeAck then v else { v with pulseUntil := now + 1 + n.toNat }
    | none => v
  let v := if v.edgeAck then { v with edgeClr := false } else v
  if v.edgeAck ∧ (v.pendUnl.isSome = true ∨ v.pendClr = true) then
    let until_ := match v.pendUnl with | some n => a + n.toNat | none => v.pulseUntil
    let rest := if a < v.pulseUntil then v.edgeUnl.map (fun _ => BitVec.ofNat 8 (v.pulseUntil - a)) else none
    ({ v with edgeAck := false, edgeUnl := match v.pendUnl with | some n => some n | none => rest
              edgeClr := v.pendClr, pendUnl := none, pendClr := false, pulseUntil := until_ }, eseq + 1)
  else (v, eseq)

/-- The LOCK field and LKPULSE that a record carries (R133, R134): a set that is not acknowledged is sent again,
however long its pulse. A set without an UNLOCK PULSE that is sent while an acknowledged pulse still runs carries
LOCK = 0b10 with the ticks that are left of it (DESIGN CHOICE, log entry 117). -/
def BayVol.lockField (v : BayVol) (lock : LockM) (a : Nat) : BitVec 2 × BitVec 8 :=
  match lock with
  | .open_ => (1, 0)
  | .locked => (0, 0)
  | _ =>
    match v.edgeUnl with
    | some n => if v.edgeAck = false ∨ a < v.pulseUntil then (2, n) else (0, 0)
    | none => (0, 0)

/-- The grant of a bay still stands for the frame applied at `a`. -/
def WbBay.live (w : WbBay) (a : Nat) : Bool :=
  w.granted && match w.gend with | .running => true | .atRest k => decide (a ≤ k) | .ended | .passed => false

/-- Charge-control edges of a context are used by a hold; its other edges wait. All are used otherwise. -/
def BayEdge.used (e : BayEdge) (hold : Bool) : BayEdge :=
  if hold then { e with end_ := false, cont := false, restart := false } else {}

/-- The latched edge bits have given their orders (R310). -/
def VoiceVol.edgesUsed (v : VoiceVol) : VoiceVol := { v with edgesOff := true }

end Sys2Proof

namespace Sys2Proof.Machine

/-- The tick at which the frame being built is applied (R25). -/
def State.applyTick (s : State) : Nat := s.clk.beatTick + s.period + 1

/-- A voice gives its safe values (R313, R463). -/
def State.voiceSafe (s : State) (v : VoiceId) : Bool :=
  s.c.voices[v].state != .run || s.c.engStop || s.wd.trap || !s.inTutti

/-- The safe-value table of a voice: all 0 in EMPTY (R313). -/
def State.safeOf (s : State) (v : VoiceId) : BitVec 1728 :=
  if s.c.voices[v].state = .empty then 0 else s.voices[v].prog.safe

/-- The image that a voice orders with (R267, R310, R313, R327, R328). -/
def State.voiceImage (s : State) (v : VoiceId) : BitVec 1728 :=
  if s.voiceSafe v then s.safeOf v else s.c.voices[v].q

/-- A bay's 16 bits of a voice's image; edge bits act once, and never as safe values or in HALT (R310, R313, R327). -/
def State.voiceBits (s : State) (v : VoiceId) (b : Bay) : BitVec 16 :=
  let w := (s.voiceImage v).extractLsb' (16 * b.val) 16
  if s.voices[v].edgesOff || s.voiceSafe v || s.eng.halted then w &&& ~~~edgeBits else w

def tenantVoice (t : Tenant) : VoiceId := ⟨t.val, by omega⟩
def tenantIx (t : Tenant) : Fin 5 := ⟨t.val, by omega⟩

/-- A context's entry for a bay is uncorrectable: it gives no order, and a STOP stands (R274). -/
def State.ctxSource (s : State) (c : Fin 5) (b : Bay) (win : BitVec 3) : BitVec 3 × BayOrd :=
  (win, if s.ctxBay[c][b].badLvl then {} else ctxOrd s.c.lvl[c][b] s.ctxBay[c][b].edge (c == 4))

/-- Every source of a bay (R266, Table CN-5, R274). -/
def State.sources (s : State) (b : Bay) : Sources :=
  let t := s.owner b
  let bad := s.ctxBay[(4 : Fin 5)][b].badLvl || s.ctxBay[tenantIx t][b].badLvl
  let x := s.ctxSource 4 b 2
  [(2, { x.2 with stop := x.2.stop || bad }),
   (3, voiceOrd (s.voiceBits 4 b) s.c.voices[(4 : VoiceId)].pulselen true),
   s.ctxSource (tenantIx t) b 4,
   (5, voiceOrd (s.voiceBits (tenantVoice t) b) s.c.voices[tenantVoice t].pulselen false)]

/-- Sources that a hold merges for locks and lamps (R197, R314): safe values, and a SYS emergency release. -/
def State.holdSources (s : State) (b : Bay) : Sources :=
  let safe (v : VoiceId) := (s.safeOf v).extractLsb' (16 * b.val) 16 &&& ~~~edgeBits
  let sys := voiceOrd (safe 4) 0 true
  [(3, { sys with emrel := sys.emrel || (s.ctxSource 4 b 2).2.emrel }),
   (5, voiceOrd (safe (tenantVoice (s.owner b))) 0 false)]

/-- EMREL starts or ends (R272). -/
def State.postEmrel (s : State) (b : Bay) (on : Bool) : State :=
  if s.bays[b].emrel = on then s
  else (s.setBay b (fun v => { v with emrel := on })).postTo (ctxOf (s.owner b)) 0x1001 b.val on.toNat

/-- Lamps and TIO outputs, and doors, are not served in HOLDOVER (R437). -/
def State.lampsOff (s : State) : Bool := s.mode.mode == .holdover && !s.act.mode.lampsvc
def State.doorsOff (s : State) : Bool := s.mode.mode == .holdover && !s.act.mode.doorsvc

/-- What HOLDOVER leaves of a record (R437). -/
def State.served (s : State) (b : Bay) (r : BayRec) : BayRec :=
  let r := if s.lampsOff then { r with lampA := 0, lampB := 0 } else r
  if s.doorsOff && !s.bays[b].emrel then { r with lock := 0, lkpulse := 0 } else r

/-- A built record goes into the ORDER words and the frame (R188, Table PL-2). -/
def State.putRec (s : State) (b : Bay) (r : BayRec) (win : BitVec 3) : State :=
  let r := s.served b r
  let s := s.setBay b (fun v =>
    { v with mode := r.mode, lock := r.lock, lampA := r.lampA, lampB := r.lampB, winsrc := win, clrSent := r.clrflt
             isetw := r.iset.toNat * 10, vsetw := r.vset.toNat * 5, lastRec := r })
  s.setPipe (fun p => { p with recs := p.recs.set b r })

/-- The rest that this frame starts, with its RESTAT (R129, R293, R294). -/
def State.placeRest (s : State) (b : Bay) : BitVec 7 × State :=
  let a := s.applyTick
  let c := s.act.wb.canonper.toNat * 10
  let canon := if c = 0 then 0 else (s.c.canoncnt + (a - s.clk.ticks)) % c
  let g := s.act.bays[b]
  match nextRest g s.bays[b] b c canon a s.period s.c.mcount.toNat with
  | some r => (BitVec.ofNat 7 (r - a), s.setBay b (fun v =>
      { v with restStart := some r, restEnd := r + g.tileCfg.restlen.toNat, wb := { v.wb with gend := .atRest r } }))
  | none => (127, s)

/-- The record of a stale bay (R163): the last one, with canon's RESTAT, no new edge set, and MODE PULSE
only while its grant stands. An uncorrectable word gives it the safety order HOLD (R198). -/
def State.staleRec (s : State) (b : Bay) : State :=
  let s := if s.bays[b].badWord then s.setBay b (fun v => { v with wb := v.wb.endGrant, lastRec := { v.lastRec with mode := 0 } }) else s
  let v := s.bays[b]
  let a := s.applyTick
  let on := v.lastRec.mode == 1 && v.wb.live a
  let x := if on then s.placeRest b else (127, s)
  let m : BitVec 2 := if v.lastRec.mode = 1 ∧ on = false then 0 else v.lastRec.mode
  let s := if v.wb.gend = .passed then x.2.setWbBay b WbBay.endGrant else x.2
  s.putRec b { v.lastRec with mode := m, restat := x.1 } (if v.badWord then 1 else v.winsrc)

/-- The record of one present bay (R188, R238, R269). -/
def State.mergeBay (s : State) (b : Bay) : State :=
  let l := s.sources b
  let a := s.applyTick
  let v := (s.bays[b]).takeEdges l
  let lock := if s.doorsOff && !l.any' (·.emrel) then .locked else mergeLock l
  let e := v.edgeStep s.c.edgeSeq[b] lock (v.safety == .offclr || l.any' (·.clrflt)) s.clk.beatTick a
  let v := e.1
  let stop := l.find? (fun x => x.2.stop)
  let safety := v.safety != .none || v.badWord
  let win : BitVec 3 := if safety then 1 else match stop with | some x => x.1 | none => 0
  let off := safety || stop.isSome
  let live := v.wb.live a
  let mode : BitVec 2 := if off then 0 else if v.pMode = 1 ∧ live = false then 0 else v.pMode
  let iset := if v.wb.granted then min v.pIset v.wb.igr else v.pIset
  let v := if off ∨ v.pMode ≠ 1 ∨ v.wb.gend = .passed then { v with wb := v.wb.endGrant } else v
  let s := (s.setBay b (fun _ => v)).setC (fun c => { c with edgeSeq := c.edgeSeq.set b e.2 })
  let s := s.postEmrel b (l.any' (·.emrel))
  let x := if mode = 1 then s.placeRest b else (127, s)
  let k := v.lockField lock a
  x.2.putRec b
    { mode := mode, lock := k.1, lkpulse := k.2
      lampA := match l.first (·.lampA) with | some y => y | none => 0
      lampB := match l.first (·.lampB) with | some y => y | none => 0
      clrflt := v.edgeClr && !v.edgeAck, edgeseq := e.2, vset := vsetCode v.pVset, iset := isetCode iset
      restat := x.1 } win

/-- The hold record of one present bay from the sources that a hold merges (R194, R314). -/
def State.holdRec (s : State) (b : Bay) (l : Sources) : State :=
  let v := s.bays[b]
  let lock : BitVec 2 := match mergeLock l with | .open_ => 1 | _ => 0
  let s := (s.setBay b (fun v => { v with wb := v.wb.endGrant })).postEmrel b (l.any' (·.emrel))
  s.putRec b
    { mode := 0, lock := lock, lampA := match l.first (·.lampA) with | some y => y | none => 0
      lampB := match l.first (·.lampB) with | some y => y | none => 0
      edgeseq := s.c.edgeSeq[b], vset := v.lastRec.vset, iset := v.lastRec.iset } 6

/-- A held bay in a Loader (R197): a SYS emergency release and the charge-control orders are merged. -/
def State.holdBay (s : State) (b : Bay) : State :=
  (s.setBay b (fun v => v.takeEdges (s.sources b))).holdRec b (s.holdSources b)

/-- A bay in the frame that a guard builds (R194): safe values, and a standing emergency release (R272). -/
def State.guardBay (s : State) (b : Bay) : State :=
  if s.bayPresent b then s.holdRec b (s.holdSources b) else s.putRec b (absentRec s.c.edgeSeq[b]) 7

/-- The records of a guard's hold frame, with every TIO pin an input (R194, Table CN-6). -/
def State.guardRecs (s : State) : State :=
  let s := (List.finRange 96).foldl State.guardBay s
  let s := { s with hub := s.hub.map (fun (h : TileHub) => { h with tioDrv := 0, tioVal := 0, tioIn := true }) }
  s.setPipe (fun p => { p with merged := true, hold := true })

/-- One bay number (Table CN-6). -/
def State.loadBay (s : State) (b : Bay) : State :=
  let hold := s.c.guard
  if !s.bayPresent b then
    s.putRec b (absentRec s.c.edgeSeq[b]) 7
  else
    let s := if hold then s.holdBay b else if s.bays[b].tilest = 1 then s.staleRec b else s.mergeBay b
    if s.bays[b].tilest = 1 ∧ hold = false then s
    else
      let cb := Vector.ofFn fun c : Fin 5 =>
        if c = 4 ∨ c = tenantIx (s.owner b) then
          upd s.ctxBay[c] b (fun x => { x with edge := x.edge.used hold })
        else s.ctxBay[c]
      { s with ctxBay := cb }

/-- A context's order for a TIO pin: 1 low, 2 high (Table WR-5). -/
def tioCode (w : BitVec 8) (k : Fin 4) : Option Bool :=
  let c := w.extractLsb' (2 * k.val) 2
  if c = 1 then some false else if c = 2 then some true else none

/-- A voice's order for a TIO pin (R311). -/
def State.voiceTio (s : State) (v : VoiceId) (t : TileNo) (k : Fin 4) : Option Bool :=
  let q := s.voiceImage v
  if q.getLsbD (0x660 + 4 * t.val + k.val) then some (q.getLsbD (0x600 + 4 * t.val + k.val)) else none

/-- The merged order of a TIO pin (Table CN-6); `bad` names entries that were uncorrectable (R274). -/
def State.mergePin (s : State) (t : TileNo) (k : Fin 4) (bad : Fin 5 → Bool) : Option Bool :=
  if s.c.guard || !s.hub[t].present || s.lampsOff then none
  else
    let o := s.pinOwner t k
    let ctx (c : Fin 5) := if bad c then none else tioCode s.c.tioord[c][t] k
    let own := ordIx o
    ((ctx 4).or (s.voiceTio 4 t k)).or (if o = ctxSYS then none else (ctx own).or (s.voiceTio own t k))

/-- The bad entries that the Loader read (R198, R274). -/
def State.noteBad (s : State) (bad : List OrdBad) : State :=
  bad.foldl (fun s x =>
    match x with
    | .level c b =>
      let s := { s with ctxBay := upd s.ctxBay c (fun v => upd v b (fun y => { y with badLvl := true })) }
      s.post 0x2005 b.val (if c = 4 then 2 else 4)
    | .pin c t k => s.post 0x2005 (0x100 + 4 * t.val + k.val) (if c = 4 then 2 else 4)
    | .word b =>
      let r := s.nv.active.img.bays[b]
      ((s.setBay b (fun v => { v with badWord := true })).setRun b (fun _ => r)).postAlso [s.owner b] 0x1002 b.val 0) s

/-- SAFEXIT of a tile (R160, R169, R188, R463). -/
def State.safexit (s : State) (t : TileNo) : Bool :=
  s.inTutti && s.hub[t].qual == .exit && !(s.hub[t].safeDrop && decide (180 ≤ s.hub[t].die.toNat))

/-- Queued pass-throughs are merged, SYS first (R600). -/
def State.mergePt (s : State) : State :=
  (List.finRange 96).foldl (fun s b =>
    [4, tenantIx (s.owner b)].foldl (fun s c =>
      let x := s.ctxBay[c][b].pt
      if x.queued.isSome && x.merged.isNone then
        { (s.setPt c b (fun y => { y with merged := some s.ptCount })) with ptCount := s.ptCount + 1 }
      else s) s) s

/-- The Loader's pass over every number and pin. -/
def State.loaderPass (s : State) (bad : List OrdBad) : State :=
  let s := s.noteBad bad
  let s := (List.finRange 96).foldl State.loadBay s
  let badPin (t : TileNo) (k : Fin 4) (c : Fin 5) : Bool := bad.contains (.pin c t k)
  let pin (t : TileNo) (k : Fin 4) := s.mergePin t k (badPin t k)
  let bits (t : TileNo) (f : Option Bool → Bool) : BitVec 4 :=
    (List.finRange 4).foldl (fun w k => if f (pin t k) then w ||| (1#4 <<< k.val) else w) 0
  let s := { s with hub := Vector.ofFn fun t =>
    { s.hub[t] with tioDrv := bits t Option.isSome, tioVal := bits t (· == some true)
                    tioIn := s.c.guard || !s.hub[t].present || s.lampsOff } }
  let s := s.mergePt
  let s := { s with voices := s.voices.map VoiceVol.edgesUsed }
  s.setPipe (fun p => { p with safexit := Vector.ofFn fun t => s.safexit t, merged := true })

/-- Haul's frame (R126, R152, R165, R188, R189). MCOUNT and EPOCH are those of the beat at which it leaves. -/
def State.buildFrame (s : State) : CmdFrame :=
  { seq := s.ring.seq + 1, epoch := s.c.push.carried, mcount := (s.c.mcount + 1).setWidth 16, ntiles := s.ntiles
    blocks := Vector.ofFn fun t =>
      { tflags := if s.pipe.safexit[t] then 0x80 else 0
        recs := Vector.ofFn fun p => s.pipe.recs[bayOf t p]
        tioVal := s.hub[t].tioVal, tioDrv := s.hub[t].tioDrv, tioIn := s.hub[t].tioIn } }

end Sys2Proof.Machine
end

