-- ==== Sys2Proof/Machine/BayWords.lean ====
section
/-! DEFINITION. The bay words, the input image, the system words, and what a voice sees of them
(chapters 07, 12). -/

namespace Sys2Proof

/-- Codes of PSTATE (Table PL-2). -/
def Pack.code : Pack → Nat
  | .empty => 0 | .seating => 1 | .detect => 2 | .reversed => 3 | .shorted => 4 | .ready => 5 | .noprof => 6

/-- Codes of TERM (Table CP-3). -/
def Term.code : Term → Nat
  | .none => 0 | .negdv => 1 | .dtdt => 2 | .plateau => 3 | .temp => 4 | .timer => 5 | .vmax => 6 | .hostend => 7
  | .vabs => 8 | .litimer => 9 | .pretime => 10 | .norest => 11

/-- A word that saturates. -/
def satWord (n : Nat) : Word := BitVec.ofNat 16 (min 65535 n)

/-- Codes of a port's state (Table TY-3). -/
def TcState.code : TcState → Nat
  | .disabled => 0 | .unattached => 1 | .attachWait => 2 | .sink => 3 | .source => 4 | .tryRole => 5 | .wet => 6
  | .recovery => 7

/-- ORDER (Table PL-2). -/
def BayVol.order (v : BayVol) (eseq : BitVec 3) : Word :=
  (0#1) ++ (BitVec.ofBool v.clrSent) ++ eseq ++ v.winsrc ++ v.lampB ++ v.lampA ++ v.lock ++ v.mode

/-- A timer-status bit (R307): WRAP, MATCH, DONE, a queue that is not empty. -/
def TimerSt.bit (t : TimerSt) (j : Nat) : Bool :=
  if j = 0 then t.wrap else if j = 1 then t.match_ else if j = 2 then t.done else !t.queue.isEmpty

end Sys2Proof

namespace Sys2Proof.Machine

/-- BSTAT of a present bay. -/
def State.bstat (s : State) (b : Bay) : Word :=
  let v := s.bays[b]
  v.tilest ++ (BitVec.ofNat 4 s.c.bays[b].pack.code) ++ (BitVec.ofBool s.c.guard) ++ (BitVec.ofBool v.safe) ++ v.flags

/-- Bay word `i` (R183, R190, Table PL-2). -/
def State.bayWord (s : State) (b : Bay) (i : Fin 16) : Word :=
  let v := s.bays[b]
  let r := s.c.bays[b]
  if !s.bayPresent b then (if i = 0 then 0x8000 else 0)
  else match i.val with
    | 0 => s.bstat b
    | 1 => satWord v.vnow
    | 2 => satWord ((v.vavg + 128) / 256)
    | 3 => satWord v.vrest
    | 4 => satWord v.vrage
    | 5 => satWord v.inow
    | 6 => match v.temp with | some t => wordOfInt t | none => 0x8000
    | 7 => satWord (r.qacc / 3600000)
    | 8 => satWord (v.tchgw / 1000)
    | 9 => BitVec.ofNat 16 r.phase
    | 10 => v.fault
    | 11 => BitVec.ofNat 16 r.term.code
    | 12 => BitVec.ofNat 16 (256 * ceilDiv (if v.wb.granted then v.wb.grant else 0) 4 +
        ceilDiv (if v.wb.opened then v.wb.req else 0) 4)
    | 13 => v.order v.lastRec.edgeseq
    | 14 => satWord v.isetw
    | _ => satWord v.vsetw

/-- One bit as SUBST gives it (R166). -/
def substBit (code : BitVec 2) (last : Bool) : Bool := if code = 0 then false else if code = 1 then true else last

/-- The input bits of any bay: substitutes for an absent tile, with PRESENT 0 (R166, R307). -/
def State.inBits (s : State) (b : Bay) : BitVec 16 :=
  if s.bayPresent b then s.liveBits b
  else bitsOf 16 ((List.range 16).map (fun k =>
    k != 0 && substBit (s.act.bays[b].subst.extractLsb' (2 * k) 2) (s.bays[b].lastBits.getLsbD k)))

/-- A TIO level (k 0 to 3) or edge (k 4 to 7) bit of a tile (R166, R307). -/
def State.tioBit (s : State) (t : TileNo) (k : Nat) : Bool :=
  let raw := s.hub[t].tio.getLsbD (if k < 4 then k + 4 else k - 4)
  if s.hub[t].present then raw else substBit (s.act.tiles[t].tiosubst.extractLsb' (2 * k) 2) raw

/-- The tenant of a voice; none for voice SYS. -/
def voiceTenant (v : VoiceId) : Option Tenant := if h : v.val < 4 then some ⟨v.val, h⟩ else none

/-- A voice sees a bay, a pin or a channel (R308). -/
def sees (v : VoiceId) (c : CtxId) : Bool :=
  match voiceTenant v with | none => true | some t => c == ctxOf t

/-- The input image of a voice (R307, R308). -/
def State.inputImage (s : State) (v : VoiceId) : BitVec 1792 :=
  let bays := (List.finRange 96).flatMap fun b =>
    let w := if sees v (ctxOf (s.owner b)) then s.inBits b else 0
    (List.range 16).map w.getLsbD
  let pins (o : Nat) := (List.finRange 24).flatMap fun t => (List.finRange 4).map fun k =>
    sees v (s.pinOwner t k) && s.tioBit t (k.val + o)
  let tmr := (List.finRange 16).flatMap fun n => (List.range 4).map fun j =>
    sees v (s.chanOwner n) && s.timers[n].bit j
  bitsOf 1792 (bays ++ pins 0 ++ pins 4 ++ tmr)

/-- The bay words that a voice sees (R308). -/
def State.bayImage (s : State) (v : VoiceId) : Vector (Vector Word 16) 96 :=
  Vector.ofFn fun b =>
    if sees v (ctxOf (s.owner b)) then Vector.ofFn fun i => s.bayWord b i else Vector.replicate 16 0

/-- A mask of tile numbers. -/
def tileMask (f : TileNo → Bool) : BitVec 24 := bitsOf 24 ((List.finRange 24).map f)

/-- FEEDST, PDST and VKEEPMV (Table RE-5). -/
def State.feedst (s : State) : Word :=
  let on (i : FeederId) := s.feeders[i].state == .on
  let lo (i : FeederId) := s.feeders[i].state == .lockout
  bitsOf 16 [on 0, on 1, lo 0, lo 1]
def State.linkActive (s : State) : Bool := s.c.link != .none
def State.pdst (s : State) : Word :=
  BitVec.ofNat 16 (s.ports[(0 : PortId)].state.code + 16 * s.ports[(1 : PortId)].state.code + 256 * s.linkActive.toNat)

/-- System words (Table RE-5), as voice `v` sees them. -/
def State.sysWords (s : State) (v : VoiceId) (dropRan : Bool) : Vector Word 32 :=
  let sys := v == voiceSYS
  let drop := tileMask (fun t => s.hub[t].dropLast)
  let live := tileMask (fun t => s.hub[t].present)
  let ct := s.cabinetTime
  let only (w : Word) : Word := if sys then w else 0
  let share := match voiceTenant v with | some t => s.wb.share[t] | none => s.wb.pool
  let held := match voiceTenant v with | some t => s.heldBy t | none => s.heldAll
  let flags := bitsOf 16 [s.voices[v].first, dropRan, s.voices[v].resumed, s.start.warm, s.mode.mode == .holdover]
  Vector.ofFn fun i =>
    match i.val with
    | 0x00 => s.c.mcount.extractLsb' 0 16
    | 0x01 => s.c.mcount.extractLsb' 16 16
    | 0x02 => satWord s.period
    | 0x03 => flags
    | 0x04 => drop.extractLsb' 0 16
    | 0x05 => drop.extractLsb' 16 16
    | 0x06 => live.extractLsb' 0 16
    | 0x07 => live.extractLsb' 16 16
    | 0x08 => satWord s.bif
    | 0x09 => satWord share
    | 0x0A => satWord held
    | 0x0B => ct.extractLsb' 0 16
    | 0x0C => ct.extractLsb' 16 16
    | 0x0D => ct.extractLsb' 32 16
    | 0x0E => ct.extractLsb' 48 16
    | 0x0F => only (satWord s.keeper.vkeep)
    | 0x10 => only s.feedst
    | 0x11 => only s.pdst
    | 0x12 => s.c.voices[v].lastflt.setWidth 16
    | 0x13 => only (s.wd.cause.setWidth 16)
    | _ => 0

end Sys2Proof.Machine
end

