-- ==== Sys2Proof/Machine/Flags.lean ====
section
/-! DEFINITION. The results of the Refrain instructions on RLO, WACC, soft timers and counters: every
flag and word computation of Tables RI-1 to RI-3 (chapter 13). -/

namespace Sys2Proof

/-- What GET to XORN make of RLO and the addressed bit (Table RI-1). -/
inductive BitOp
  | get | getn | and | andn | or | orn | xor | xorn
deriving DecidableEq, Repr

def BitOp.run (o : BitOp) (rlo b : Bool) : Bool :=
  match o with
  | .get => b | .getn => !b
  | .and => rlo && b | .andn => rlo && !b
  | .or => rlo || b | .orn => rlo || !b
  | .xor => rlo != b | .xorn => rlo != !b

/-- JOIN's result from the outer bit and the inner result (R339). -/
def BrOp.run (o : BrOp) (r inner : Bool) : Bool :=
  match o with
  | .and => r && inner | .andn => r && !inner
  | .or => r || inner | .orn => r || !inner
  | .xor => r != inner | .xorn => r != !inner

/-- PUT, PUTN, LATCH, UNLATCH: what becomes of the addressed bit (Table RI-1). -/
inductive PutOp
  | put | putn | latch | unlatch
deriving DecidableEq, Repr

def PutOp.run (o : PutOp) (rlo b : Bool) : Bool :=
  match o with
  | .put => rlo | .putn => !rlo
  | .latch => rlo || b | .unlatch => b && !rlo

/-- Word operations on WACC (Table RI-1). -/
inductive WordOp
  | get | add | sub | and | or | xor
deriving DecidableEq, Repr

def WordOp.run (o : WordOp) (a w : Word) : Word :=
  match o with
  | .get => w | .add => a + w | .sub => a - w
  | .and => a &&& w | .or => a ||| w | .xor => a ^^^ w

/-- Compares of WACC with a word (Table RI-1). -/
inductive CmpOp
  | eq | ne | gt | ge | lt | le | sgt | slt
deriving DecidableEq, Repr

def CmpOp.run (o : CmpOp) (a w : Word) : Bool :=
  match o with
  | .eq => a == w | .ne => a != w
  | .gt => BitVec.ult w a | .ge => BitVec.ule w a
  | .lt => BitVec.ult a w | .le => BitVec.ule a w
  | .sgt => BitVec.slt w a | .slt => BitVec.slt a w

/-- The time base in ticks (R343). -/
def baseTicks (c : BitVec 2) : Nat := 10 ^ c.toNat

/-- The preset in ticks. -/
def SoftTimer.preset (t : SoftTimer) : Nat := t.pre.toNat * baseTicks t.base

/-- Expiry (R345). -/
def SoftTimer.expire (t : SoftTimer) : SoftTimer :=
  { t with acc := t.preset, rest := 0, run := false, dn := true, out := t.kind == .ton || t.kind == .tacc }

/-- A start or a continuation that finds the preset reached expires at once (R344). -/
def SoftTimer.check (t : SoftTimer) : SoftTimer := if t.run && decide (t.preset ≤ t.acc) then t.expire else t

/-- The timer instructions. -/
inductive TimOp
  | ton | tof | tp | tacc | tclr
deriving DecidableEq, Repr

/-- ACC, RUN and DN return to 0. -/
def SoftTimer.zero (t : SoftTimer) : SoftTimer := { t with acc := 0, rest := 0, run := false, dn := false }

/-- A timer instruction with RLO as its input (Table RI-3). -/
def TimOp.run (o : TimOp) (rlo : Bool) (t : SoftTimer) : SoftTimer :=
  match o with
  | .ton =>
    let t := { t with kind := .ton }
    let t := if rlo then (if !t.run && !t.dn then { t with acc := 0, rest := 0, run := true } else t).check else t.zero
    { t with out := t.dn, inp := rlo }
  | .tof =>
    let t := { t with kind := .tof }
    let t := if rlo then t.zero else (if t.inp then { t with acc := 0, rest := 0, run := true } else t).check
    { t with out := rlo || t.run, inp := rlo }
  | .tp =>
    let t := { t with kind := .tp }
    let t := if rlo && !t.inp && !t.run then { t with acc := 0, rest := 0, dn := false, run := true } else t
    let t := t.check
    { t with out := t.run, inp := rlo }
  | .tacc =>
    let t := { t with kind := .tacc }
    let t := if rlo then (if t.dn then t else { t with run := true }).check else { t with run := false }
    { t with out := t.dn, inp := rlo }
  | .tclr => { (if rlo then { t.zero with out := false } else t) with inp := rlo }

/-- A running timer takes up `n` ticks at a refresh (R316, R345). -/
def SoftTimer.advance (t : SoftTimer) (n : Nat) : SoftTimer :=
  if t.run then (if t.preset ≤ t.acc + n then t.expire else { t with acc := t.acc + n }) else t

/-- TPRE's fields (R343). -/
def SoftTimer.setPre (t : SoftTimer) (w : BitVec 32) (pre : Word) : SoftTimer :=
  { t with pre := pre, base := w.extractLsb' 8 2, wall := w.getLsbD 10 }

/-- CUP and CDN (R347). -/
def Counter.up (c : Counter) (rlo : Bool) : Counter :=
  { c with val := if rlo && !c.uin && c.val != 0xFFFF then c.val + 1 else c.val, uin := rlo }
def Counter.down (c : Counter) (rlo : Bool) : Counter :=
  { c with val := if rlo && !c.din && c.val != 0 then c.val - 1 else c.val, din := rlo }

end Sys2Proof
end

