-- ==== Sys2Proof/Machine/Operands.lean ====
section
/-! DEFINITION. Refrain operands: areas, effective indices, the reading and writing of bits and words,
ownership filtering (chapters 12, 13). -/

namespace Sys2Proof

/-- Areas (Table RE-2); none is illegal. -/
inductive Area
  | i | q | m | e | t | c | w | k | b | s
deriving DecidableEq, Repr

def areaOf (x : BitVec 4) : Option Area :=
  match x.toNat with
  | 0 => some .i | 1 => some .q | 2 => some .m | 3 => some .e | 4 => some .t
  | 5 => some .c | 6 => some .w | 7 => some .k | 8 => some .b | 9 => some .s
  | _ => none

/-- Sizes (Table RE-2, R335). -/
def Area.size (a : Area) (klen : Nat) : Nat :=
  match a with
  | .i => 1792 | .q => 1728 | .m => 2048 | .e => 1024 | .t => 128
  | .c => 128 | .w => 512 | .k => klen | .b => 1536 | .s => 32

/-- The fields of an instruction word (R332). -/
def opOf (w : BitVec 32) : BitVec 8 := w.extractLsb' 24 8
def areaField (w : BitVec 32) : BitVec 4 := w.extractLsb' 20 4
def xFlag (w : BitVec 32) : Bool := w.getLsbD 19
def idxField (w : BitVec 32) : BitVec 20 := w.extractLsb' 0 20

/-- The effective index (R334). In T and C the number is INDEX[6:0]; other bits are ignored at run time
(R338). -/
def effIndex (a : Area) (w : BitVec 32) (xr : Word) : Nat :=
  match a with
  | .t | .c => (w.extractLsb' 0 7).toNat + if xFlag w then xr.toNat / 16 else 0
  | _ => (w.extractLsb' 0 19).toNat + if xFlag w then xr.toNat else 0

/-- Why an instruction faults (Table RE-10). -/
abbrev FaultCause := BitVec 4

/-- An operand: its area and its effective index in range, or the first check that fails (R353). -/
def operand (w : BitVec 32) (xr : Word) (klen : Nat) (allowed : List Area) : Except FaultCause (Area × Nat) :=
  match areaOf (areaField w) with
  | none => .error 2
  | some a =>
    if allowed.contains a then
      if effIndex a w xr < a.size klen then .ok (a, effIndex a w xr) else .error 3
    else .error 2

/-- Bit areas that a read may name, and word areas. -/
def bitAreas : List Area := [.i, .q, .m, .e, .t, .c]
def putAreas : List Area := [.q, .m]
def wordAreas : List Area := [.w, .k, .b, .s, .t, .c]

/-- One more cycle with X = 1; the third cycle of T, C and B operands (R337). -/
def opCycles (w : BitVec 32) (base : Nat) : Nat := base + if xFlag w then 1 else 0
def areaCycles (a : Area) : Nat := match a with | .b | .t | .c => 3 | _ => 2

/-- A bit of a bit vector, written. -/
def setBitAt {n : Nat} (v : BitVec n) (i : Nat) (x : Bool) : BitVec n :=
  let mask : BitVec n := BitVec.ofNat n (2 ^ i)
  if x then v ||| mask else v &&& ~~~mask

/-- An item of a vector changed by a plain index. -/
def vupd {α : Type} {n : Nat} (v : Vector α n) (i : Nat) (f : α → α) : Vector α n :=
  if h : i < n then v.set i (f v[i]) else v

end Sys2Proof

namespace Sys2Proof.Machine

/-- A voice has a Q bit of its own, to read and to write (R309, R312, R336): its tenant owns the bay or the pin, and the bit is no
bay's bit 1. -/
def State.mayPutQ (s : State) (v : VoiceId) (i : Nat) : Bool :=
  if h : i / 16 < 96 then i % 16 != 1 && sees v (ctxOf (s.owner ⟨i / 16, h⟩))
  else
    let j := (i - 0x600) % 96
    if h : j / 4 < 24 then sees v (s.pinOwner ⟨j / 4, h⟩ ⟨j % 4, Nat.mod_lt _ (by decide)⟩) else false

/-- The value of an addressed bit (Tables RI-1, RI-2; R312, R336: the images hold 0 where the voice sees
nothing, and a Q bit that is not the voice's reads 0). -/
def State.readBit (s : State) (v : VoiceId) (a : Area) (i : Nat) : Bool :=
  let r := s.c.voices[v]
  match a with
  | .i => s.voices[v].i.getLsbD i
  | .q => s.mayPutQ v i && s.voices[v].qw.getLsbD i
  | .m => r.m.getLsbD i
  | .e => r.e.getLsbD i
  | .t => (vget r.t i {}).out
  | .c => let c := vget r.c i {}; BitVec.ule c.pre c.val
  | .w | .k | .b | .s => false

/-- The value of an addressed word (R341; ACC over the base, saturated). -/
def State.readWord (s : State) (v : VoiceId) (a : Area) (i : Nat) : Word :=
  let r := s.c.voices[v]
  match a with
  | .w => vget r.w i 0
  | .k => match s.voices[v].prog.k[i]? with | some x => x | none => 0
  | .b => vget (vget s.voices[v].b (i / 16) (Vector.replicate 16 0)) (i % 16) 0
  | .s => vget s.voices[v].s i 0
  | .t => let t := vget r.t i {}; satWord (t.acc / baseTicks t.base)
  | .c => (vget r.c i {}).val
  | .i | .q | .m | .e => 0

/-- A bit of Q or M is written. -/
def State.writeBit (s : State) (v : VoiceId) (a : Area) (i : Nat) (x : Bool) : State :=
  match a with
  | .q => if s.mayPutQ v i then s.setVoice v (fun y => { y with qw := setBitAt y.qw i x }) else s
  | .m => s.setVRun v (fun y => { y with m := setBitAt y.m i x })
  | .e => s.setVRun v (fun y => { y with e := setBitAt y.e i x })
  | _ => s

/-- A word of W is written. -/
def State.writeWord (s : State) (v : VoiceId) (i : Nat) (w : Word) : State :=
  s.setVRun v (fun y => { y with w := vupd y.w i (fun _ => w) })

def State.setSoft (s : State) (v : VoiceId) (i : Nat) (f : SoftTimer → SoftTimer) : State :=
  s.setVRun v (fun y => { y with t := vupd y.t i f })
def State.setCounter (s : State) (v : VoiceId) (i : Nat) (f : Counter → Counter) : State :=
  s.setVRun v (fun y => { y with c := vupd y.c i f })

end Sys2Proof.Machine
end

