-- ==== Sys2Proof/Machine/Mem.lean ====
section
/-! DEFINITION. The byte-wide part of the retention memory (program areas, coda slots, scratch areas) in
its canonical form, and its regions (chapters 12, 14). -/

namespace Sys2Proof

/-- A memory: address and byte, addresses strictly rising, no entry 0x00. -/
abbrev Memory := List (Nat × Byte)

/-- What an address that is not listed reads as: 0x00 (DESIGN CHOICE; the spec gives the memory no first
contents). -/
def Memory.blank : Byte := 0

/-- The byte at an address. -/
def Memory.get : Memory → Nat → Byte
  | [], _ => Memory.blank
  | (k, v) :: rest, a => if k = a then v else Memory.get rest a

/-- A byte written. -/
def Memory.put : Memory → Nat → Byte → Memory
  | [], a, x => if x = Memory.blank then [] else [(a, x)]
  | (k, v) :: rest, a, x =>
    if a < k then (if x = Memory.blank then (k, v) :: rest else (a, x) :: (k, v) :: rest)
    else if a = k then (if x = Memory.blank then rest else (a, x) :: rest)
    else (k, v) :: Memory.put rest a x

/-- Every key of the list is above `a`. -/
def Memory.above (a : Nat) : Memory → Bool
  | [] => true
  | (k, _) :: rest => decide (a < k) && Memory.above a rest

/-- The canonical form. -/
def Memory.wf : Memory → Bool
  | [] => true
  | (k, v) :: rest => v != Memory.blank && Memory.above k rest && Memory.wf rest

/-- A run of bytes written from an address on, and read. -/
def Memory.putRun (m : Memory) : Nat → List Byte → Memory
  | _, [] => m
  | a, x :: rest => Memory.putRun (m.put a x) (a + 1) rest
def Memory.run (m : Memory) (a n : Nat) : List Byte := (List.range n).map (fun i => m.get (a + i))

/-- Big-endian fields (R610). -/
def Memory.word (m : Memory) (a : Nat) : Word := m.get a ++ m.get (a + 1)
def Memory.word32 (m : Memory) (a : Nat) : BitVec 32 := m.word a ++ m.word (a + 2)

/-- Regions of Table NV-1. -/
inductive Region
  | control | bankA | bankB
  | prog (v : VoiceId) (area : Bool)
  | coda (k : Fin 4)
  | key
  | scratch (c : CtxId)
  | reserved
deriving DecidableEq, Repr

/-- First byte of a program area (Table NV-1). -/
def progBase (v : VoiceId) (area : Bool) : Nat :=
  if v.val < 4 then 0x41000 + 0x8000 * v.val + (if area then 0x4000 else 0)
  else 0x31000 + (if area then 0x8000 else 0)
def progSize (v : VoiceId) : Nat := if v.val < 4 then 0x4000 else 0x8000
def codaBase (k : Fin 4) : Nat := 0x61000 + 0x800 * k.val

/-- The region of a byte address. -/
def regionOf (a : Nat) : Region :=
  if a < 0x1000 then .control
  else if a < 0x19000 then .bankA
  else if a < 0x31000 then .bankB
  else if a < 0x41000 then .prog 4 (decide (0x39000 ≤ a))
  else if a < 0x61000 then
    .prog ⟨(a - 0x41000) / 0x8000 % 4, Nat.lt_of_lt_of_le (Nat.mod_lt _ (by decide)) (by decide)⟩
      (decide (0x4000 ≤ (a - 0x41000) % 0x8000))
  else if a < 0x63000 then .coda ⟨(a - 0x61000) / 0x800 % 4, Nat.mod_lt _ (by decide)⟩
  else if a < 0x64000 then .key
  else if a < 0x78000 then
    .scratch ⟨(a - 0x64000) / 0x4000 % 5, Nat.lt_of_lt_of_le (Nat.mod_lt _ (by decide)) (by decide)⟩
  else .reserved

/-- The active install word of a voice: the later valid one (R368), with its slot. -/
def Nv.activeInst (n : Nv) (v : VoiceId) : Option (Fin 2 × InstWord) :=
  match instOf v n.inst[v][(0 : Fin 2)], instOf v n.inst[v][(1 : Fin 2)] with
  | some a, some b => if later b.iepoch a.iepoch then some (1, b) else some (0, a)
  | some a, none => some (0, a)
  | none, some b => some (1, b)
  | none, none => none

/-- The staged area (R321, R658): the one that is not active; area 0 without an active program. -/
def Nv.stagedArea (n : Nv) (v : VoiceId) : Bool :=
  match n.activeInst v with | some x => !x.2.area | none => false

/-- Header words of a program image (Table RE-8). -/
def imgWord (m : Memory) (base i : Nat) : BitVec 32 := m.word32 (base + 4 * i)

/-- Instructions a voice may hold (Table RE-1). -/
def progLimit (v : VoiceId) : Nat := if v.val < 4 then 3072 else 7168

/-- An entry word: an index, or none (Table RE-8). -/
def entryOf (w : BitVec 32) : Option Nat := if w = 0x000FFFFF then none else some w.toNat

/-- The program that an image holds (Table RE-8). -/
def loadProgram (m : Memory) (base : Nat) : Program :=
  let len := (imgWord m base 1).toNat
  let klen := (imgWord m base 5).toNat
  let kbase := base + 4 * (8 + len)
  let k (i : Nat) : Word := let w := m.word32 (kbase + 4 * (i / 2)); if i % 2 = 0 then w.setWidth 16 else w.extractLsb' 16 16
  let sbase := kbase + 4 * ceilDiv klen 2
  { code := (List.range len).map (fun i => imgWord m base (8 + i)), main := (imgWord m base 2).toNat
    drop := entryOf (imgWord m base 3), coda := entryOf (imgWord m base 4)
    k := (List.range klen).map k, progid := imgWord m base 6
    safe := bitsOf 1728 ((List.range 1728).map (fun q => (m.word32 (sbase + 4 * (q / 32))).getLsbD (q % 32))) }

/-- Words of an image (Table RE-8). -/
def imgLen (m : Memory) (base : Nat) : Nat := 62 + (imgWord m base 1).toNat + ceilDiv (imgWord m base 5).toNat 2

/-- CRC-32 over every word of the image but word 7. -/
def imgCrc (m : Memory) (base : Nat) : BitVec 32 :=
  crc32 (m.run base 28 ++ m.run (base + 32) (4 * (imgLen m base - 8)))

end Sys2Proof

namespace Sys2Proof.Machine

def State.mem (s : State) : Memory := s.nv.mem
def State.setMem (s : State) (f : Memory → Memory) : State := s.setNv (fun n => { n with mem := f n.mem })

/-- The on-chip copy of a voice's active program (R321). -/
def State.activeProgram (s : State) (v : VoiceId) : Program :=
  match s.nv.activeInst v with | some x => loadProgram s.mem (progBase v x.2.area) | none => {}

end Sys2Proof.Machine
end

