-- ==== Sys2Proof/Machine/WdOps.lean ====
section
/-! DEFINITION. The watchdog trap, CODA's start and end, and coda records (chapter 15). -/

namespace Sys2Proof

/-- The period in ms that WDCTL.PER gives (Table WD-3). -/
def wdPeriod (per : BitVec 4) : Nat := 16 * 2 ^ per.toNat

/-- The code of a push operation (Table WD-2). -/
def BrOp.code : BrOp → Nat
  | .and => 0 | .andn => 1 | .or => 2 | .orn => 3 | .xor => 4 | .xorn => 5

def VState.code : VState → Nat
  | .empty => 0 | .stop => 1 | .run => 2 | .fault => 3

/-- STAGE of a coda record. -/
def PStage.code : PStage → Nat
  | .caesura => 0 | .front => 1 | .voice => 2 | .loader => 3 | .haul => 4 | .journal => 5

/-- A coda slot's bytes are those of a valid record (R399). -/
def codaChecks (m : Memory) (k : Fin 4) : Bool :=
  let a := codaBase k
  m.word a == 0xC0DA && m.get (a + 2) == 0x01 && crc32 (m.run a 0x7FC) == m.word32 (a + 0x7FC)

/-- A coda slot holds a valid record (R376, R399): its bytes check, and no line failure cut it. -/
def codaValid (n : Nv) (k : Fin 4) : Bool := codaChecks n.mem k && !n.codaBad[k]

/-- CODASEQ of a slot. -/
def codaSeq (m : Memory) (k : Fin 4) : BitVec 32 := m.word32 (codaBase k + 4)

/-- The latest CODASEQ of the valid slots. -/
def latestSeq (n : Nv) : Option (BitVec 32) :=
  let m := n.mem
  (List.finRange 4).foldl (fun o k =>
    if codaValid n k then
      match o with | some x => if later (codaSeq m k) x then some (codaSeq m k) else some x | none => some (codaSeq m k)
    else o) none

/-- The slot for a record (R398). -/
def codaChoice (n : Nv) (keep : BitVec 4) : Option (Fin 4) :=
  let free := (List.finRange 4).filter (fun k => !keep.getLsbD k.val)
  match free.find? (fun k => !codaValid n k) with
  | some k => some k
  | none =>
    free.foldl (fun o k =>
      match o with | some x => if later (codaSeq n.mem x) (codaSeq n.mem k) then some k else some x | none => some k) none

/-- Voice registers at the start of an entry (R333). -/
def VoiceVol.enter (v : VoiceVol) (e : Entry) (pc : Nat) : VoiceVol :=
  { v with active := true, entry := some e, pc := pc, rlo := false, wacc := 0, xr := 0, stack := [] }

/-- A voice's slot or entry is abandoned. -/
def VoiceVol.quit (v : VoiceVol) : VoiceVol := { v with active := false, entry := none }

/-- The next CODASEQ (R398). -/
def Nv.codaNext (n : Nv) : BitVec 32 := match latestSeq n with | some x => x + 1 | none => 1

/-- Voice SYS as CODA finds it: a working image that is not latched is discarded, the cycles are CODA's own, and the system
words show the cause (R391, R392, Table RE-5). -/
def VoiceVol.forCoda (v : VoiceVol) (q : BitVec 1728) (cause : BitVec 4) : VoiceVol :=
  { v with qw := q, cycles := 0, spent := false, s := v.s.set 0x13 (cause.setWidth 16) }

/-- A bay whose grant goes back to the pool and whose request is withdrawn (R391). -/
def BayVol.looseGrant (v : BayVol) : BayVol := { v with wb := v.wb.release.withdraw }

end Sys2Proof

namespace Sys2Proof.Machine

/-- The voices in the order of a coda record. -/
def recVoices : List VoiceId := [4, 0, 1, 2, 3]

/-- ENGSTATE (Table WD-2). -/
def State.engCode (s : State) : Nat :=
  if s.c.guard then 3 else match s.engine with | .run => 0 | .stop => 1 | .halt => 2 | .trap => 0

/-- The stage in progress: the Loader follows the T3 slot at once (R23, R384). -/
def State.stageNow (s : State) : PStage :=
  if s.pipe.wbDone && !s.pipe.ldDone && s.eng.slot.isNone && s.eng.next.isNone then .loader else s.pipe.stage

/-- Bytes 0x008 to 0x057 as the trap finds them, `slow` SLOW periods after the last tick beat; FLAGS, SNAPDLY and CSEQ are
put in when the record is written (Table WD-2). -/
def State.trapBytes (s : State) (cause : BitVec 4) (us slow : Nat) : List Byte :=
  let vv := match s.eng.slot with | some v => s.voices[v] | none => {}
  let on := s.eng.slot.isSome && s.eng.ran
  let flags := 8 * s.c.guard.toNat + 16 * (s.engine == .halt).toNat
  [cause.setWidth 8, BitVec.ofNat 8 flags, 0, 0] ++ natBytes 4 s.c.mcount.toNat ++ natBytes 8 (s.clk.elapsed.toNat + slow) ++
  natBytes 4 0 ++ natBytes 4 us ++ natBytes 8 ({ s with clk := { s.clk with elapsed := s.clk.elapsed + BitVec.ofNat 64 slow } } : State).cabinetTime.toNat ++
  recVoices.flatMap (fun v => natBytes 4 s.voices[v].prog.progid.toNat) ++ natBytes 4 0 ++
  [BitVec.ofNat 8 s.engCode, BitVec.ofNat 8 s.stageNow.code,
   match s.eng.slot with | some v => BitVec.ofNat 8 v.val | none => 7, 0] ++
  natBytes 4 (if on then vv.pc else 0) ++
  (if on then [BitVec.ofNat 8 vv.rlo.toNat, BitVec.ofNat 8 vv.stack.length] ++ wordBytes vv.wacc ++ wordBytes vv.xr ++ [0, 0]
   else List.replicate 8 0) ++
  padTo 0 8 (if on then vv.stack.reverse.map (fun e => BitVec.ofNat 8 (8 * e.1.toNat + e.2.code)) else [])

/-- The record's bytes before its CRC (Table WD-2). -/
def State.recordBody (s : State) (seq : BitVec 32) (tag : BitVec 8) (auto : Bool) (dly : Word) : List Byte :=
  let h := s.wd.header
  let fl := (match (h.drop 1).head? with | some b => b | none => 0) ||| BitVec.ofNat 8 (auto.toNat +
    2 * (!s.wd.codaRan).toNat + 4 * s.wd.codaFlt.toNat)
  let cseq := match s.nv.activeWord with | some w => w.1.toNat | none => 0
  let head := [0xC0, 0xDA, 0x01, if auto then 0 else tag] ++ natBytes 4 seq.toNat ++
    padTo 0 0x50 (h.take 1 ++ [fl] ++ wordBytes dly ++ (h.drop 4).take 12 ++ natBytes 4 cseq ++ h.drop 20)
  let voices := recVoices.flatMap (fun v =>
    let r := s.c.voices[v]
    [BitVec.ofNat 8 r.state.code, r.lastflt.setWidth 8] ++ natBytes 3 r.fltidx.toNat ++
    [byteSat s.voices[v].progErrs, byteSat s.voices[v].dataErrs, 0])
  let kicks := padTo 0 64 (s.wd.kicks.flatMap (fun k => wordBytes k.mc ++ wordBytes k.us))
  let evs := padTo 0 128 (s.sysLog.flatMap (fun e => wordBytes e.code ++ wordBytes e.mc ++ [0, 0, 0, 0]))
  let bud := [s.bif, s.feedbud, s.linkbud, s.wb.pool, s.heldAll, s.wb.e, s.act.wb.reserve.toNat, s.act.wb.cabbud.toNat]
  let masks (m : BitVec 24) : List Byte := wordBytes (m.extractLsb' 0 16) ++ wordBytes (m.extractLsb' 16 16)
  head ++ voices ++ List.replicate 128 0 ++ kicks ++ evs ++ bud.flatMap (fun n => wordBytes (satWord n)) ++
  masks (tileMask (fun t => s.hub[t].present)) ++ masks (tileMask (fun t => s.hub[t].dropLast)) ++
  (List.finRange 24).map (fun t => byteSat s.hub[t].stale) ++
  padTo 0 16 (wordBytes s.feedst ++ wordBytes s.pdst ++ wordBytes (satWord s.keeper.vkeep)) ++ List.replicate 128 0 ++
  (List.finRange 96).flatMap (fun b => wordBytes (s.bayWord b 0)) ++
  (List.finRange 96).flatMap (fun b => wordBytes (s.bayWord b 13)) ++
  (List.range 508).flatMap (fun i => wordBytes (vget s.c.voices[voiceSYS].w i 0)) ++ List.replicate 4 0

/-- SNAPDLY of a record that is due `us` after the trap. What Table WD-1 leaves open is free: CODA starts up to 2 µs
after the trap, and a journal in progress completes first (R263, R399). -/
def State.snapDly (s : State) (us : Nat) : Word × State :=
  let f := s.freeNat
  (satWord (us + (if s.wd.recWait then f.1 else f.1 % 3)), f.2)

/-- Write one record, due `us` after the trap (R349, R393, R398, R399): false when every slot is kept. A line that
fails twice, the `fail`th, ends the writing and leaves the record invalid; its bytes are free (R381). -/
def State.writeRecord (s : State) (tag : BitVec 8) (auto : Bool) (us : Nat) (fail : Option (Fin 256)) : Bool × State :=
  match codaChoice s.nv s.act.ring.keep with
  | none => (false, s)
  | some k =>
    let f := s.snapDly us
    let body := s.recordBody s.nv.codaNext tag auto f.1
    let all := body ++ natBytes 4 (crc32 body).toNat
    match fail with
    | none =>
      (true, ((f.2.setMem (fun m => m.putRun (codaBase k) all)).setNv (fun n =>
        { n with codaBad := n.codaBad.set k false })).setWd (fun w => { w with written := true }))
    | some l =>
      let bytes := (List.range 8).map (fun i => Config.freeByte (f.2.free + i))
      let s := { f.2 with free := f.2.free + 8 }
      (false, (s.setMem (fun m => m.putRun (codaBase k) (all.take (8 * l.val) ++ bytes))).setNv (fun n =>
        { n with codaBad := n.codaBad.set k true }))

/-- A coda record that is cut after some of its lines reads as invalid (R376). -/
def State.cutRecord (s : State) (tag : BitVec 8) (auto : Bool) (us lines : Nat) : State :=
  match codaChoice s.nv s.act.ring.keep with
  | none => s
  | some k =>
    let f := s.snapDly us
    let l := (s.recordBody s.nv.codaNext tag auto f.1).take (8 * min 255 lines)
    (f.2.setMem (fun m => m.putRun (codaBase k) l)).setNv (fun n => { n with codaBad := n.codaBad.set k true })

/-- The hub is writing its own coda record: no journal has the port (R263, R393). -/
def State.ownDue (s : State) : Bool := s.wd.recDue && !s.nv.port.asks .journal

/-- The hub's own coda record is complete (R393). Which line of it fails twice, if one does, is free (R381). -/
def State.ownRecord (s : State) : State :=
  if s.ownDue then
    let f := s.freeNat
    let s := (f.2.setWd (fun w => { w with recDue := false })).setNv (fun n => { n with port := n.port.release .coda })
    (s.writeRecord 0 true s.wd.recAt (if h : f.1 < 256 then some ⟨f.1, h⟩ else none)).2
  else s

/-- A reset may cut the hub's own coda record, after any of its lines (R376). -/
def State.ownCut (s : State) : State :=
  if s.ownDue then
    let f := s.freeNat
    if f.1 < 256 then f.2.cutRecord 0 true s.wd.recAt f.1 else f.2.ownRecord
  else s

/-- CODA ends, `us` after the trap (R392, R393): without a record, the hub writes one itself through the CODA requester,
once a journal has let go of the port (R263). -/
def State.codaEnd (s : State) (us : Nat) : State :=
  let s := (s.setWd (fun w => { w with coda := false, lapsed := false })).setVoice voiceSYS VoiceVol.quit
  if s.wd.written then s
  else (s.setWd (fun w => { w with recDue := true, recAt := us, recWait := w.recWait || s.nv.port.asks .journal })).setNv
    (fun n => { n with port := n.port.ask .coda 256 })

/-- A breakpoint names this instruction and is active (R328, R625, R626). -/
def State.brkAt (s : State) (v : VoiceId) (pc : Nat) : Option (Fin 8) :=
  if s.dbgEffect = .control then
    (List.finRange 8).find? (fun i => s.sec.brks[i].en && s.sec.brks[i].voice == v && s.sec.brks[i].idx.toNat == pc)
  else none

/-- A voice fault (R330, R353). In CODA it ends CODA and is not recorded (R392). -/
def State.voiceFault (s : State) (v : VoiceId) (cause : FaultCause) (idx : Nat) : State :=
  if s.voices[v].entry = some .coda then
    (s.setWd (fun w => { w with codaFlt := w.codaFlt || !w.snapped })).codaEnd (s.voices[v].cycles / 96)
  else
    let s := s.setVRun v (fun r => { r with state := .fault, lastflt := cause, fltidx := BitVec.ofNat 20 idx })
    let s := s.setVoice v (fun x => { x.quit with faulted := true })
    match voiceTenant v with
    | some t => s.postAlso [t] 0x2001 v.val cause.toNat
    | none => s.post 0x2001 v.val cause.toNat

/-- A memory error faults the voice before its instruction (R331, R353); one in CODA is not recorded (R392). -/
def State.memFault (s : State) (v : VoiceId) (e : MemErr) : State :=
  let x := s.voices[v]
  let note (f : VoiceVol → VoiceVol) : State := if x.entry = some .coda then s else s.setVoice v f
  match e with
  | .prog => (note (fun x => { x with reload := true, progErrs := x.progErrs + 1 })).voiceFault v 6 x.pc
  | .data a => (note (fun x => { x with restore := a :: x.restore, dataErrs := x.dataErrs + 1 })).voiceFault v 7 x.pc

/-- An instruction is reached, which may meet an uncorrectable word (R331). -/
def State.meetWord (s : State) (v : VoiceId) (pc : Nat) : State :=
  match s.voices[v].memErr with
  | some e =>
    if e.idx = pc then
      (if e.passes = 0 then s.memFault v e.err
       else s.setVoice v (fun x => { x with memErr := some { e with passes := e.passes - 1 } }))
    else s
  | none => s

/-- Execution reaches an instruction: past the last one the voice faults (R350), at an active breakpoint it
stops, which CODA knows none of (R328), and it may meet an uncorrectable word (R331). -/
def State.arrive (s : State) (v : VoiceId) (pc : Nat) : State :=
  let s := s.setVoice v (fun x => { x with pc := pc })
  if s.voices[v].prog.code.length ≤ pc then s.voiceFault v 1 pc
  else match (if s.voices[v].entry = some .coda then none else s.brkAt v pc) with
    | none => s.meetWord v pc
    | some i =>
      let s := s.setVoice v (fun x => { x.quit with broken := true })
      let s := s.setSec (fun q => { q with brks := upd q.brks i (fun b => { b with hit := true }), brkVoice := some v })
      s.setEng (fun e => { e with brkHit := true })

/-- An entry starts at its first instruction (R333). -/
def State.startEntry (s : State) (v : VoiceId) (e : Entry) (pc : Nat) : State :=
  (s.setVoice v (fun x => x.enter e pc)).arrive v pc

/-- The trap (R391, R392, R393); a DORMANT entry is lost (Table PM-7). `us` is the time since the last measure beat in µs.
Before Muster the ring is idle, and no SHED set goes out (R455). -/
def State.trap (s : State) (cause : BitVec 4) (us : Nat) : State :=
  if s.wd.trap then s else
    let f := if s.running then (us % 1000 * 4 / 125, s) else s.freeNat
    let hdr := s.trapBytes cause us f.1
    let s := f.2
    let s := match s.eng.slot with | some v => s.setVoice v VoiceVol.quit | none => s
    let s := s.setEng (fun e => { e with slot := none, ran := false, stepping := false })
    let s := { s with bays := s.bays.map BayVol.looseGrant }
    let s := (s.setMode (fun m => { m with dorm := .none, calOk := false })).setClk (fun k => { k with calib := if k.calib = .presleep then .none else k.calib })
    let s := (if s.running then s.sendShedAll else s).post 0x800A cause.toNat 0
    let s := s.setWd (fun w => { w with
      trap := true, cause := cause, counting := false, hard := true, hardT := if s.running then some 0 else none, written := false, snapped := false
      codaFlt := false, recDue := false, recWait := false, header := hdr })
    let s := s.setVoice voiceSYS (fun v => v.forCoda s.c.voices[voiceSYS].q cause)
    match s.voices[voiceSYS].prog.coda with
    | some pc => (s.setWd (fun w => { w with coda := true, codaRan := true })).startEntry voiceSYS .coda pc
    | none => (s.setWd (fun w => { w with coda := false, codaRan := false })).codaEnd 0

end Sys2Proof.Machine
end

