-- ==== Sys2Proof/Machine/RefrainOps.lean ====
section
/-! DEFINITION. How a voice executes: the fetch, the order of the checks, faults, breakpoints, the end of
an entry, slots, and the checks of an install (chapters 12, 13, 15). -/

namespace Sys2Proof

/-- PIPE cycles of a slot of `len` units of 0.1 ms, after the refresh of 12 µs (R303). -/
def slotCycles (len : Nat) : Nat := 9600 * len - 1152

/-- PIPE cycles of CODA (R392). -/
def codaCycles : Nat := 192000

/-- The soft timer's advance at a refresh (R316): a wall timer takes up every tick, a measure timer the ticks
in which its voice and the engine were in RUN. -/
def SoftTimer.refresh (t : SoftTimer) (wall run : Nat) : SoftTimer := t.advance (if t.wall then wall else run)

/-- The edge bits of every bay, cleared (R305). -/
def dropEdges (q : BitVec 1728) : BitVec 1728 :=
  q &&& ~~~ bitsOf 1728 ((List.range 96).flatMap (fun _ => (List.range 16).map edgeBits.getLsbD))

/-- Bit 1 and the edge bits of each bay's sixteen. -/
def noSafe : BitVec 16 := edgeBits ||| 2

/-- Where an undefined opcode does not lie: the defined opcodes (Tables RI-1, RI-2, RI-4). -/
def opDefined (o : BitVec 8) : Bool :=
  let n := o.toNat
  decide ((1 ≤ n ∧ n ≤ 8) ∨ (0x10 ≤ n ∧ n ≤ 0x1D) ∨ (0x20 ≤ n ∧ n ≤ 0x25) ∨ (0x30 ≤ n ∧ n ≤ 0x32) ∨
    (0x40 ≤ n ∧ n ≤ 0x51) ∨ (0x60 ≤ n ∧ n ≤ 0x65) ∨ (0x68 ≤ n ∧ n ≤ 0x6B))

/-- Areas that an opcode may name; none for an opcode without an operand. -/
def opAreas (o : BitVec 8) : Option (List Area) :=
  let n := o.toNat
  if 0x10 ≤ n ∧ n ≤ 0x17 then some bitAreas
  else if 0x18 ≤ n ∧ n ≤ 0x1B then some putAreas
  else if n = 0x1C ∨ n = 0x1D then some [.e]
  else if n = 0x42 then some [.w]
  else if n = 0x40 ∨ (0x43 ≤ n ∧ n ≤ 0x4F) then some wordAreas
  else if 0x60 ≤ n ∧ n ≤ 0x65 then some [.t]
  else if 0x68 ≤ n ∧ n ≤ 0x6B then some [.c]
  else none

/-- The checks of an install on one instruction (R351). -/
def installOk (w : BitVec 32) (len klen : Nat) (sys : Bool) : Bool :=
  let o := opOf w
  let n := o.toNat
  opDefined o &&
  match opAreas o with
  | some l =>
    (match operand (w &&& 0xFFF7FFFF) 0 klen l with
      | .ok (a, _) =>
        (if n = 0x65 then w.extractLsb' 11 8 == 0 && !w.getLsbD 7
         else if a == .t || a == .c then w.extractLsb' 7 12 == 0 else true)
      | .error _ => false)
  | none =>
    areaField w == 0 &&
    (if n = 7 ∨ n = 8 then w.extractLsb' 8 12 == 0 && (sys || n == 8)
     else if 0x30 ≤ n ∧ n ≤ 0x32 then decide ((idxField w).toNat < len)
     else if n = 0x41 then w.extractLsb' 16 4 == 0
     else idxField w == 0)

/-- The first failing safe-value word of an image (step 6 of R324). -/
def safeFails (q : BitVec 1728) (sys : Bool) : Option Nat :=
  let bad (i : Nat) : Bool :=
    let w := q.extractLsb' (32 * i) 32
    let half (x : BitVec 16) : Bool := x &&& (if sys then noSafe else noSafe ||| 0x8000) != 0
    decide (i < 48) && (half (w.extractLsb' 0 16) || half (w.extractLsb' 16 16))
  (List.range 54).find? bad

/-- The restoring of one area from the last journal (R331). -/
def VoiceRun.restore (r old : VoiceRun) (a : DArea) : VoiceRun :=
  match a with
  | .q => { r with q := old.q } | .m => { r with m := old.m } | .e => { r with e := old.e }
  | .t => { r with t := old.t } | .c => { r with c := old.c } | .w => { r with w := old.w }

/-- The retained areas set to 0 (R325, R370). -/
def VoiceRun.clear (r : VoiceRun) : VoiceRun :=
  { r with q := 0, m := 0, e := 0, t := Vector.replicate 128 {}, c := Vector.replicate 128 {}
           w := Vector.replicate 512 0 }

/-- FIRST for the next slot. -/
def VoiceVol.setFirst (v : VoiceVol) : VoiceVol := { v with first := true }

/-- A raised event joins those of its slot: four at most, the fourth with MORE when there are more (R348). -/
def addRaised (l : List Raised) (code : BitVec 8) : List Raised :=
  if l.length < 4 then l ++ [{ code := code }]
  else l.take 3 ++ (l.drop 3).map (fun r => { r with more := true })

end Sys2Proof

namespace Sys2Proof.Machine

/-- A program's entry runs for the voice now: in its own slot, or CODA. -/
def State.runs (s : State) (v : VoiceId) : Bool :=
  s.voices[v].active && (s.eng.slot == some v || (s.wd.coda && v == voiceSYS && s.voices[v].entry == some .coda))

/-- The cycles that the voice has for its entries. -/
def State.budget (s : State) (v : VoiceId) : Nat :=
  if s.voices[v].entry = some .coda then codaCycles
  else match voiceTenant v with
    | some t => slotCycles s.act.layout.t[t].toNat
    | none => slotCycles s.act.layout.sys.toNat

/-- The instruction that the voice executes next, when it is of this opcode. -/
def State.fetchOp (s : State) (v : VoiceId) (op : BitVec 8) : Option (BitVec 32) :=
  if s.runs v then
    match s.voices[v].prog.code[s.voices[v].pc]? with
    | some w => if opOf w = op then some w else none
    | none => none
  else none

/-- `n` cycles pass, when they fit into what the voice has; else the instruction does not come to its end. -/
def State.charge (s : State) (v : VoiceId) (n : Nat) (f : State → State) : State :=
  if s.voices[v].cycles + n ≤ s.budget v then f (s.setVoice v (fun x => { x with cycles := x.cycles + n }))
  else s.setVoice v (fun x => { x with spent := true })

/-- The instruction after this one. -/
def State.onward (s : State) (v : VoiceId) : State := s.arrive v (s.voices[v].pc + 1)

/-- An instruction without an operand: its word, its cycles, its effect. -/
def State.plainOp (s : State) (v : VoiceId) (op : BitVec 8) (n : Nat) (f : BitVec 32 → State → State) : Res :=
  match s.fetchOp v op with
  | some w => .next (s.charge v n (fun s => (f w s).onward v))
  | none => .next s

/-- An instruction with an operand from an area, with the checks of R353 in their order. -/
def State.areaOp (s : State) (v : VoiceId) (op : BitVec 8) (areas : List Area) (base : Area → Nat)
    (f : BitVec 32 → Area → Nat → State → State) : Res :=
  match s.fetchOp v op with
  | none => .next s
  | some w =>
    match operand w s.voices[v].xr s.voices[v].prog.k.length areas with
    | .error c => .next (s.voiceFault v c s.voices[v].pc)
    | .ok (a, i) => .next (s.charge v (opCycles w (base a)) (fun s => (f w a i s).onward v))

def State.setRlo (s : State) (v : VoiceId) (b : Bool) : State := s.setVoice v (fun x => { x with rlo := b })
def State.setWacc (s : State) (v : VoiceId) (w : Word) : State := s.setVoice v (fun x => { x with wacc := w })

/-- GET to XORN (Table RI-1). -/
def State.bitOp (s : State) (v : VoiceId) (op : BitVec 8) (o : BitOp) : Res :=
  s.areaOp v op bitAreas areaCycles (fun _ a i s => s.setRlo v (o.run s.voices[v].rlo (s.readBit v a i)))

/-- PUT, PUTN, LATCH, UNLATCH (Table RI-1). -/
def State.putOp (s : State) (v : VoiceId) (op : BitVec 8) (o : PutOp) : Res :=
  s.areaOp v op putAreas areaCycles (fun _ a i s => s.writeBit v a i (o.run s.voices[v].rlo (s.readBit v a i)))

/-- RISE and FALL (R342). -/
def State.edgeOp (s : State) (v : VoiceId) (op : BitVec 8) (o : Bool → Bool → Bool) : Res :=
  s.areaOp v op [.e] (fun _ => 3) (fun _ a i s =>
    let r := s.voices[v].rlo
    (s.setRlo v (o r (s.readBit v a i))).writeBit v a i r)

/-- BR.AND to BR.XORN (R339). -/
def State.branchOp (s : State) (v : VoiceId) (op : BitVec 8) (o : BrOp) : Res :=
  match s.fetchOp v op with
  | none => .next s
  | some _ =>
    let x := s.voices[v]
    if x.stack.length = 8 then .next (s.voiceFault v 4 x.pc)
    else .next (s.charge v 2 (fun s => (s.setVoice v (fun x => { x with stack := (x.rlo, o) :: x.stack })).onward v))

/-- GOTO, GOTOT, GOTOF (R340): `take` says when the jump is taken. -/
def State.jumpOp (s : State) (v : VoiceId) (op : BitVec 8) (take : Bool → Bool) : Res :=
  match s.fetchOp v op with
  | none => .next s
  | some w =>
    let x := s.voices[v]
    let goal := (idxField w).toNat
    if x.prog.code.length ≤ goal then .next (s.voiceFault v 3 x.pc)
    else if take x.rlo then .next (s.charge v 3 (fun s => s.arrive v goal))
    else .next (s.charge v 1 (fun s => s.onward v))

/-- WGET to WXOR (R341). -/
def State.wordOp (s : State) (v : VoiceId) (op : BitVec 8) (o : WordOp) : Res :=
  s.areaOp v op wordAreas areaCycles (fun _ a i s => s.setWacc v (o.run s.voices[v].wacc (s.readWord v a i)))

/-- WEQ to WSLT (R341). -/
def State.cmpOp (s : State) (v : VoiceId) (op : BitVec 8) (o : CmpOp) : Res :=
  s.areaOp v op wordAreas areaCycles (fun _ a i s => s.setRlo v (o.run s.voices[v].wacc (s.readWord v a i)))

/-- TON to TCLR (R344). -/
def State.softOp (s : State) (v : VoiceId) (op : BitVec 8) (o : TimOp) : Res :=
  s.areaOp v op [.t] (fun _ => 6) (fun _ _ i s => s.setSoft v i (o.run s.voices[v].rlo))

/-- CUP, CDN, CCLR, CPRE (R347). -/
def State.counterOp (s : State) (v : VoiceId) (op : BitVec 8) (n : Nat) (f : VoiceVol → Counter → Counter) : Res :=
  s.areaOp v op [.c] (fun _ => n) (fun _ _ i s => s.setCounter v i (f s.voices[v]))

/-- FIN (R350). -/
def State.endEntry (s : State) (v : VoiceId) : State :=
  match s.voices[v].entry with
  | some .drop => (s.setVoice v (fun x => { x with dropRan := true })).startEntry v .main s.voices[v].prog.main
  | some .coda => s.codaEnd (s.voices[v].cycles / 96)
  | _ => s.setVoice v VoiceVol.quit

/-- RAISE (R348): nothing in CODA. -/
def State.raiseEv (s : State) (v : VoiceId) (code : BitVec 8) : State :=
  if s.voices[v].rlo && s.voices[v].entry != some .coda then
    s.setVoice v (fun x => { x with raised := addRaised x.raised code })
  else s

/-- SNAP (R349, R381, R398): the first in a CODA writes a record, `us` after the trap at the earliest. -/
def State.snapRec (s : State) (v : VoiceId) (tag : BitVec 8) (us : Nat) (fail : Option (Fin 256)) : State :=
  if s.voices[v].entry = some .coda ∧ s.wd.snapped = false then
    let x := (s.setWd (fun w => { w with snapped := true })).writeRecord tag false us fail
    x.2.setRlo v x.1
  else s.setRlo v false

/-- The engine lets voices run: RUN, or the one measure of a STEP (R303, R327). -/
def State.engRuns (s : State) : Bool := s.engine == .run || (s.engine == .halt && s.eng.stepping)

/-- A voice runs in its slot (R303, R195, R463). -/
def State.voiceRuns (s : State) (v : VoiceId) : Bool :=
  s.inTutti && s.engRuns && !s.eng.noVoices && s.c.voices[v].state == .run

/-- The refresh (R303, R305, R307, R315, R316); `err`: the uncorrectable word that the slot will meet. -/
def State.refresh (s : State) (v : VoiceId) (err : Option MemHit) : State :=
  let now := s.clk.ticks
  let x := s.voices[v]
  let drop := x.dropDue && x.prog.drop.isSome
  let words := s.sysWords v drop
  let i := s.inputImage v
  let b := s.bayImage v
  let wall := now - x.lastTick
  let s := s.setVRun v (fun r => { r with t := r.t.map (fun t => t.refresh wall x.runTicks) })
  s.setVoice v (fun x =>
    { x with i := i, b := b, s := words, memErr := err, qw := dropEdges s.c.voices[v].q, lastTick := now, runTicks := 0, first := false
             resumed := false, dropRan := false, faulted := false, broken := false, raised := [], cycles := 0, spent := false })

/-- A slot starts: the refresh, then DROP when it is due, then MAIN (R303, R167). -/
def State.slotStart (s : State) (v : VoiceId) (err : Option MemHit) : State :=
  let due := s.voices[v].dropDue
  let s := (s.refresh v err).setVoice v (fun x => { x with dropDue := false })
  let s := s.setEng (fun e => { e with slot := some v, ran := true })
  let p := s.voices[v].prog
  match (if due then p.drop else none) with
  | some pc => s.startEntry v .drop pc
  | none => s.startEntry v .main p.main

/-- USEREV of a slot (R348), to the voice's own context. -/
def State.postRaised (s : State) (v : VoiceId) : State :=
  (s.voices[v].raised.foldl (fun s r => s.postTo (voiceCtx v) 0x9001 r.code.toNat (r.more.toNat + 256 * v.val)) s).setVoice
    v (fun x => { x with raised := [] })

/-- The voice whose slot follows (R21). -/
def slotAfter (v : VoiceId) : Option VoiceId :=
  if v = voiceSYS then some 0 else if h : v.val < 3 then some ⟨v.val + 1, by omega⟩ else none

/-- The slot is over, and the next one follows; the end of T3 brings a halt that is due (R21, R327, R328). -/
def slotOver (e : Engine) (v : VoiceId) : Engine :=
  { e with slot := none, ran := false, next := slotAfter v
           haltDue := e.haltDue || ((slotAfter v).isNone && (e.haltReq || e.brkHit || e.stepping)) }

/-- The latch at the slot end (R22, R330, R348, R383); nothing where the voice has not run. -/
def State.slotEnd (s : State) (v : VoiceId) : State :=
  let s := if s.voices[v].active then s.voiceFault v 5 s.voices[v].pc else s
  let x := s.voices[v]
  let ran := s.eng.ran
  let s := s.setEng (fun e => slotOver e v)
  if ran = false then s
  else if x.broken then s.setVoice v (fun x => { x with broken := false, raised := [], edgesOff := true })
  else if x.faulted then
    (s.setVRun v (fun r => { r with q := x.prog.safe })).setVoice v (fun x => { x with faulted := false, raised := [] })
  else
    ((s.setVRun v (fun r => { r with q := x.qw })).setVoice v (fun x => { x with edgesOff := false })).postRaised v

/-- RUN applies (Table RE-7, R318, R331). -/
def State.voiceRunCmd (s : State) (v : VoiceId) : State :=
  let r := s.c.voices[v]
  if r.state = .stop ∨ r.state = .fault then
    let old := s.nv.active.img.voices[v]
    let x := s.voices[v]
    let s := s.setVRun v (fun r => { (x.restore.foldl (fun r a => r.restore old a) r) with state := .run })
    let p := if x.reload then s.activeProgram v else x.prog
    s.setVoice v (fun x => { x with prog := p, reload := false, restore := [], first := true })
  else s

/-- STOP applies (Table RE-7). -/
def State.voiceStopCmd (s : State) (v : VoiceId) : State :=
  if s.c.voices[v].state = .run ∨ s.c.voices[v].state = .fault then s.setVRun v (fun r => { r with state := .stop }) else s

/-- The commands written since the voice's last slot apply (R317, R318), and a passed install's STOP (R325). An install
asks for the port: the reads of the image and the write of its word (R262). -/
def State.applyVcmd (s : State) (v : VoiceId) : State :=
  let x := s.voices[v]
  let s := s.setVoice v (fun y => { y with cmdRun := false, cmdStop := false, cmdInst := none, toStop := false })
  let s := if x.toStop then
      s.setVRun v (fun r => { r with state := .stop
                                     depoch := match s.nv.activeInst v with | some i => i.2.iepoch | none => r.depoch })
    else s
  let s := if x.cmdStop then s.voiceStopCmd v else if x.cmdRun then s.voiceRunCmd v else s
  match x.cmdInst with
  | some c =>
    if s.c.voices[v].state = .run then s
    else (s.setVoice v (fun y => { y with instBusy := true, instCtx := c })).setNv (fun n =>
      { n with port := n.port.ask (.install v) (imgLen n.mem (progBase v (n.stagedArea v)) / 2 + 2) })
  | none => s

/-- Every voice in RUN starts its next slot with FIRST (R318, R319). -/
def State.allFirst (s : State) : State := { s with voices := s.voices.map VoiceVol.setFirst }

/-- The ENGCTL commands written since the last SYS slot apply (R319). An install of voice SYS keeps the engine in
STOP (R323). -/
def State.applyEngine (s : State) : State :=
  let e := s.eng
  let s := s.setEng (fun e => { e with cmdRun := false, cmdStop := false })
  if e.cmdStop then s.setC (fun c => { c with engStop := true })
  else if e.cmdRun && s.c.engStop && !s.c.guard && !s.voices[voiceSYS].instBusy then
    (s.setC (fun c => { c with engStop := false })).allFirst
  else s

/-- The commands that take effect at the start of a voice's slot (R317, R319). -/
def State.slotCmds (s : State) (v : VoiceId) : State := (if v = voiceSYS then s.applyEngine else s).applyVcmd v

/-- A context may command a voice (R302, R317). -/
def mayVoice (c : CtxId) (v : VoiceId) : Bool := isSys c || c == voiceCtx v

/-- VCMD (Table RE-7, R323); `ofs` is the register offset of the write. -/
def State.vcmd (s : State) (c : CtxId) (v : VoiceId) (code : BitVec 3) (ofs : Nat) : State :=
  let st := s.c.voices[v].state
  let busy := s.voices[v].instBusy
  let ok := mayVoice c v &&
    (code == 0 || code == 2 || (code == 1 && st != .empty && !busy) || (code == 3 && st != .run && !busy))
  s.ctxWrite c ofs ok (fun s =>
    s.setVoice v (fun x =>
      if code = 1 then { x with cmdRun := true } else if code = 2 then { x with cmdStop := true }
      else if code = 3 then { x with cmdInst := some c } else x))

/-- The checks of R324 on the staged image at `base`: the step that fails and its word index. The flag
decides an image that reaches beyond its area, of which step 2 has no outcome that the spec states. -/
def installCheck (m : Memory) (base : Nat) (v : VoiceId) (badWord : Option Nat) (open_ : Bool) : Option (Nat × Nat) :=
  let w := imgWord m base
  let len := (w 1).toNat
  let klen := (w 5).toNat
  let sys := v == voiceSYS
  let fits := decide (4 * imgLen m base ≤ progSize v)
  let lens : Option (Nat × Nat) :=
    if len = 0 ∨ progLimit v < len then some (3, 1) else if 1024 < klen then some (3, 5) else none
  match badWord with
  | some i => if i ≠ 0 ∧ w 0 ≠ 0x00010000 then some (1, 0) else some (2, i)
  | none =>
    if w 0 ≠ 0x00010000 then some (1, 0)
    else if fits = false then (if open_ then some (2, 7) else lens)
    else if imgCrc m base ≠ w 7 then some (2, 7)
    else match lens with
    | some x => some x
    | none =>
      let entry (x : BitVec 32) : Bool := match entryOf x with | some i => decide (i < len) | none => true
      if len ≤ (w 2).toNat then some (4, 2)
      else if entry (w 3) = false then some (4, 3)
      else if entry (w 4) = false ∨ (sys = false ∧ w 4 ≠ 0x000FFFFF) then some (4, 4)
      else match (List.range len).find? (fun i => !installOk (w (8 + i)) len klen sys) with
      | some i => some (5, 8 + i)
      | none => (safeFails (loadProgram m base).safe sys).map (fun i => (6, 8 + len + ceilDiv klen 2 + i))

/-- The install commit (R325, R369). -/
def State.installCommit (s : State) (v : VoiceId) : State :=
  let area := s.nv.stagedArea v
  let old := s.nv.activeInst v
  let slot : Fin 2 := match old with | some x => 1 - x.1 | none => 0
  let ep : BitVec 32 := match old with | some x => x.2.iepoch + 1 | none => 1
  let clr := s.c.voices[v].clrdata
  let word : InstWord := { area := area, clr := clr, iepoch := ep }
  let s := s.setNv (fun n => { n with inst := upd n.inst v (fun x => x.set slot (instLine v word)) })
  let s := if clr then s.setVRun v VoiceRun.clear else s
  let p := s.activeProgram v
  s.setVoice v (fun x => { x with prog := p, toStop := true })

end Sys2Proof.Machine
end

