-- ==== Sys2Proof/Machine/PowerOps.lean ====
section
/-! DEFINITION. The feeders, the entry into HOLDOVER, the keeper's sources, the reserve battery and the
DORMANT entry (chapters 16, 17). -/

namespace Sys2Proof

/-- The feeder's gate conducts, so that its limits act (R403, R410). -/
def Feeder.gated (f : Feeder) : Bool := f.state == .ramp || (f.state == .on && !f.revblk)

/-- One piece of a tick passes at a feeder (R402, R403, R404, R407). -/
def Feeder.see (f : Feeder) (o : FeedObs) : Feeder :=
  let ramp := f.state == .ramp
  if !ramp && f.state != .on then f
  else
    let f := { f with lim := f.use.limited o }
    let f := if ramp then { f with rampUs := f.rampUs + o.us, lowUs := if o.vds < 300 then f.lowUs + o.us else 0 } else f
    if f.lim then { f with plt := f.plt + o.us, pltGap := 0, clean := 0 }
    else
      let gap := f.pltGap + o.us
      { f with pltGap := gap, plt := if 100 ≤ gap then 0 else f.plt, clean := if ramp then 0 else f.clean + o.us }
def Feeder.sees (f : Feeder) (l : List FeedObs) : Feeder := l.foldl Feeder.see f

/-- A tick beat passes at a feeder, and at the keeper (Table KP-2, R413, R423). -/
def Feeder.tick (f : Feeder) : Feeder := 
  { f with retryT := if f.state = .retry then f.retryT + 1 else f.retryT, onT := if f.state = .on then f.onT + 1 else 0 }
def Keeper.tick (k : Keeper) : Keeper :=
  { k with qualT := Vector.ofFn fun i => if k.qual[i] then k.qualT[i] + 1 else 0
           shortT := if k.batst = .shorted then k.shortT + 1 else 0 }

/-- The timers of a gate that is off. -/
def Feeder.calm (f : Feeder) : Feeder := { f with plt := 0, pltGap := 0, clean := 0, rampUs := 0, lowUs := 0, lim := false }

/-- A failed attempt (R406). -/
def Feeder.fail (f : Feeder) (cause : BitVec 2) : Feeder :=
  let n := min 3 (f.att + 1)
  { f.calm with att := n, cause := cause, revblk := false, retryT := 0, state := if n < 3 then .retry else .lockout }

/-- OFF by the loss of the input or by EN = 0: the counter stays (R407, R409). -/
def Feeder.off (f : Feeder) : Feeder := { f.calm with state := .off, revblk := false }

/-- The moves that need no event of their own (Table KP-2). A lost input moves the feeder to OFF from every state (R407,
R409). -/
def Feeder.settle (f : Feeder) (en permit : Bool) : Feeder :=
  match f.state with
  | .off => if en && f.inqual && permit then { f with state := .wait } else f
  | .wait | .ramp | .on => if en && f.inqual && permit then f else f.off
  | .retry | .lockout => if f.inqual then f else f.off

/-- Codes of Table KP-3. -/
def srcCode (i : Fin 4) : BitVec 3 := BitVec.ofNat 3 (i.val + 1)
def codeSrc (c : BitVec 3) : Option (Fin 4) := if h : 1 ≤ c.toNat ∧ c.toNat < 5 then some ⟨c.toNat - 1, by omega⟩ else none

/-- KHOLD in ms, and BATOC in mA (Table KP-4). -/
def kholdMs (k : BitVec 2) : Nat := if k = 0 then 500 else if k = 1 then 1000 else if k = 2 then 2000 else 5000
def batocMa (k : BitVec 2) : Nat := if k = 0 then 10000 else if k = 1 then 20000 else if k = 2 then 30000 else 45000

/-- The sources of the priority list, in order (R413). -/
def priList (k : Vector (BitVec 3) 4) : List (Fin 4) := (k.toList.takeWhile (· != 0)).filterMap codeSrc

/-- VCLOSE in mV (R421). -/
def vclose (g : BaySet) : Nat := max 8000 (g.cells.toNat * (if g.prof = 3 then 3000 else 900))

/-- The battery switch opens (R460). -/
def Keeper.openSw (k : Keeper) : Keeper := { k with batsw := false, bscont := false }
/-- It closes at detection, which records PRESENT (R422, R460). -/
def Keeper.closeSw (k : Keeper) : Keeper :=
  { k with batsw := true, bscont := true, batst := .present, step := .idle, preTicks := 0 }

/-- Steps 3 to 5 of detection, from two thermistor reads and BAT (R422). -/
def Keeper.detect (k : Keeper) (g : BaySet) (a b bat : Nat) : Keeper :=
  let k := { k with probed := true, bat := bat, openRun := 0, shutRun := 0 }
  if ntcOpen a && ntcOpen b then { k with batst := .missing, step := .idle }
  else if vclose g ≤ bat then k.closeSw
  else { k with step := .probing }

/-- The end of the probe (step 5 of R422). -/
def Keeper.probeEnd (k : Keeper) (bat : Nat) : Keeper :=
  if bat < 200 then { k.openSw with batst := .shorted, step := .idle, bat := bat }
  else { k with batst := .low, step := .charging, bat := bat, preTicks := 0 }

/-- Safe trickle (R420): the battery target and the voltage limit; `bat` is the battery's voltage at the start. -/
def Keeper.safeTrickle (k : Keeper) : Keeper :=
  { k with trickle := true, target := 100, vlimit := min 18000 (max 10000 (k.bat + 500)) }

end Sys2Proof

namespace Sys2Proof.Machine

/-- Post an event to SYS and to every tenant. -/
def State.postAll (s : State) (code a0 a1 : Nat) : State := s.postAlso (List.finRange 4) code a0 a1

/-- A feeder is in ON. -/
def State.feederOn (s : State) : Bool := (List.finRange 2).any (fun i => s.feeders[i].state == .on)

/-- A link source that enters HOLDOVER signals a Fast Role Swap to a partner in OPERATE that is armed
(R533, R552). -/
def State.borrowSignal (s : State) : State :=
  let p := s.link.port
  let q := s.ports[p]
  if s.c.link == .agreed && s.link.active && s.act.link.linkauto && q.state == .source && s.link.statIn && !s.link.peerHold &&
      s.link.peerFrs && s.act.ports[p].frstxen && (match q.pd.swap with | some w => w.step == .asked | none => true) && q.pd.contract.isSome then
    s.setPd p (fun d => { d with swap := some { kind := .fr, step := .signal, mine := false, toSrc := false }
                                 exch := .swap, ngWait := false, ownEx := false, await := false })
  else s

/-- Entry into HOLDOVER (R434): a budget fall, shed as in R248. -/
def State.holdEnter (s : State) : State :=
  if s.inTutti && s.mode.mode == .operate && !s.feederOn then
    let s := s.setMode (fun m => { m with
      mode := .holdover, holdTick := s.clk.ticks, doorTick := s.clk.ticks, exitDue := false, reqDue := false
      holdDue := false, holdUsed := false })
    (s.debugFall.repool.postAll 0x600B 1 0).borrowSignal
  else s

/-- What follows a change of a feeder: its own moves, the budget, the mode, the count of R436. The button reset
holds the gates off (R427). -/
def State.feedersAct (s : State) : State :=
  let s := { s with feeders := Vector.ofFn fun i => s.feeders[i].settle s.act.power.feed[i].en (s.inTutti && s.latch.breset != BtnReset.cut) }
  let s := if s.feederOn then s else s.setMode (fun m => { m with exitDue := false })
  if s.inTutti then s.repool.holdEnter else s

/-- A failed attempt with its events (R406). -/
def State.feederFail (s : State) (f : FeederId) (cause : BitVec 2) : State :=
  let s := (s.setFeeder f (fun x => x.fail cause)).post 0x6001 f.val cause.toNat
  let s := if s.feeders[f].state = .lockout then s.post 0x6002 f.val 0 else s
  s.feedersAct

/-- A keeper source is qualified (R439). -/
def State.keeperSource (s : State) : Bool := (List.finRange 4).any (fun i => s.keeper.qual[i])

/-- The voltage in mV to which the keeper regulates VKEEP: VNODE while the battery switch is open (R417), its reset value
in safe trickle (R420). Otherwise the battery is on the node, and its charge sets the voltage. -/
def State.nodeTarget (s : State) : Option Nat :=
  if s.keeper.batsw then none else if s.keeper.trickle then some 13000 else some (s.act.power.vnode.toNat * 100)

/-- The keeper's input current limit in mA for a source (R415): KILIMF for a tap; for a port KILIMP, what its contract
allows, and 60 W; 2.5 W divided by the VBUS measured in a transition window (R521), of 5 V where none has been. -/
def State.keepLimit (s : State) (i : Fin 4) : Nat :=
  let g := s.act.power
  if h : i.val < 2 then g.kilimf.toNat * 50
  else
    let q := s.ports[(⟨i.val - 2, by omega⟩ : PortId)]
    if q.pd.exch = .snkTrans then min (g.kilimp.toNat * 50) (2500000 / (if q.vbus = 0 then 5000 else q.vbus))
    else match q.pd.contract with
      | some c => min (g.kilimp.toNat * 50) (min c.ma (60000000 / c.mv))
      | none => 0

/-- The first qualified source of the list (R413). -/
def State.keeperPick (s : State) : Option (Fin 4) := (priList s.act.power.kpri).find? (fun i => s.keeper.qual[i])

/-- The source in use, with one that is about to close. -/
def State.keeperNow (s : State) : BitVec 3 := match s.keeper.pendSrc with | some c => c | none => s.keeper.src

/-- The switch in use opens; the next closes after the break, or the node is on the battery (R413, R414). The current to
come back to is that of the source in use, if one is. -/
def State.keeperMove (s : State) (o : Option (Fin 4)) : State :=
  match o with
  | some i => s.setKeeper (fun k => { k with
      wasOut := if k.pendSrc.isSome then k.wasOut else if k.src = 0 then 0 else k.iout
      iout := 0, src := 0, pendSrc := some (srcCode i), buck := false })
  | none =>
    (s.setKeeper (fun k => { k with src := 0, pendSrc := none, buck := false, iout := 0, wasOut := 0 })).post 0x6003 0 0

/-- Detection starts (steps 1 and 2 of R422). -/
def State.detectStart (s : State) : State :=
  if s.keeperPick.isNone then s.setKeeper (fun k => { k with batst := .present, step := .idle })
  else s.setKeeper (fun k => { k.openSw with step := .opened, shortT := 0 })

/-- The keeper's charge state is discarded (R424). -/
def State.keeperDiscard (s : State) : State := { s.setC (fun c => { c with keep := {} }) with keep := {} }

/-- The source in use is lost during step 5 of R422: the latch closes the switch, detection is abandoned (Table
KP-5). -/
def Keeper.probeLost (k : Keeper) : Keeper :=
  if k.step = .probing ∨ k.step = .charging then { k with batsw := true, batst := .unknown, step := .idle, preTicks := 0 } else k

/-- A source has qualified or been lost, or the list has changed: the keeper's choice (R413), detection on the
first (R423). Nothing in DORMANT and in reset. -/
def State.keeperAct (s : State) : State :=
  if s.powered = false ∨ s.latch.breset = .cut then s else
  let cur := codeSrc s.keeperNow
  let lost := match cur with | some i => !s.keeper.qual[i] | none => false
  let s := if lost then s.setKeeper Keeper.probeLost else s
  let ok := match cur with | some i => s.keeper.qual[i] && (priList s.act.power.kpri).contains i | none => false
  let s := if ok || (cur.isNone && s.keeperPick.isNone) then s else s.keeperMove s.keeperPick
  if s.keeper.batst == .present && !s.keeper.probed && s.keeperPick.isSome && (s.running || s.start.recalled) then s.detectStart else s

/-- A pre-sleep calibration is abandoned (Table CK-4). -/
def State.dropPresleep (s : State) : State :=
  s.setClk (fun k => { k with calib := if k.calib = .presleep then .none else k.calib })

/-- DORMANT entry is given up (R441): DORMABORT with the wake cause; the trigger is used. -/
def State.dormAbort (s : State) (wake : Nat) : State :=
  if s.mode.dorm = .none ∨ s.start.isDorm = true then s
  else ((s.setMode (fun m => { m with dorm := .none, calOk := false })).dropPresleep).post 0x600E wake 0

/-- A refusal of DORMANT (R440). -/
def State.dormRefuse (s : State) (cause : BitVec 3) : State :=
  ((s.setMode (fun m => { m with dorm := .none, calOk := false, dormref := cause
                                 holdRef := if m.trigger = 2 then cause else m.holdRef
                                 lowRef := if m.trigger = 3 then cause else m.lowRef })).dropPresleep).post 0x600D cause.toNat 0

/-- The cause of a refusal has gone (R440). -/
def State.refusalGone (s : State) (cause : BitVec 3) : Bool :=
  if cause = 1 then !s.start.lockdef || s.act.mode.dormlk
  else if cause = 2 then s.inTutti
  else if cause = 3 then !s.keeperSource
  else if cause = 4 then !s.clk.lffail
  else false

/-- HOLDDORM has passed since the entry into HOLDOVER and since the last door edge (R439). -/
def State.holdPassed (s : State) : Bool :=
  let g := s.act.mode.holddorm.toNat
  g != 0 && decide (g * 60000 ≤ s.clk.ticks - max s.mode.holdTick s.mode.doorTick)

/-- A keeper source qualifies before the root stops (R440). -/
def State.dormSource (s : State) : State :=
  if s.mode.dorm = .none ∨ s.start.isDorm = true then s else s.dormRefuse 3

/-- VKEEP has stayed below the VDORM level for 1 s (R439). -/
def State.lowPassed (s : State) : Bool := match s.mode.lowFrom with | some k => decide (1000 ≤ s.clk.ticks - k) | none => false

/-- The evaluation of the DORMANT triggers at a measure beat in HOLDOVER (R439, R440, R441); before Tutti one that
holds is refused (Table ST-7). A request is refused when a keeper source has qualified since. A SHIP entry that is accepted
goes first (Table PM-7). -/
def State.dormTriggers (s : State) : State :=
  let req := s.mode.reqDue && !s.latch.shipDue && !s.latch.ship
  let s := s.setMode (fun m => { m with
    reqDue := false, holdDue := s.inTutti && m.mode == .holdover && s.holdPassed, lowDue := s.lowPassed })
  let s := s.setMode (fun m => { m with
    holdUsed := m.holdUsed && m.holdDue && !s.refusalGone m.holdRef
    lowUsed := m.lowUsed && m.lowDue && !s.refusalGone m.lowRef })
  let m := s.mode
  if m.dorm ≠ .none ∨ (s.inTutti = true ∧ m.mode ≠ .holdover) then s
  else
    let auto := !s.keeperSource && !s.latch.shipDue && !s.latch.ship
    let t : BitVec 2 := if req then 1
      else if auto && m.holdDue && !m.holdUsed then 2
      else if auto && m.lowDue && !m.lowUsed then 3 else 0
    if t = 0 then s
    else
      let s := s.setMode (fun m => { m with holdUsed := m.holdUsed || t == 2, lowUsed := m.lowUsed || t == 3, trigger := t })
      let s := s.setMode (fun m => { m with holdRef := if t = 2 then 0 else m.holdRef, lowRef := if t = 3 then 0 else m.lowRef })
      if s.inTutti = false then s.dormRefuse 2
      else if s.keeperSource then s.dormRefuse 3
      else if s.start.lockdef && !s.act.mode.dormlk then s.dormRefuse 1
      else (s.setMode (fun m => { m with dorm := .calib })).postAll 0x600C t.toNat 0

end Sys2Proof.Machine
end

