-- ==== Sys2Proof/Machine/PortOps.lean ====
section
/-! DEFINITION. The Type-C ports: terminations, attach and detach, moisture, recovery; and the Cabinet Link's
shared operations: entry, loss, settings, split (chapters 19, 21). -/

namespace Sys2Proof

/-- Both FETs, VCONN and the SBU multiplexer are off (R475). -/
def Port.fetsOff (q : Port) : Port :=
  { q with srcFet := false, snkFet := false, vconn := false, sbu := false, dis := false, vset := 5000 }

/-- The termination of a role (R474). -/
def roleTerm (g : PortSet) (r : PRole) : CcTerm := match r with | .snk => .rd | .src => .rp g.rplvl

/-- ErrorRecovery (R475): no termination. PD state and attach facts end. -/
def Port.recover (q : Port) : Port :=
  { q.fetsOff with state := .recovery, term := .open_, orient := 0, partrp := 0, ra := false, leaving := false
                   wetmask := 0, pd := {} }

/-- Entry to UNATTACHED (R474, R475, R493): the scan, when one is due, comes before the toggling. The scan of the first
entry after a start is due only where MOISTEN is on at that entry. -/
def Port.unattach (q : Port) (g : PortSet) (scan : Bool) : Port :=
  let role : PRole := if g.role = 2 then .src else .snk
  let q := { q.fetsOff with orient := 0, partrp := 0, ra := false, leaving := false, wetmask := 0, accign := false
                            tried := false, locked := false, vconnOff := false, pd := {} }
  if g.role = 0 then { q with state := .disabled, term := .open_, scanning := false }
  else
    let sc := g.moisten && (scan || q.scanDue)
    { q with state := .unattached, role := role, term := if sc then .open_ else roleTerm g role, scanning := sc
             scanDue := false, useRole := g.role, useTry := g.trysnk }

/-- No full scan keeps an unattached port from toggling and attaching, and the pins are no accessory's (R490, R493). A sink
FET that R481 keeps closed puts off the scan that is due (log entry 104). -/
def Port.free (q : Port) : Bool :=
  q.started && q.state == .unattached && !q.scanning && (!q.scanDue || q.snkFet) && !q.accign && q.term != .open_

/-- A full scan that is due begins, in UNATTACHED (R493). -/
def Port.scanBegin (q : Port) (g : PortSet) : Port :=
  if q.scanDue && q.started && q.state == .unattached && !q.scanning && !q.snkFet then
    (if g.moisten then { q with scanDue := false, scanning := true, term := .open_ } else { q with scanDue := false })
  else q

/-- The pins found wet (R492, R494), in kΩ. -/
def wetPins (l : Vector (Option Nat) 4) : BitVec 4 :=
  (List.finRange 4).foldl (fun m i =>
    match l[i] with | some k => if k < 500 then m ||| (1#4 <<< i.val) else m | none => m) 0

/-- Every measured pin is above 2.0 MΩ. -/
def allDry (l : Vector (Option Nat) 4) : Bool := l.all (fun o => match o with | some k => decide (2000 < k) | none => true)

/-- The pins that a pre-VBUS check measures: not a CC pin that shows Rd or Ra (R491). -/
def checkPins (orient : BitVec 2) (ra : Bool) (l : Vector (Option Nat) 4) : Vector (Option Nat) 4 :=
  Vector.ofFn fun i => if (i = 0 ∧ (orient = 1 ∨ ra = true)) ∨ (i = 1 ∧ (orient = 2 ∨ ra = true)) then none else l[i]

/-- The current that R485 allows, in mA: the contract's, the higher of two in a transition (R520), or that of Rp. A source by
Fast Role Swap that does not present its Rp yet: that of the Rp it will present, 3.0 A (R535, DEDUCED, log entry 125). -/
def Port.allowed (q : Port) : Nat :=
  if q.state = .sink then 3000 else
  let rp := match q.term with | .rp l => if l = 2 then 1500 else if l = 3 then 3000 else Config.rpDefaultMa | _ => Config.rpDefaultMa
  let now := match q.pd.contract with | some c => c.ma | none => rp
  match q.pd.exch, q.pd.next with | .srcTrans, some c => max now c.ma | _, _ => now

/-- A swap whose Accept has been acknowledged, which suspends R488, R489 and R523 until it ends (R529). -/
def PdSt.suspended (d : PdSt) : Bool :=
  match d.swap with
  | some w => w.step != .asked && w.step != .accepted && w.step != .signal && w.step != .discharge && w.step != .frsWait
  | none => false

/-- A swap sequence runs: a swap that is suspended, or a Fast Role Swap from its signal on (R488, R523, Table SW-3). -/
def PdSt.inSwap (d : PdSt) : Bool :=
  match d.swap with | some w => w.step != .asked && w.step != .accepted | none => false

/-- The overvoltage threshold of a sinking port in mV, at the low end of its tolerance (R489, R521, R529). -/
def Port.ovpMv (q : Port) : Nat :=
  let nom := match q.pd.contract with | some c => c.mv | none => 5000
  let nom := match q.pd.exch, q.pd.next with | .snkTrans, some c => max nom c.mv | _, _ => nom
  if q.pd.suspended then 23000 else nom * 112 / 100

/-- LEAKn, saturating at 5000 (R491). A pin that was not measured keeps its value. -/
def Port.leaks (q : Port) (l : Vector (Option Nat) 4) : Port :=
  { q with leak := Vector.ofFn fun i => match l[i] with | some k => min 5000 k | none => q.leak[i] }

/-- Entry to WET (R494). -/
def Port.wet (q : Port) (mask : BitVec 4) : Port :=
  { q.fetsOff with state := .wet, term := .open_, wetmask := mask, orient := 0, partrp := 0, scanning := false, pd := {} }

/-- The advertised PDOs (R513). `pmax` in W; voltages in mV, currents in mA. -/
def advertise (g : PortSet) (pmax : Nat) : List Pdo :=
  let one (mv : Nat) (i : BitVec 6) : List Pdo :=
    let ma := min (i.toNat * 50) (pmax * 1000000 / mv / 50 * 50)
    if i = 0 ∨ (mv ≠ 5000 ∧ ma < 500) then [] else [{ mv := mv, ma := ma }]
  one 5000 g.srci5 ++ one 9000 g.srci9 ++ one 15000 g.srci15 ++ one 20000 g.srci20

/-- The sink's PDOs (R518). -/
def sinkPdos (g : PortSet) : List Pdo :=
  (([(0, 5000), (1, 9000), (2, 15000), (3, 20000)] : List (Nat × Nat)).filter (fun x => g.snkmask.getLsbD x.1)).map
    (fun x => { mv := x.2, ma := g.snkimax.toNat * 50 })

/-- The bit of SNKMASK for a voltage. -/
def maskBit (mv : Nat) : Option Nat :=
  if mv = 5000 then some 0 else if mv = 9000 then some 1 else if mv = 15000 then some 2
  else if mv = 20000 then some 3 else none

/-- The choice of a sink (R517): position from 1, voltage and current; the higher voltage on a tie. -/
def choosePdo (g : PortSet) (l : List Pdo) : Option (Nat × Pdo) :=
  (l.zipIdx).foldl (fun best x =>
    let c : Pdo := { x.1 with ma := min x.1.ma (g.snkimax.toNat * 50) }
    let ok := x.1.fixed && (match maskBit x.1.mv with | some k => g.snkmask.getLsbD k | none => false)
    if ok = false then best
    else match best with
      | none => some (x.2 + 1, c)
      | some b =>
        if b.2.mv * b.2.ma < c.mv * c.ma ∨ (b.2.mv * b.2.ma = c.mv * c.ma ∧ b.2.mv < c.mv) then some (x.2 + 1, c) else some b) none

/-- TYPE of a peer message, and its payload (Table SW-7). A value of several bytes goes high byte first, as the frame's
CRC does (DEDUCED, log entry 103). -/
def PeerMsg.typ : PeerMsg → Byte
  | .hello _ => 1 | .status .. => 2 | .split .. => 3 | .ack .. => 4 | .time _ => 5
def PeerMsg.payload : PeerMsg → List Byte
  | .hello h => [h.ver, h.rev, BitVec.ofNat 8 (h.armed.toNat + 2 * h.sharen.toNat + 4 * (h.timepri != 0).toNat)] ++ wordBytes h.lepoch ++
      natBytes 2 h.shcap ++ natBytes 2 h.shmin ++ [h.timepri.setWidth 8]
  | .status m d l e => [BitVec.ofNat 8 m.toNat] ++ natBytes 2 d ++ natBytes 2 l ++ wordBytes e
  | .split a b => natBytes 2 a ++ natBytes 2 b
  | .ack q r => [q, r]
  | .time ms => natBytes 8 ms.toNat

/-- A frame of the peer channel (R543): the CRC covers TYPE to the payload. -/
def peerFrame (seq : BitVec 8) (m : PeerMsg) : List Byte :=
  0x7E :: withCrc ([m.typ, seq, BitVec.ofNat 8 m.payload.length] ++ m.payload)

/-- The settings of LINKCTL that a HELLO carries (R548). -/
def LinkSet.inHello (g : LinkSet) : Bool × BitVec 4 × BitVec 15 × BitVec 15 := (g.sharen, g.timepri, g.shcap, g.shmin)

/-- The leader's split (R549): its own part and the follower's. -/
def splitOf (shcap sl sf dl df : Nat) : Nat × Nat :=
  let fl := min sl dl
  let ff := min sf df
  let lf := if dl + df ≤ shcap then df + (shcap - dl - df) / 2
            else ff + (shcap - fl - ff) * (df - ff) / (dl + df - fl - ff)
  (shcap - lf, lf)

end Sys2Proof

namespace Sys2Proof.Machine

/-- The settings of a port in force. -/
def State.pset (s : State) (p : PortId) : PortSet := s.act.ports[p]

/-- The port's keeper source is lost when it stops sinking or its contract ends (Table KP-3). -/
def State.portUnfeed (s : State) (p : PortId) : State :=
  let i : Fin 4 := ⟨p.val + 2, by omega⟩
  if s.keeper.qual[i] then (s.setKeeper (fun k => { k with qual := k.qual.set i false })).keeperAct else s

/-- Put a peer frame on the channel (R543). -/
def State.linkSend (s : State) (m : PeerMsg) : State :=
  s.setLink (fun l => { l with seq := l.seq + 1, out := some (peerFrame l.seq m) })

/-- The hub's demand (R549). -/
def State.demand (s : State) : Nat :=
  let op := s.bays.foldl (fun n v => n + if v.wb.opened then v.wb.req else 0) 0
  min s.act.wb.cabbud.toNat (min s.feedbud (s.act.wb.reserve.toNat + s.heldAll + op))

/-- Codes of the port's capture sources (Table TC-1): 0 attach or detach, 1 Fast Role Swap signal, 2 Hard Reset. -/
def portSrc (p : PortId) (k : Nat) : BitVec 8 := BitVec.ofNat 8 (0x10 + 8 * p.val + k)

/-- Armed for Fast Role Swap (R532). -/
def State.frsArmed (s : State) (p : PortId) : Bool :=
  let q := s.ports[p]
  (s.pset p).frsrxen && q.state == .sink && q.pd.contract.isSome && q.vset == 5000

/-- The HELLO of the hub (Table SW-7). -/
def State.myHello (s : State) : Hello :=
  let g := s.act.link
  { ver := 1, rev := 0xB0, armed := s.frsArmed s.link.port, sharen := g.sharen, timepri := g.timepri
    lepoch := s.link.lepoch, shcap := g.shcap.toNat, shmin := g.shmin.toNat }

/-- Send it, and wait for its ACK. -/
def State.sendHello (s : State) : State :=
  let m := PeerMsg.hello s.myHello
  let q := s.link.seq
  (s.linkSend m).setLink (fun l => { l with hello := some { seq := q, msg := m }, mineAck := false })

/-- A link begins: Enter Mode has been ACKed (R542, R545). The hub holds one link at a time (R7). -/
def State.linkEnter (s : State) (p : PortId) : State :=
  if s.link.active && s.link.port != p then s else
  let s := s.setLink (fun l =>
    { active := true, port := p, leader := s.ports[p].dfp, lepoch := l.lepoch, seq := l.seq, forgot := l.forgot
      heard := s.clk.ticks, statusAt := s.clk.ticks, timeAt := s.clk.ticks })
  let s := (s.setC (fun c => { c with link := .entered })).setPort p (fun q => { q with sbu := true })
  s.sendHello.repool

/-- The channel of a port closes (R542). -/
def State.linkClose (s : State) : State :=
  (s.setPort s.link.port (fun q => { q with sbu := false })).setLink (fun l =>
    { port := l.port, leader := l.leader, partver := l.partver, partrev := l.partrev, lepoch := l.lepoch, seq := l.seq })

/-- The link is lost (R544, R545, R550), with its cause. -/
def State.linkLoss (s : State) (p : PortId) (cause : Nat) : State :=
  if s.link.active && s.link.port == p then
    let s := s.linkClose.setC (fun c => { c with link := .lost })
    s.repool.post 0x7030 p.val cause
  else s

/-- The port leaves SOURCE or SINK: its keeper source and its link end. -/
def State.portLeave (s : State) (p : PortId) : State := (s.portUnfeed p).linkLoss p 4

/-- RECOVERY (R475). -/
def State.portRecover (s : State) (p : PortId) : State := (s.portLeave p).setPort p Port.recover

/-- UNATTACHED. -/
def State.portUnattach (s : State) (p : PortId) (scan : Bool) : State :=
  (s.portLeave p).setPort p (fun q => q.unattach (s.pset p) scan)

/-- The attach process starts at the end of Recall (R481): the port presents its own Rd, and the sink FET stays closed
while Rp and VBUS are seen. The scan of this first entry to UNATTACHED is due: it begins at the next tick beat, and with
the sink FET kept closed it waits for the next entry (R481 over R493, DEDUCED, log entry 104). The removal of the
terminations at Tacet runs on (R456). -/
def State.portStart (s : State) (p : PortId) (rpSeen : Bool) : State :=
  s.setPort p (fun q =>
    let g := s.pset p
    let fet := q.snkFet && rpSeen && g.role.getLsbD 0
    let q := { ({ q with scanDue := false }.unattach g false) with started := true, snkFet := fet, scanned := false, scanDue := g.moisten }
    let q := if fet then { q with term := .rd } else q
    if s.start.ccOff then { q with term := .open_ } else q)

/-- VCONN as R487 gives it, with VCONNEN as of the attach (R496). -/
def State.vconnRule (s : State) (p : PortId) : State :=
  s.setPort p (fun q => { q with vconn := q.useVconn && q.ra && !q.vconnOff })

/-- Entry to SOURCE (R482, R498, R528). -/
def State.enterSource (s : State) (p : PortId) (orient : BitVec 2) (ra : Bool) : State :=
  let g := s.pset p
  (((s.captureFrom (portSrc p 0)).setPort p) (fun q =>
    { q with state := .source, role := .src, term := .rp g.rplvl, orient := orient, ra := ra, vconnOff := false
             useVconn := g.vconnen, srcFet := true, snkFet := false, vset := 5000, dfp := true, partrp := 0, pd := { on := g.pden } })).vconnRule p

/-- Entry to SINK (R488, R498, R528). -/
def State.enterSink (s : State) (p : PortId) (orient rp : BitVec 2) : State :=
  let g := s.pset p
  (((s.captureFrom (portSrc p 0)).setPort p) (fun q =>
    { q with state := .sink, role := .snk, term := .rd, orient := orient, partrp := rp, snkFet := true, srcFet := false
             useVconn := g.vconnen, dfp := false, pd := { on := g.pden } })).post 0x7001 p.val (orient.toNat + 4 * rp.toNat)

/-- A written port setting acts at once where R496 and R495 say so; ROLE = 0 holds a port that is not attached in DISABLED
at once (DEDUCED, log entry 105). -/
def State.portReact (s : State) (p : PortId) (old : PortSet) : State :=
  let g := s.pset p
  let q := s.ports[p]
  let out := (q.state == .source && g.role == 1) || (q.state == .sink && g.role == 2)
  if !q.started then s
  else if g.role = 0 then
    (if q.state = .disabled ∨ q.state = .recovery then s
    else if q.state = .source ∨ q.state = .sink then s.portRecover p
    else (s.portLeave p).setPort p (fun q => q.unattach g false))
  else if old.role = 0 ∧ q.locked = false ∧ q.state = .disabled then s.portUnattach p false
  else if out then s.portRecover p
  else if g.moisten = false ∧ q.state = .wet then s.portUnattach p false
  else if g.moisten = false ∧ q.scanning = true then
    s.setPort p (fun q => { q with scanning := false, term := if s.start.ccOff then .open_ else roleTerm g q.role })
  else if q.state = .source ∧ q.pd.contract.isNone = true ∧ old.rplvl ≠ g.rplvl then
    s.setPort p (fun q => { q with term := .rp g.rplvl })
  else s

/-- The version and the share settings allow an agreement (R546). -/
def State.linkFits (s : State) (x : Hello) : Bool :=
  let g := s.act.link
  if g.sharen || x.sharen then
    g.sharen && x.sharen && x.shcap == g.shcap.toNat && decide (x.shmin + g.shmin.toNat ≤ g.shcap.toNat)
  else true

/-- The time master (R551): the higher TIMEPRI, the leader on a tie, and never a side with 0. -/
def State.timeMaster (s : State) (x : Hello) : Bool :=
  let m := s.act.link.timepri
  m != 0 && (decide (x.timepri < m) || (x.timepri == m && s.link.leader))

/-- The hub is the time follower: agreed, and its peer is the master (R551). -/
def State.follower (s : State) : Bool :=
  s.c.link == .agreed && !s.link.master && (match s.link.peer with | some x => x.timepri != 0 | none => false)

/-- The hub's part in force (R550). -/
def State.setPart (s : State) (n : Nat) : State := (s.setLink (fun l => { l with mine := n, haveSplit := true })).repool

/-- The leader computes the split and sends it when it has moved (R549, R550). A fall is applied before the
SPLIT is sent, a rise when its ACK arrives. -/
def State.leadSplit (s : State) (first : Bool) : State :=
  match s.link.peer with
  | none => s
  | some x =>
    let g := s.act.link
    if !(s.link.leader && s.c.link == .agreed && g.sharen) then s
    else
      let n := splitOf g.shcap.toNat g.shmin.toNat x.shmin s.demand s.link.peerDemand
      let moved := first || decide (32 ≤ absDiff n.1 s.link.ll ∨ 32 ≤ absDiff n.2 s.link.lf)
      if !moved || s.link.split.isSome then s
      else
        let now := if s.link.haveSplit then s.link.mine else g.shfall.toNat
        let s := s.setPart (min now n.1)
        let q := s.link.seq
        let m := PeerMsg.split n.1 n.2
        (s.linkSend m).setLink (fun l =>
          { l with ll := n.1, lf := n.2, split := some { seq := q, msg := m }, riseDue := if now < n.1 then some n.1 else none })

/-- Agreement is tried when a HELLO has come or has been ACKed (R546, R547). -/
def State.linkAgree (s : State) : State :=
  match s.link.peer with
  | none => s
  | some x =>
    if !(s.link.active && s.link.mineAck) then s
    else if s.linkFits x then
      if s.c.link = .agreed then s.setLink (fun l => { l with master := s.timeMaster x })
      else
        let s := s.setC (fun c => { c with link := .agreed })
        (s.setLink (fun l => { l with master := s.timeMaster x, haveSplit := false })).leadSplit true
    else
      let s := (s.setC (fun c => { c with link := .entered })).setLink (fun l => { l with master := false, haveSplit := false })
      s.repool.post 0x7032 s.link.port.val 0

/-- A field that a HELLO carries has changed (R548). -/
def State.helloChanged (s : State) (old : LinkSet) : State :=
  if old.inHello = s.act.link.inHello then s
  else
    let s := s.setLink (fun l => { l with lepoch := l.lepoch + 1 })
    if s.link.active then
      ((s.setC (fun c => { c with link := .entered })).setLink (fun l => { l with haveSplit := false, master := false })).sendHello
    else s

/-- New link settings act, and a budget that they lower is shed at once (R32, R248, R548, R554). -/
def State.linkChanged (s : State) (old : LinkSet) : State := (s.helloChanged old).repool

end Sys2Proof.Machine
end

