-- ==== Sys2Proof/Machine/PdOps.lean ====
section
/-! DEFINITION. Power Delivery messaging: sending, GoodCRC, what a failed or acknowledged message leads to,
exchanges, contracts, resets, and the swap sequences (chapters 20, 21). -/

namespace Sys2Proof

/-- Message types of the PD specification, for the argument of PDNOSUP (PRESUMED: the spec names the
messages only). -/
def PdMsg.typ : PdMsg → Nat
  | .goodCrc => 1 | .sourceCaps .. => 1 | .sinkCaps .. => 4 | .request .. => 2 | .accept => 3 | .reject => 4
  | .psRdy => 6 | .softReset => 13 | .notSupported => 16 | .prSwap => 10 | .frSwap => 19 | .vconnSwap => 11
  | .vdm .. | .vdmAck .. | .vdmNak .. => 15
  | .chunkReq _ => 0
  | .info m _ | .chunk m _ _ => (match m with
      | .sourceExt => 1 | .sinkExt _ => 15 | .status .. => 2 | .manufacturer => 7 | .revision => 12)
  | .hardReset | .bistCarrier => 0

/-- Counters of one SOP (R504). -/
def PdSt.setSop (d : PdSt) (i : Fin 3) (f : SopCtr → SopCtr) : PdSt := { d with sops := upd d.sops i f }

/-- Put a message on the wire (R504, R505). -/
def PdSt.send (d : PdSt) (sop : Fin 3) (m : PdMsg) : PdSt :=
  { d with out := some { sop := sop, id := d.sops[sop].tx, msg := m }, await := true, sent := 1 }

/-- What a Hard Reset leaves of the PD state (R504, R526). -/
def PdSt.hardReset (d : PdSt) (phase : HrPhase) : PdSt :=
  { on := d.on, hrcnt := d.hrcnt, partrev := d.partrev, seen := d.seen, revBad := d.revBad, noPd := d.noPd
    hadOne := d.hadOne, capsTries := d.capsTries, hr := phase }

/-- The contract stands (R520, R522). -/
def PdSt.form (d : PdSt) (c : Contract) : PdSt :=
  { d with contract := some c, next := none, hadOne := true, hrcnt := 0, mismatch := d.reqMism, move := .none
           exch := .idle, ownEx := false, discDue := true }

/-- Codes of a swap in SWFAIL and SWDONE (Table HR-6). -/
def SwapKind.code : SwapKind → Nat
  | .pr => 1 | .vconn => 2 | .fr => 3

/-- VID and PID of the hub (Table PD-2), low byte first. -/
def idBytes : List Byte := [0x7C, 0xD1, 0x00, 0x96]

/-- The data of an answer (Table PD-2). The places of its fields are those of the PD specification's data blocks (PRESUMED,
log entry 107). -/
def InfoMsg.data : InfoMsg → List Byte
  | .sourceExt => idBytes ++ [0, 0, 0, 0, 0x01, 0xB0] ++ List.replicate 15 0
  | .sinkExt pdp => idBytes ++ List.replicate 15 0 ++ [BitVec.ofNat 8 pdp, BitVec.ofNat 8 pdp, 0, 0, 0]
  | .status temp ext bat ocp ovp =>
    [BitVec.ofNat 8 temp, BitVec.ofNat 8 (2 * ext.toNat + 8 * bat.toNat), 0, BitVec.ofNat 8 (2 * ocp.toNat + 8 * ovp.toNat), 0, 0, 0]
  | .manufacturer => idBytes ++ [0x44, 0x65, 0x6C, 0x75, 0x6E, 0x79, 0x6F, 0x6E, 0x20, 0x50, 0x4C, 0x58, 0x39, 0x36, 0x30, 0x30, 0]
  | .revision => [0, 0, 0x18, 0x31]

/-- A chunk of an extended answer: at most 26 bytes (R512). -/
def InfoMsg.part (m : InfoMsg) (n : Nat) : List Byte := (m.data.drop (26 * n)).take 26

/-- Chunks of an extended answer. -/
def InfoMsg.chunks (m : InfoMsg) : Nat := (m.data.length + 25) / 26

/-- The answer on the wire, or its chunk 0. -/
def InfoMsg.msg (m : InfoMsg) : PdMsg := .info m (m.part 0)

/-- An ACK and a NAK of a structured VDM (R539). -/
def VdmCmd.ack (c : VdmCmd) : PdMsg := .vdmAck c (c.header 1) c.vdos
def VdmCmd.nak (c : VdmCmd) : PdMsg := .vdmNak c (c.header 2)
def VdmCmd.ask (c : VdmCmd) : PdMsg := .vdm c (c.header 0)

/-- VBUS lies within 5 % of a voltage. -/
def within5 (v goal : Nat) : Bool := decide (absDiff v goal * 20 ≤ goal)

/-- A window in which a stray message leads to Hard Reset (R524). -/
def PdSt.window (d : PdSt) : Bool := d.exch == .srcTrans || d.exch == .snkTrans

/-- A swap whose Accept has been given runs on to its end or to a limit that is missed (R529, R535). -/
def PdSt.runningSwap (d : PdSt) : Option SwapRun :=
  match d.swap with | some w => if w.step = .asked ∨ w.step = .accepted then none else some w | none => none

/-- The exchange that a Soft_Reset leaves: a swap that runs on, but for its closing contract. -/
def PdSt.swapExch (d : PdSt) : Exch :=
  match d.runningSwap with | some w => if w.step = .contract then .idle else .swap | none => .idle

/-- From the Accept of a swap to its last PS_RDY, both with it (R506, DEDUCED, log entry 126). -/
def PdSt.midSwap (d : PdSt) : Bool :=
  match d.swap with
  | some w => w.step == .accepted || w.step == .oldOff || w.step == .oldReady || w.step == .newOn || w.step == .newReady
  | none => false

/-- The new source of a Fast Role Swap, before the Accept of its FR_Swap. -/
def PdSt.takingOver (d : PdSt) : Bool :=
  match d.swap with | some w => w.kind == .fr && w.toSrc && (w.step == .discharge || w.step == .frsWait) | none => false

/-- The hub's swap request is out, or held (R536). -/
def PdSt.asking (d : PdSt) : Bool := match d.swap with | some w => w.mine && w.step == .asked && w.kind != .fr | none => false

/-- An ACK of Enter Mode on this port waits for its GoodCRC. -/
def Port.entering (q : Port) : Bool :=
  q.pd.await && (match q.pd.out with | some o => (match o.msg with | .vdmAck (.enter ..) .. => true | _ => false) | none => false)

/-- The answer shows what discovery needs (R540): an ACK with VID 0xD17C, SVID 0xD17C, a Mode VDO. -/
def VdmCmd.good (c : VdmCmd) (r : VdmRes) : Bool :=
  match r with
  | .ack l =>
    (match c with
    | .identity => (match l with | v :: _ => v.setWidth 16 == 0xD17C#16 | [] => false)
    | .svids => l.any (fun v => v.setWidth 16 == 0xD17C#16 || v.extractLsb' 16 16 == 0xD17C#16)
    | .modes _ => !l.isEmpty
    | .enter .. | .exit .. | .other .. => true)
  | .nak | .busy => false

/-- The chunk follows on the ones received. -/
def PdSt.follows (d : PdSt) (x : ExtPart) : Bool :=
  match d.chunkIn with | some (n, l) => n == x.size && l.length == 26 * x.num | none => false

/-- The swaps that SYS asks of a port (R531). -/
def Port.askPr (q : Port) : OwnEx := .prSwap (q.state == .sink)
def Port.askVconn (q : Port) : OwnEx := .vconnSwap (!q.vconn)

end Sys2Proof

namespace Sys2Proof.Machine

/-- The advertised set of a port now (R513). -/
def State.advert (s : State) (p : PortId) : List Pdo :=
  let g := s.pset p
  advertise g (if s.mode.mode = .holdover then g.holdpmax.toNat else g.srcpmax.toNat)

/-- ROLE includes a role. -/
def State.roleHas (s : State) (p : PortId) (bit : Nat) : Bool := (s.pset p).role.getLsbD bit
def State.drp (s : State) (p : PortId) : Bool := (s.pset p).role == 3

def State.pdSend (s : State) (p : PortId) (m : PdMsg) : State := s.setPd p (fun d => d.send 0 m)
def State.setExch (s : State) (p : PortId) (e : Exch) : State := s.setPd p (fun d => { d with exch := e })

/-- Source_Capabilities (R513). -/
def State.capsMsg (s : State) (p : PortId) : PdMsg := .sourceCaps (s.advert p) (s.drp p) (s.pset p).uncons

/-- Send them; a Request is expected (Table PD-3). -/
def State.sendCaps (s : State) (p : PortId) : State :=
  (s.pdSend p (s.capsMsg p)).setPd p (fun d =>
    { d with exch := .capsWait, offered := s.advert p, offFlags := (s.drp p, (s.pset p).uncons), capsDue := false })

/-- The advertised set, with the flags of its first PDO, is no longer the one that was sent (R513, R515). -/
def State.capsChanged (s : State) (p : PortId) : Bool :=
  let d := s.ports[p].pd
  s.advert p != d.offered || (s.drp p, (s.pset p).uncons) != d.offFlags

/-- Sink_Capabilities (R518, R535). -/
def State.sinkMsg (s : State) (p : PortId) : PdMsg :=
  let g := s.pset p
  .sinkCaps (sinkPdos g) (s.drp p) (g.snkmask.getLsbD 2 || g.snkmask.getLsbD 3) g.uncons g.frsreq

/-- Send the Request of R517 on the partner's latest PDOs, as chosen when they came (R527). -/
def State.sendRequest (s : State) (p : PortId) : State :=
  match s.ports[p].pd.choice with
  | some (n, x) =>
    (s.pdSend p (.request n x.ma (decide (x.mv < 15000)) true)).setPd p (fun d =>
      { d with exch := .reqWait, next := some { mv := x.mv, ma := x.ma }, reqMism := decide (x.mv < 15000), waitDue := false })
  | none => s

/-- The first message of an exchange that the hub starts. -/
def State.sendOwn (s : State) (p : PortId) (x : OwnEx) : State :=
  let src := s.ports[p].state == .source
  let s := s.setPd p (fun d => { d with own := d.own.erase x, ownEx := true, ngWait := false, chunkIn := none })
  let ask (k : SwapKind) (toSrc : Bool) (m : PdMsg) : State :=
    (s.pdSend p m).setPd p (fun d =>
      { d with exch := .swap, swap := some { kind := k, step := .asked, mine := true, toSrc := toSrc } })
  match x with
  | .sourceCaps => s.sendCaps p
  | .request => s.sendRequest p
  | .prSwap _ | .borrow => ask .pr (!src) .prSwap
  | .vconnSwap _ => ask .vconn (!s.ports[p].vconn) .vconnSwap
  | .vdm c => (s.pdSend p c.ask).setExch p (.vdmWait c)
  | .exitMode => (s.pdSend p (VdmCmd.exit 0xD17C 1).ask).setExch p (.vdmWait (.exit 0xD17C 1))

/-- Borrow-back is called for (R552): ten STATUS frames in a row, one every 100 ms, have shown HOLDOVER. -/
def State.borrows (s : State) (p : PortId) : Bool :=
  let q := s.ports[p]
  s.c.link == .agreed && s.link.active && s.link.port == p && s.act.link.linkauto && q.state == .sink &&
    s.mode.mode == .operate && decide (10 ≤ s.link.holdRun) && q.pd.contract.isSome

/-- Discovery may run (R540). -/
def State.discovers (s : State) (p : PortId) : Bool :=
  let q := s.ports[p]
  q.pd.contract.isSome && q.dfp && (s.pset p).linken && !s.link.active && !s.link.forgot

/-- The reason for an exchange that is held still stands (R510, R536): capabilities that are due or have changed, a Wait that
is still to be followed, a role that is still to change, a mode still to be entered; an Exit Mode is always sent. -/
def State.stands (s : State) (p : PortId) (x : OwnEx) : Bool :=
  let q := s.ports[p]
  let d := q.pd
  match x with
  | .sourceCaps => q.state == .source && !d.revBad && (d.capsDue || (d.contract.isSome && s.capsChanged p))
  | .request => q.state == .sink && d.waitDue
  | .prSwap toSrc => d.contract.isSome && toSrc == (q.state == .sink)
  | .vconnSwap toSrc => d.contract.isSome && toSrc == !q.vconn
  | .borrow => s.borrows p
  | .vdm _ => s.discovers p
  | .exitMode => true

/-- The oldest of the exchanges that are held and still stand starts: at once without a contract, after SinkTxNG as a
source, at SinkTxOk as a sink (R508, R509, R510). -/
def State.launch (s : State) (p : PortId) : State :=
  let l := s.ports[p].pd.own.filter (s.stands p)
  let s := s.setPd p (fun d => { d with own := l })
  match l with
  | [] => s
  | x :: _ =>
    if s.ports[p].pd.contract.isSome = false then s.sendOwn p x
    else if s.ports[p].state = .source then
      (s.setPd p (fun d => { d with rpNg := true, ngWait := true })).setPort p (fun q => { q with term := .rp 2 })
    else s

/-- Start an exchange, or hold it behind the ones that wait (R508, R509, R510). -/
def State.startOwn (s : State) (p : PortId) (x : OwnEx) : State :=
  let d := s.ports[p].pd
  let s := s.setPd p (fun d => { d with own := if d.own.contains x then d.own else d.own ++ [x] })
  if d.exch ≠ .idle ∨ d.await = true then s else s.launch p

/-- The hub's own exchange is over, or given up before its first message: Rp is SinkTxOk again (R508, R510). -/
def State.dropOwn (s : State) (p : PortId) : State :=
  let d := s.ports[p].pd
  let s := s.setPd p (fun d => { d with exch := .idle, ownEx := false, ngWait := false, rpNg := false, await := false, chunkIn := none })
  if d.rpNg && d.contract.isSome && s.ports[p].state == .source then s.setPort p (fun q => { q with term := .rp 3 }) else s

/-- The exchange has ended: Rp is SinkTxOk again, and a held exchange starts (R508, R510). -/
def State.endExch (s : State) (p : PortId) : State :=
  let d := s.ports[p].pd
  let s := s.setPd p (fun d => { d with exch := .idle, ownEx := false, rpNg := false, await := false, chunkOut := none })
  let s := if s.ports[p].state = .source ∧ d.contract.isSome = true then s.setPort p (fun q => { q with term := .rp 3 }) else s
  s.launch p

/-- RECOVERY out of a swap (R535). -/
def State.swapFail (s : State) (p : PortId) (k : SwapKind) : State := (s.portRecover p).post 0x7022 p.val k.code

/-- The steps of a Hard Reset at the port (R526, R538), which is a capture source (Table TC-1). -/
def State.hardResetAct (s : State) (p : PortId) : State :=
  let s := s.captureFrom (portSrc p 2)
  if s.ports[p].pd.swap.isSome then s.portRecover p
  else
    let src := s.ports[p].state == .source
    let s := s.portUnfeed p
    s.setPort p (fun q => { q with
      pd := q.pd.hardReset (if src then .srcWait else .snkWait)
      term := if src then .rp (s.pset p).rplvl else q.term })

/-- A Hard Reset is due (R525). -/
def State.sendHard (s : State) (p : PortId) : State :=
  let d := s.ports[p].pd
  if 2 ≤ d.hrcnt then
    (if s.ports[p].state = .sink ∧ d.seen = false then
      (s.setPd p (fun d => { d with noPd := true, exch := .idle })).post 0x7013 p.val 0
    else (s.portRecover p).post 0x7017 p.val 3)
  else
    let s := (s.setPd p (fun d => { d with hrcnt := d.hrcnt + 1, await := false })).hardResetAct p
    (s.setPd p (fun d => { d with out := some { msg := .hardReset } })).post 0x7017 p.val 1

/-- A Soft_Reset is due (R524). -/
def State.sendSoft (s : State) (p : PortId) : State :=
  let s := s.setPd p (fun d => { d.setSop 0 (fun _ => {}) with exch := .softWait, swap := d.runningSwap, ownEx := false, ngWait := false })
  s.pdSend p .softReset

/-- A message that does not belong to the exchange in progress (R524). -/
def State.stray (s : State) (p : PortId) : State := if s.ports[p].pd.window then s.sendHard p else s.sendSoft p

/-- The contract stands, with its event (Table PD-3, R508); a swap that waited for it is done (Table SW-2). -/
def State.formContract (s : State) (p : PortId) : State :=
  match s.ports[p].pd.next with
  | none => s
  | some c =>
    let src := s.ports[p].state == .source
    let s := s.setPd p (fun d => d.form c)
    let s := s.post 0x7010 (p.val + if src then 256 else 0) (c.mv / 100 % 256 + 256 * (c.ma / 50 % 256))
    let s := match s.ports[p].pd.swap with
      | some w =>
        if w.step = SwapStep.contract then
          let s := s.setPd p (fun d => { d with swap := none })
          if w.kind = SwapKind.pr then s.post 0x7020 p.val 1 else s
        else s
      | none => s
    s.endExch p

/-- A swap moves to a step. -/
def State.swapStep (s : State) (p : PortId) (k : SwapStep) : State :=
  s.setPd p (fun d => { d with swap := d.swap.map (fun w => { w with step := k }) })

/-- The old source has become the sink, and the new one the source (R528). The old contract has ended. -/
def State.turnSink (s : State) (p : PortId) : State :=
  s.setPort p (fun q => { q with state := .sink, role := .snk, term := .rd, vset := 5000, pd := { q.pd with contract := none, next := none } })
def State.turnSource (s : State) (p : PortId) (lvl : BitVec 2) : State :=
  (s.portUnfeed p).setPort p (fun q =>
    { q with state := .source, role := .src, term := .rp lvl, pd := { q.pd with contract := none, next := none } })

/-- The swap's roles have changed; the new source sends Source_Capabilities (step 6, step 9). -/
def State.swapTurned (s : State) (p : PortId) (fr : Bool) : State :=
  let s := (s.swapStep p .contract).setPd p (fun d => { d with exch := .idle, ownEx := false, capsTries := 0 })
  if fr then s.post 0x7021 p.val 0 else s

/-- A VCONN_Swap is done. -/
def State.vconnDone (s : State) (p : PortId) : State :=
  ((s.setPd p (fun d => { d with swap := none })).post 0x7020 p.val 2).endExch p

/-- The Accept of a swap has been given and acknowledged on either side (Tables SW-2 to SW-4). VCONN that R487 keeps off
until the next attach does not come on, and no PS_RDY says that it has (DEDUCED, log entry 127). -/
def State.swapAgreed (s : State) (p : PortId) (w : SwapRun) : State :=
  match w.kind, w.toSrc with
  | .pr, false => s.swapStep p .oldOff
  | .pr, true => s.swapStep p .oldReady
  | .vconn, true =>
    if s.ports[p].vconnOff then s.swapStep p .newOn
    else ((s.setPort p (fun q => { q with vconn := true })).pdSend p .psRdy).swapStep p .newReady
  | .vconn, false => s.swapStep p .newReady
  | .fr, true => s.swapStep p .oldReady
  | .fr, false =>
    let s := (s.setPort p (fun q => { q with term := .rd })).swapStep p .oldOff
    if s.ports[p].dis then s else (s.pdSend p .psRdy).swapStep p .oldReady

/-- The GoodCRC of a PS_RDY of a swap has come. -/
def State.swapRdyAcked (s : State) (p : PortId) (w : SwapRun) : State :=
  match w.kind with
  | .vconn => s.vconnDone p
  | k =>
    if w.toSrc then s.swapTurned p (k == .fr)
    else (s.turnSink p).swapStep p .newReady

/-- A PS_RDY of a swap has been received, with VBUS in mV. -/
def State.swapRdyIn (s : State) (p : PortId) (w : SwapRun) (vbus : Nat) : State :=
  match w.kind, w.toSrc, w.step with
  | .vconn, false, .newReady => (s.setPort p (fun q => { q with vconn := false })).vconnDone p
  | .pr, true, .oldReady =>
    ((s.turnSource p (s.pset p).rplvl).setPort p (fun q => { q with vset := 5000, snkFet := false, srcFet := true })).swapStep p .newOn
  | .fr, true, .oldReady => ((s.turnSource p 3).pdSend p .psRdy).swapStep p .newReady
  | k, false, .newReady =>
    if 4750 < vbus then
      (s.setPort p (fun q => { q with snkFet := true })).swapTurned p (k == .fr)
    else s.swapFail p k
  | _, _, _ => s.stray p

/-- Source_Capabilities follow a Soft_Reset (R524). -/
def State.capsAgain (s : State) (p : PortId) : State :=
  if s.ports[p].state = .source ∧ s.ports[p].pd.revBad = false then
    s.setPd p (fun d => { d with capsDue := true, own := .sourceCaps :: d.own.erase .sourceCaps })
  else s

/-- An Accept of the hub, for a Request or for a Soft_Reset, has been acknowledged. -/
def State.acceptAcked (s : State) (p : PortId) : State :=
  if s.ports[p].pd.exch = .srcTrans then s.setPd p (fun d => { d with move := .waiting }) else (s.capsAgain p).endExch p

/-- The discovery that follows an ACK (R540). A mode entered while the other port's link has become active is left again
(R7). -/
def State.discNext (s : State) (p : PortId) (c : VdmCmd) : State :=
  match c with
  | .identity => s.startOwn p (.vdm .svids)
  | .svids => s.startOwn p (.vdm (.modes 0xD17C))
  | .modes _ => s.startOwn p (.vdm (.enter 0xD17C 1))
  | .enter .. => if s.link.active then s.startOwn p .exitMode else s.linkEnter p
  | _ => s

/-- A message has been acknowledged (R504, R505): what follows it. -/
def State.acked (s : State) (p : PortId) (m : PdMsg) : State :=
  let d := s.ports[p].pd
  match m with
  | .accept =>
    (match d.swap with
    | some w => if w.step = .accepted then s.swapAgreed p w else if w.step = .contract then s.acceptAcked p else s
    | none => s.acceptAcked p)
  | .psRdy =>
    (match d.swap with
    | some w => if w.step = .contract then s.formContract p else s.swapRdyAcked p w
    | none => s.formContract p)
  | .vdmAck (.enter ..) _ _ => (s.linkEnter p).endExch p
  | .vdmAck (.exit ..) _ _ => (s.linkLoss p 3).endExch p
  | .sourceCaps .. => if d.exch = .capsWait then s else s.endExch p
  | .reject =>
    if d.asking then s.setExch p .swap
    else if d.exch = .capsWait ∨ d.exch = .reqWait ∨ d.window = true then s
    else s.endExch p
  | .request .. | .softReset | .prSwap | .frSwap | .vconnSwap | .vdm .. | .chunkReq _ => s
  | _ => s.endExch p

/-- A message has failed three times (R506). -/
def State.sendFailed (s : State) (p : PortId) (m : PdMsg) : State :=
  let d := s.ports[p].pd
  let s := s.setPd p (fun d => { d with await := false })
  match m with
  | .sourceCaps .. =>
    if d.hadOne then s.sendSoft p
    else
      let n := d.capsTries + 1
      let s := s.setPd p (fun d => { d with capsTries := n, exch := .idle, noPd := decide (50 ≤ n) })
      if n = 50 then s.post 0x7013 p.val 0 else s
  | .softReset => s.sendHard p
  | _ => if d.window || d.midSwap then s.sendHard p else s.sendSoft p

/-- An acknowledgement, and a failure, on any SOP*. On SOP' and SOP'' the hub only answers Soft_Reset with Accept, and
nothing follows; a failure leads to Soft_Reset on that SOP*, and then to Hard Reset (R506). -/
def State.ackedOn (s : State) (p : PortId) (o : PdOut) : State := if o.sop = 0 then s.acked p o.msg else s
def State.failedOn (s : State) (p : PortId) (o : PdOut) : State :=
  if o.sop = 0 then s.sendFailed p o.msg
  else if s.ports[p].vconn = false then s.setPd p (fun d => { d with await := false })
  else if o.msg = .softReset then s.sendHard p
  else s.setPd p (fun d => (d.setSop o.sop (fun _ => {})).send o.sop .softReset)

/-- A packet is received (R498, R501, R503, R504, R507, R499). `soft`: a Soft_Reset, which is always acted on. -/
def State.pdRecv (s : State) (p : PortId) (m : PdHdr) (soft : Bool) (f : State → State) : State :=
  let q := s.ports[p]
  let d := q.pd
  if !(d.on && (q.state == .source || q.state == .sink) && !q.leaving && (m.sop == 0 || q.vconn) && d.bist != .carrier) then s
  else
    let dup := d.sops[m.sop].rx == some m.id && !soft
    let first := m.sop == 0 && !d.seen
    let s := s.setPd p (fun d => { (d.setSop m.sop (fun c => { c with rx := some m.id })) with
      gcrc := some (m.sop, m.id), seen := d.seen || m.sop == 0 })
    let s := if first then
        let s := s.setPd p (fun d => { d with partrev := m.rev, revBad := m.rev != 2 })
        if m.rev = 2 then s else s.post 0x7011 p.val m.rev.toNat
      else s
    if dup ∨ d.bist = .testData then s else f s

/-- A message of the partner that starts an exchange: the hub's own is ended or waits, with Rp at SinkTxOk again (R508,
R510); in a transition window, in a swap and while the partner's own exchange runs it is a stray message (R524). -/
def State.partnerStarts (s : State) (p : PortId) (f : State → State) : State :=
  let d := s.ports[p].pd
  let busy := match d.swap with | some w => w.step != .asked && w.step != .contract | none => false
  if d.window || busy || (d.exch == .reqWait && !d.ownEx) then s.stray p
  else
    f ((s.dropOwn p).setPd p (fun d =>
      { d with swap := match d.swap with | some w => if w.step = .asked then none else some w | none => none }))

/-- A simple answer (Table PD-1). On SOP' and SOP'' such messages are ignored. -/
def State.answerWith (s : State) (p : PortId) (m : PdHdr) (x : State → PdMsg) : State :=
  s.pdRecv p m false (fun s => if m.sop = 0 then s.partnerStarts p (fun s => s.pdSend p (x s)) else s)

/-- An extended answer, sent in chunks (R512). -/
def State.answerInfo (s : State) (p : PortId) (m : PdHdr) (x : State → InfoMsg) : State :=
  s.pdRecv p m false (fun s => if m.sop = 0 then s.partnerStarts p (fun s =>
    (s.pdSend p (x s).msg).setPd p (fun d => { d with chunkOut := some (x s, 1) })) else s)

/-- A swap request of the partner (R530, R536, Table SW-1, Table SW-5). Without a contract it is rejected, whatever exchange
runs. It is abandoned where the hub's FR_Swap crosses it. -/
def State.swapAsked (s : State) (p : PortId) (m : PdHdr) (kind : SwapKind) (toSrc ok : Bool) : State :=
  s.pdRecv p m false (fun s =>
    if m.sop ≠ 0 then s
    else
      let d := s.ports[p].pd
      if d.contract.isSome = false then s.pdSend p .reject
      else if d.takingOver then s
      else if d.asking && s.ports[p].state == .source then s.pdSend p .reject
      else
        let again : List OwnEx := if d.asking then (match d.swap with
            | some w => (if w.kind = .pr then .prSwap w.toSrc else .vconnSwap w.toSrc) :: d.own | none => d.own) else d.own
        s.partnerStarts p (fun s =>
          let s := s.setPd p (fun d => { d with own := again })
          if ok && d.contract.isSome && (match s.ports[p].pd.swap with | none => true | some _ => false) then
            (s.pdSend p .accept).setPd p (fun d =>
              { d with exch := .swap, swap := some { kind := kind, step := .accepted, mine := false, toSrc := toSrc } })
          else s.pdSend p .reject))

end Sys2Proof.Machine
end

