-- ==== Sys2Proof/Machine/PowerExec.lean ====
section
/-! DEFINITION. The commands of the feeders, the keeper, the reserve battery, the button latch, SHIP, and
the DORMANT triggers (chapters 16, 17). -/

namespace Sys2Proof.Machine

/-- FEED_INPUT_LOST (R409). -/
def execFeedInputLost (f : FeederId) (s : State) : Res :=
  let i : Fin 4 := Fin.castLE (by decide) f
  let s := (s.setFeeder f (fun x => { x with inqual := false })).setKeeper (fun k => { k with qual := k.qual.set i false })
  .next s.feedersAct.keeperAct

/-- FEEDER_RAMP_START (R408): one feeder at a time, FEED_A first. -/
def execFeederRampStart (f : FeederId) (s : State) : Res :=
  let ramping := (List.finRange 2).any (fun i => s.feeders[i].state == .ramp)
  let first := f == 0 || s.feeders[(0 : FeederId)].state != .wait
  .next (if s.feeders[f].state == .wait && !ramping && first then
      s.setFeeder f (fun x => { x.calm with state := .ramp, use := s.act.power.feed[f] }) else s)

/-- FEEDER_RAMP_DONE (R402): VDS has stayed below 0.30 V for 100 µs. `outs`: what the feeder did since the last beat. -/
def execFeederRampDone (f : FeederId) (outs : List FeedObs) (s : State) : Res :=
  .next (if s.feeders[f].state = .ramp ∧ 100 ≤ (s.feeders[f].sees outs).lowUs then (s.setFeeder f (fun x => { x with state := .on, clean := 0, onT := 0 })).feedersAct else s)

/-- FEEDER_RAMP_TIMEOUT (R402): 200 ms without it. -/
def execFeederRampTimeout (f : FeederId) (outs : List FeedObs) (s : State) : Res :=
  let x := s.feeders[f].sees outs
  .next (if x.state = .ramp ∧ 200000 ≤ x.rampUs ∧ x.lowUs < 100 then s.feederFail f 3 else s)

/-- FEEDER_PLT_EXPIRE (R404): PLT has reached its setting. -/
def execFeederPltExpire (f : FeederId) (outs : List FeedObs) (s : State) : Res :=
  let x := s.feeders[f].sees outs
  .next (if x.gated = true ∧ x.use.pltUs ≤ x.plt then s.feederFail f 1 else s)

/-- FEEDER_FAST_TRIP (R405): V_SNS in µV has reached twice VLIM. -/
def execFeederFastTrip (f : FeederId) (vsns : Nat) (s : State) : Res :=
  let x := s.feeders[f]
  .next (if x.gated = true ∧ 2 * x.use.vlimUv ≤ vsns then s.feederFail f 2 else s)

/-- FEEDER_RETRY_END (R406): 1.00 s ± 1 % after the failure. -/
def execFeederRetryEnd (f : FeederId) (s : State) : Res :=
  .next (if s.feeders[f].state = .retry ∧ 990 ≤ s.feeders[f].retryT then (s.setFeeder f (fun x => { x with state := .wait })).feedersAct else s)

/-- FEEDER_COUNTER_CLEAR (R407): ON for 10 s without the limit condition. -/
def execFeederCounterClear (f : FeederId) (outs : List FeedObs) (s : State) : Res :=
  .next (if s.feeders[f].state = .on ∧ 10000000 ≤ (s.feeders[f].sees outs).clean then s.setFeeder f (fun x => { x with att := 0 }) else s)

/-- FEEDER_REVERSE_BLOCK (R410): the feeder stays in ON. -/
def execFeederReverseBlock (f : FeederId) (s : State) : Res :=
  .next (if s.feeders[f].state = .on then s.setFeeder f (fun x => { x with revblk := true }) else s)

/-- FEEDER_REVERSE_CLEAR (R410). -/
def execFeederReverseClear (f : FeederId) (s : State) : Res :=
  .next (if s.feeders[f].state = .on then s.setFeeder f (fun x => { x with revblk := false }) else s)

/-- CLRLO (R407, Table KP-4). -/
def State.clrlo (s : State) (f : FeederId) : State :=
  (s.setFeeder f (fun x => { x with att := 0, state := if x.state = .lockout then .off else x.state })).feedersAct

/-- FEEDCTL_CLRLO (R407). -/
def execFeedctlClrlo (c : CtxId) (f : FeederId) (s : State) : Res :=
  .next (s.sysWrite c (0x60 + 4 * f.val) true (fun s => s.clrlo f))

/-- HOLDOVER_EXIT (R436): a feeder has been in ON for 200 ms; the mode changes at the next measure beat. -/
def execHoldoverExit (f : FeederId) (s : State) : Res :=
  .next (if s.mode.mode = .holdover ∧ s.feeders[f].state = .on ∧ 200 ≤ s.feeders[f].onT then s.setMode (fun m => { m with exitDue := true }) else s)

/-- A port may feed the keeper: it sinks under a contract of 15 V or more with its FET closed (Table KP-3). -/
def State.portFeeds (s : State) (p : PortId) : Bool :=
  let q := s.ports[p]
  q.state == .sink && q.snkFet && (match q.pd.contract with | some c => decide (15000 ≤ c.mv) | none => false)

/-- KEEPER_SOURCE_QUALIFY (R412). -/
def execKeeperSourceQualify (src : Fin 4) (s : State) : Res :=
  let ok := if h : src.val < 2 then s.feeders[(⟨src.val, h⟩ : FeederId)].inqual else s.portFeeds ⟨src.val - 2, by omega⟩
  .next (if ok && !s.keeper.qual[src] then
      (s.setKeeper (fun k => { k with qual := k.qual.set src true })).keeperAct.dormSource else s)

/-- KEEPER_SOURCE_LOST (R413). -/
def execKeeperSourceLost (src : Fin 4) (s : State) : Res :=
  .next ((s.setKeeper (fun k => { k with qual := k.qual.set src false })).keeperAct)

/-- KHOLD_EXPIRE (R413): a source of higher rank has stayed qualified for KHOLD. No second break begins before the
first has completed (Table KP-5). -/
def execKholdExpire (src : Fin 4) (s : State) : Res :=
  let l := priList s.act.power.kpri
  let now := match codeSrc s.keeperNow with | some i => l.idxOf i | none => l.length
  .next (if s.powered && s.latch.breset != .cut && s.keeper.pendSrc.isNone && s.keeper.qual[src] &&
      decide (kholdMs s.act.power.khold ≤ s.keeper.qualT[src]) && l.contains src && decide (l.idxOf src < now) then s.keeperMove (some src) else s)

/-- KEEPER_SWITCH_CLOSE (R414): 20 µs after the old switch has opened. -/
def execKeeperSwitchClose (s : State) : Res :=
  match (if s.latch.breset = .cut ∨ s.powered = false then none else s.keeper.pendSrc) with
  | some c =>
    .next ((s.setKeeper (fun k => { k with src := c, pendSrc := none, buck := !k.hot, iout := if k.hot then 0 else k.wasOut })).post 0x6004 c.toNat 0)
  | none => .next s

/-- BATTERY_DETECTION (R422): the reads of steps 3 and 4, once step 2 has opened the switch. -/
def execBatteryDetection (kntcA kntcB bat : Nat) (s : State) : Res :=
  .next (if s.keeper.step = .opened then s.setKeeper (fun k => k.detect s.act.keep kntcA kntcB bat) else s)

/-- BATTERY_PROBE_END (R422). -/
def execBatteryProbeEnd (bat : Nat) (s : State) : Res :=
  .next (if s.keeper.step = .probing then s.setKeeper (fun k => k.probeEnd bat) else s)

/-- BATTERY_REACH_VCLOSE (R422). -/
def execBatteryReachVclose (s : State) : Res :=
  .next (if s.keeper.step = .probing ∨ s.keeper.step = .charging then s.setKeeper Keeper.closeSw else s)

/-- BATTERY_REDETECT (R423): 60 s in SHORTED, or a thermistor at three beats. -/
def execBatteryRedetect (s : State) : Res :=
  let k := s.keeper
  .next (if s.running && ((k.batst == .shorted && decide (60000 ≤ k.shortT)) || (k.batst == .missing && decide (3 ≤ k.shutRun))) then s.detectStart else s)

/-- BATTERY_OVERCURRENT (R424): a discharge of `ma` has exceeded BATOC for 100 µs. -/
def execBatteryOvercurrent (ma : Nat) (s : State) : Res :=
  .next (if s.powered && s.keeper.batsw && decide (batocMa s.act.power.batoc < ma) then
      ((s.setKeeper (fun k => { k.openSw with batst := .shorted })).keeperDiscard).post 0x6006 0 0 else s)

/-- LATCH_BAT_RISE (R425, R460): the latch powers up. -/
def execLatchBatRise (s : State) : Res :=
  .next (s.setKeeper (fun k => { k with batsw := k.batsw || !s.latch.ship, bscont := false }))

def State.setLatch (s : State) (f : Latch → Latch) : State := { s with latch := f s.latch }

/-- BUTTON_RELEASE (R426), with the press length in units of 10 ms. -/
def execButtonRelease (len : Nat) (s : State) : Res :=
  if s.latch.pressed then
    let s := s.setLatch (fun l => { l with pressed := false, counted := true })
    .next (if s.alive then s.post 0x600A (min 65535 len) 0 else s)
  else .next s

/-- BUTTON_RESET_HOLD (R427): the latch asks the hub to prepare; a SHIP entry under way is given up (Table KP-5). -/
def execButtonResetHold (s : State) : Res :=
  let l := s.latch
  .next (if l.pressed && l.counted && !l.ship && l.breset == .none then
      s.setLatch (fun l => { l with counted := false, breset := .preparing, ready := false, shipDue := false }) else s)

/-- BUTTON_RESET_CUT (R427): the ready signal, or 120 ms. The keeper, the feeders and the switches are held
off and VKEEP is pulled down. -/
def execButtonResetCut (s : State) : Res :=
  if s.latch.breset = .preparing then
    let s := s.setLatch (fun l => { l with breset := .cut })
    let s := s.setKeeper (fun k => { k.openSw with src := 0, pendSrc := none, buck := false, iout := 0 })
    .next (State.feedersAct { s with feeders := s.feeders.map Feeder.off })
  else .next s

/-- BUTTON_RESET_RELEASE (R427): everything is released and the switch closes. -/
def execButtonResetRelease (s : State) : Res :=
  .next (if s.latch.breset = .cut then
      (s.setLatch (fun l => { l with breset := .none, ready := false })).setKeeper (fun k => { k with batsw := true }) else s)

/-- SHIPCTL (R429). `inputUp`: a source input is above 4.0 V. -/
def State.shipWrite (s : State) (c : CtxId) (w : Word) (inputUp : Bool) : State :=
  s.sysWrite c 0x7E (w == 0x5A17 && !inputUp) (fun s => s.setLatch (fun l => { l with shipDue := true }))
def execShipctl (c : CtxId) (w : Word) (inputUp : Bool) (s : State) : Res := .next (s.shipWrite c w inputUp)

/-- SHIP_EXIT (R430): the switch closes; a press that ends SHIP does not count as a hold. -/
def execShipExit (s : State) : Res :=
  .next (if s.latch.ship then
      (s.setLatch (fun l => { l with ship := false, counted := !l.pressed })).setKeeper (fun k => { k with batsw := true }) else s)

/-- KEEPER_HOT (R432). -/
def execKeeperHot (s : State) : Res :=
  .next (if s.powered && !s.keeper.hot then (s.setKeeper (fun k => { k with hot := true, buck := false, iout := 0 })).post 0x6008 0 0 else s)

/-- KEEPER_COOL (R432). -/
def execKeeperCool (s : State) : Res :=
  .next (s.setKeeper (fun k => { k with hot := false, buck := if k.hot then k.src != 0 else k.buck }))

/-- STARTUP_REGULATOR (R457): it charges VKEEP until Tacet begins. -/
def execStartupRegulator (s : State) : Res :=
  .next (if s.start.stage = .off ∨ s.start.stage = .held then s.setKeeper (fun k => { k with regulator := true }) else s)

/-- DORMREQ may be written in HOLDOVER with no keeper source qualified (R439); one that is written before Tutti is
refused at the beat, with cause START (R440, Table ST-7). -/
def State.dormMay (s : State) : Bool := (!s.inTutti || s.mode.mode == .holdover) && !s.keeperSource
/-- DORMREQ alone. -/
def State.dormreq (s : State) (c : CtxId) : State :=
  s.sysWrite c 0x60 s.dormMay (fun s => s.setMode (fun m => { m with reqDue := true }))
/-- MODECTL_DORMREQ (R439). -/
def execModectlDormreq (c : CtxId) (s : State) : Res := .next (s.dormreq c)

/-- HOLDDORM_EXPIRE (R439): the hold time has passed since the entry and the last door edge. -/
def execHolddormExpire (s : State) : Res :=
  .next (if s.running && s.mode.mode == .holdover && s.holdPassed then
    s.setMode (fun m => { m with holdDue := true }) else s)

/-- LOW_NODE_TRIGGER (R439): VKEEP has stayed below the VDORM level for 1 s. -/
def execLowNodeTrigger (s : State) : Res :=
  .next (if s.running && s.lowPassed && (s.mode.mode == .holdover || !s.inTutti) then s.setMode (fun m => { m with lowDue := true }) else s)

end Sys2Proof.Machine
end

