-- ==== Sys2Proof/Machine/StartOps.lean ====
section
/-! DEFINITION. Resets of the hub, the four stages of a start, what Recall loads, and the first measure
beat of Tutti; the steps of DORMANT (chapters 02, 14, 17, 18). -/

namespace Sys2Proof

/-- The order of the reset causes of R453. -/
def causeRank (c : BitVec 4) : Nat := ([1, 2, 4, 5, 3, 6, 7] : List (BitVec 4)).idxOf c

/-- INC times 2^24 (R54). -/
def lfInc (lfcal : BitVec 22) : Nat := (lfcal.toNat * 2 ^ 24 + 1536000) / 3072000

/-- e_ref in ppm (R55, Table CK-3). -/
def refPpm (g : ClkSet) (calRc : Bool) : Nat :=
  if calRc then 10000
  else if g.xtalppm = 0 then 100 else if g.xtalppm = 1 then 50 else if g.xtalppm = 2 then 30 else 20

/-- The bound of R55 on `t` SLOW periods, in ms rounded up. -/
def lfBound (g : ClkSet) (calRc : Bool) (t : Nat) : Nat :=
  let ppm := refPpm g calRc +
    if g.dormband = 0 then 50000 else 301 + 150 * (if g.dormband = 1 then 5 else if g.dormband = 2 then 10 else 20)
  ceilDiv (t * ppm + 2000000) 32000000

/-- `lf` cycles of the LF RC are counted into ELAPSED, with their bound (R54, R55). -/
def Clock.lfCount (c : Clock) (g : ClkSet) (lf : Nat) : Clock :=
  let tot := c.elfrac.toNat + lf * lfInc c.lfcal
  let b := lfBound g c.calRc (ceilDiv (lf * lfInc c.lfcal) (2 ^ 24))
  { c with elapsed := c.elapsed + BitVec.ofNat 64 (tot / 2 ^ 24), elfrac := BitVec.ofNat 24 tot
           elerr := c.elerr + b, outErr := c.outErr + b }

/-- `n` SLOW periods pass while the root runs (R54). -/
def Clock.slow (c : Clock) (n : Nat) : Clock := { c with elapsed := c.elapsed + BitVec.ofNat 64 n }

/-- What a reset leaves of the clocks: the always-on domain (R54, R56). Every start qualifies the crystal anew, but
one that is not to be tried again (R38, R40). -/
def Clock.kept (c : Clock) : Clock :=
  { xtal := if c.noTry then .stopped else .running, lfcal := c.lfcal, elapsed := c.elapsed, elfrac := c.elfrac, elerr := c.elerr, outErr := c.outErr
    calRc := c.calRc, unknown := c.unknown, cont := c.cont, lfRun := c.lfRun, noTry := c.noTry, outage := c.outage }

/-- What a reset leaves of the retention memory: all but the journal in progress, the port and the flags. -/
def Nv.kept (n : Nv) : Nv :=
  { n with snap := none, port := {}, defer := false, nocommit := false, cage := 0, failRun := 0, fullAt := false }

/-- What a reset leaves of the watchdog (R388, R389, R397); the hard timer runs on until Tacet (R453). -/
def Watchdog.kept (w : Watchdog) (dorm : Bool) : Watchdog :=
  { en := w.en, per := w.per, clksel := w.clksel, dbgfrz := w.dbgfrz, keyB := dorm && w.keyB, hard := w.hard }

/-- What a reset leaves of a feeder (Table ST-2). -/
def Feeder.kept (f : Feeder) : Feeder := { att := f.att, cause := f.cause, inqual := f.inqual }

/-- A reset ends the contracts, and with them the ports' place among the keeper's sources (Table KP-3). -/
def Keeper.noPorts (k : Keeper) : Keeper :=
  let gone := decide (3 ≤ k.src.toNat)
  { k with qual := (k.qual.set 2 false).set 3 false, src := if gone then 0 else k.src, buck := k.buck && !gone
           iout := if gone then 0 else k.iout
           pendSrc := k.pendSrc.filter (fun c => decide (c.toNat < 3)) }

/-- What a reset leaves of the keeper: switches, sources and battery; safe trickle (R420, Table ST-2). -/
def Keeper.kept (k : Keeper) : Keeper :=
  let k := k.noPorts
  Keeper.safeTrickle { src := k.src, pendSrc := k.pendSrc, qual := k.qual, qualT := k.qualT, iout := k.iout, wasOut := k.wasOut, buck := k.buck
                       regulator := k.regulator, hot := k.hot, batsw := k.batsw, bscont := k.bscont, bat := k.bat
                       vkeep := k.vkeep, kntc := k.kntc }

/-- What a power-on reset leaves of the keeper; the latch keeps its flag (R460). -/
def Keeper.powered (k : Keeper) : Keeper :=
  let k := k.noPorts
  { src := k.src, qual := k.qual, buck := k.src != 0 && !k.hot, hot := k.hot, batsw := k.batsw, bscont := k.bscont }

/-- The tick count starts anew: the instants of the security unit stand no more by it. -/
def Sec.untimed (q : Sec) : Sec :=
  { q with nonceTo := none, lockTo := none, sess := q.sess.map (fun x => { x with pendTo := none, refuseTo := none }) }

/-- What a reset leaves of the security unit (R614, R615, R618, R623, R631). A level whose line is written stands,
and its change ends the debug session; otherwise the session and its grants stay. Host sessions end. -/
def Sec.kept (q : Sec) : Sec :=
  let same := q.newLevel.isNone
  { level := q.newLevel.getD q.level, codes := q.codes, admin := q.admin, key := q.key
    granted := if same then q.granted else .none, request := if same then q.request else .none
    nonce := q.nonce, failures := q.failures, lockout := q.lockout, ir := q.ir, dr := q.dr, preload := q.preload
    coreReset := q.coreReset, brks := if same then q.brks else Vector.replicate 8 {}
    sess := q.sess.map (fun x => { failures := x.failures, refusing := x.refusing }) }

/-- A port whose controller does not run (R479): no FET, no VCONN; the dead-battery pull-downs, or none in the
removal at Tacet (R456). -/
def Port.held (term : CcTerm) (q : Port) : Port := { term := term, vbus := q.vbus }

/-- A port after a power-on reset: the dead-battery path keeps a sink FET that it has closed (R480, R481). -/
def Port.dead (q : Port) : Port := { vbus := q.vbus, snkFet := q.term == .dead && q.snkFet }

/-- The defaults of Table SC-3 for the strap value (R9, R10). -/
def strapDefaults (heritage : Bool) : Settings :=
  if heritage then
    { bays := Vector.ofFn fun b => { owner := BitVec.ofNat 2 (b.val / 24), prof := 6 }
      wb := { wgt := #v[4, 3, 2, 1] }, mode := { lampsvc := true } }
  else {}

/-- One charge at a start (R56, R223, R225, R468): it is interrupted, from the last instant the hub knows. -/
def BayRun.cut (r : BayRun) (err : Nat) (unknown : Bool) (el : Nat) : BayRun :=
  if r.charging then
    { r with pulseEnd := some (match r.pulseEnd with | some x => x | none => el), interrupted := true, resume := false
             intErr := r.intErr + err, intLong := r.intLong || unknown }
  else r

/-- The bank that Recall loads and whether it had to fall back (R358, R365): true for bank B. Equal numbers
leave bank A the winner. -/
def Nv.choose (n : Nv) (okA okB : Bool) : Option (Bool × Bool) :=
  if n.header = false then none
  else match n.word false, n.word true with
    | some a, some b =>
      let win := later b.1 a.1
      if win then (if okB then some (true, false) else if okA then some (false, true) else none)
      else if okA then some (false, false) else if okB then some (true, true) else none
    | some _, none => if okA then some (false, false) else none
    | none, some _ => if okB then some (true, false) else none
    | none, none => none

/-- The power-fail record and the banks as a start finds them: what is uncorrectable, or differs, is stale for the bank that is not loaded
(R366). -/
def Nv.found (n : Nv) (o : RecallObs) : Nv :=
  let lines (l : List (Fin 12288 × BitVec 64)) : List (Nat × BitVec 64) := l.map (fun x => (x.1.val, x.2))
  { n with pf := n.pf.map (fun r => { r with crc := o.pfCrc.getD r.crc })
           bankA := n.bankA.found (lines o.misA) (o.badA.map Fin.val) o.slotA
           bankB := n.bankB.found (lines o.misB) (o.badB.map Fin.val) o.slotB }

/-- A bank can be loaded: no line is uncorrectable and, in a full verification, its digest is that of the commit
word (R365, R367). -/
def Nv.loads (n : Nv) (b full : Bool) : Bool :=
  (n.bank b).bad.isEmpty && (!full || (n.bank b).digest == (n.bank b).slot[0].extractLsb' 32 32)

/-- A voice at the first measure beat of Tutti (R467). -/
def VoiceVol.resume (x : VoiceVol) : VoiceVol := { x with first := true, resumed := true }

/-- A running wall soft timer is advanced by an outage of `n` SLOW periods; the part below a tick stays with it. When
elapsed time is unknown it is set to its preset and shows done (R58, R59). -/
def SoftTimer.outage (t : SoftTimer) (unknown : Bool) (n : Nat) : SoftTimer :=
  if t.wall && t.run then
    if unknown then t.expire else { t with rest := (n + t.rest) % 32 }.advance ((n + t.rest) / 32)
  else t

/-- Reconciling a voice with its active install word (R325, R370). -/
def VoiceRun.reconcile (r : VoiceRun) (i : Option InstWord) : VoiceRun :=
  match i with
  | none => { r with state := .empty }
  | some w =>
    if later w.iepoch r.depoch then
      let r := if w.clr then r.clear else r
      { r with state := .stop, depoch := w.iepoch }
    else r

end Sys2Proof

namespace Sys2Proof.Machine

/-- A reset other than a power-on reset (R450, R453, R454, R472). While the hub is held, a cause of higher
rank replaces the one recorded. The SLOW periods since the last tick beat, or since the last stage end where no
ticks run, are free, and so is the number of lines that a journal in progress has written (log entry 91). -/
def State.hubReset (s : State) (cause : BitVec 4) : State :=
  let x := s.start
  match x.stage with
  | .off => s
  | .held =>
    s.setStart (fun x => { x with cause := if causeRank cause < causeRank x.cause then cause else x.cause })
  | _ =>
    let s := s.ownCut
    let quick := cause != 7 && (x.stage != .tutti || decide (s.clk.ticks - x.tuttiTick < 60000))
    let n : BitVec 2 := if quick then (if x.loopcnt = 3 then 3 else x.loopcnt + 1) else x.loopcnt
    let again := x.safeDue || (quick && n == 3)
    let f := s.freeNat
    let k := f.2.freeNat
    { pending := s.pending, free := k.2.free, c := {}, act := { clk := s.act.clk }, nv := (s.nv.cutJournal (k.1 % 1025)).kept, clk := (s.clk.slow (if s.running then f.1 % 32 else if s.powered && !x.isDorm then f.1 else 0)).kept
      start := { stage := .held, cause := cause, loopcnt := n, safeDue := again
                 profile := x.profile, lockdef := x.lockdef, pinProf := x.pinProf, pinLock := x.pinLock, strapDue := x.strapDue }
      wd := s.wd.kept (cause == 7)
      mode := { wakecause := s.mode.wakecause, tilepwr := s.mode.tilepwr }
      keeper := s.keeper.kept, latch := { s.latch with ready := false, shipDue := false }
      feeders := s.feeders.map Feeder.kept, tiles := s.tiles, hd := s.hd, sec := s.sec.kept
      ports := s.ports.map (Port.held .dead) }

/-- Straps of the last power-on sampling stand for the strap defaults (R9). -/
def State.straps (s : State) : Settings := strapDefaults s.start.profile

/-- A power-on reset (R451, R452, R454, R456): what the memories, the key area, the latch and the tiles hold
stays. -/
def State.powerOn (s : State) (profile lockdef : Bool) : State :=
  let x : State := {
    pending := s.pending, free := s.free, nv := s.nv.kept
    start := { stage := .tacet, cause := 1, pinProf := profile, pinLock := lockdef, strapDue := true }
    keeper := s.keeper.powered
    latch := { s.latch with ready := false, shipDue := false }
    feeders := s.feeders.map (fun f => { inqual := f.inqual })
    ports := s.ports.map Port.dead
    tiles := s.tiles.map Tile.toReset
    ring := tacetRing
    sec := { level := s.sec.newLevel.getD s.sec.level, codes := s.sec.codes, admin := s.sec.admin, key := s.sec.key } }
  x.keeperAct

/-- The voice states of R462. -/
def State.startVoices (s : State) (warm safe : Bool) : State :=
  s.setC (fun c => { c with voices := c.voices.map (fun r =>
    if r.state = .run ∧ (safe = true ∨ (warm = false ∧ c.set.ring.coldrun = false)) then { r with state := .stop } else r) })

/-- Every voice's active program passes its CRC, as a full verification asks (R367). -/
def State.progsPass (s : State) (o : RecallObs) : Bool :=
  (List.finRange 5).all fun v => match s.nv.activeInst v with
    | none => true
    | some i => o.progs[v] && imgCrc s.mem (progBase v i.2.area) == imgWord s.mem (progBase v i.2.area) 7

/-- Recall's image: the chosen bank or the strap defaults; NVFALLBACK (steps 1, 2 and 5 of R458). A program CRC
that fails in a full verification makes a bank unusable, as its digest does (R367). -/
def State.recallImage (s : State) (o : RecallObs) (cold : Bool) : State :=
  let ok := !cold || s.progsPass o
  match s.nv.choose ((s.nv.loads false cold) && ok) ((s.nv.loads true cold) && ok) with
  | some (b, fell) =>
    let s := (s.setC (fun _ => (s.nv.bank b).img)).setNv (fun n => { n with onB := b })
    let s := s.setStart (fun x => { x with imgvalid := true, warm := !cold, fullver := cold })
    if fell then s.post 0x8007 b.toNat 0 else s
  | none =>
    (s.setC (fun _ => { set := s.straps })).setStart (fun x => { x with imgvalid := false, warm := false, fullver := cold })

/-- The programs of step 4 of R458, with R370. -/
def State.recallProgram (s : State) (v : VoiceId) : State :=
  match s.nv.activeInst v with
  | none => s.setVRun v (fun r => r.reconcile none)
  | some i =>
    if s.start.imgvalid then
      (s.setVRun v (fun r => r.reconcile (some i.2))).setVoice v (fun x => { x with prog := loadProgram s.mem (progBase v i.2.area) })
    else s.setVRun v (fun r => { r with state := .empty })

/-- The bays and the charges at the end of Recall (R56, R57, R223, R445, R468, R662). -/
def State.recallCharges (s : State) : State :=
  let el := s.c.elapsed.toNat
  let drop := s.start.cause == 7 && !s.c.set.mode.dormresume
  let s := { s with bays := Vector.ofFn fun b => { s.bays[b] with reprobe := s.c.bays[b].pack == Pack.shorted } }
  s.setC (fun c => { c with
    bays := c.bays.map (fun (r : BayRun) => if drop = true ∨ r.pack = Pack.seating then {} else r.cut s.clk.outErr s.clk.unknown el)
    keep := c.keep.cut s.clk.outErr s.clk.unknown el })

/-- CLKCTL is applied (step 6 of R458, R38 to R40): a crystal that this start has not qualified is given up. -/
def State.recallClock (s : State) (xtal : Bool) : State :=
  if s.c.set.clk.srcsel = 1 then s.setClk (fun c => { c with xtal := .stopped })
  else if (xtal && !s.clk.noTry) || s.clk.xtal == .qualified then s.setClk (fun c => { c with xtal := .qualified })
  else (s.setClk (fun c => { c with xtalfail := true, noTry := true })).post 0x8004 0 0

/-- Reserve-battery detection (step 7 of R458, R460); `noSrc`: no source of the list in force before step 8 is
qualified. -/
def State.recallBattery (s : State) (o : RecallObs) (cold noSrc : Bool) : State :=
  if cold || !s.keeper.bscont then
    if noSrc then s.setKeeper (fun k => { k with batst := .present, step := .idle })
    else s.setKeeper (fun k =>
      let k := (k.openSw).detect s.c.set.keep o.kntcA o.kntcB o.bat
      if k.step = .probing then k.probeEnd o.probe else k)
  else (s.setKeeper (fun k => { k with batst := .present, step := .idle, probed := true })).setStart (fun x => { x with batskip := true })

/-- `n` SLOW periods pass in a stage without ticks (R388, R395). The part of them that follows a kick is free. -/
def State.wdPasses (s : State) (n : Nat) : State :=
  if s.wd.counting = false then s
  else if s.wd.kicked then
    let f := s.freeNat
    f.2.setWd (fun w => { w with count := f.1 % (n + 1), kicked := false })
  else s.setWd (fun w => { w with count := w.count + n })

/-- Recall (R458, R459, R461, R462). -/
def State.recall (s : State) (o : RecallObs) : State :=
  let s := ((s.setClk (fun c => c.slow o.slow)).wdPasses o.slow).setNv (fun n => n.found o)
  let before := s.clk.elapsed
  let noSrc := s.keeperPick.isNone
  let cold := s.start.cause == 1 || (s.nv.choose (s.nv.loads false false) (s.nv.loads true false)).isNone
  let s := s.recallImage o cold
  let s := (List.finRange 5).foldl (fun s v => s.recallProgram v) s
  let s := s.setStart (fun x => { x with safestart := x.safeDue, safeDue := false })
  let s := s.startVoices s.start.warm s.start.safestart
  let s := { s with act := s.c.set, nv := { s.nv with layout := s.c.set.layout, pfStart := s.nv.pf.filter PfRec.checks } }
  let s := s.setC (fun c => { c with link := match c.link with | .none => .none | _ => .lost })
  let s := s.recallCharges
  let s := s.setClk (fun c => { c with
    elapsed := if c.cont then c.elapsed else s.c.elapsed + before, cont := true, elvalid := !c.unknown
    outage := if s.start.imgvalid then some (c.outage.getD s.c.elapsed.toNat) else none })
  let s := s.recallClock o.xtal
  let s := s.recallBattery o cold noSrc
  let s := s.timersStart s.start.imgvalid
  let s := (s.portStart 0 o.rpSeen[(0 : PortId)]).portStart 1 o.rpSeen[(1 : PortId)]
  (s.setStart (fun x => { x with recalled := true, sinceT := x.sinceT + o.slow })).keeperAct

/-- Muster begins (R38, R463 to R465, R615): the relock, the sessions at DEVELOP, the enumeration when the map
is not valid. -/
def State.musterStart (s : State) (slow : Nat) : State :=
  let auto := s.c.set.clk.srcsel == 0
  let xtal := auto && s.clk.xtal == .qualified
  let s := s.setClk (fun c => { (c.slow slow) with
    srcRc := !xtal, slewRc := !xtal, ticks := 0, beatTick := 0, tick := 0, retry := auto && c.xtal == .running && !c.noTry })
  let s := s.setStart (fun x => { x with stage := .muster, meas := 0, mustDone := false, mustto := false })
  let s := s.wdPasses slow
  let s := s.setSec (fun q => { q.untimed with sess := q.untimed.sess.map (fun x =>
    { x with open_ := x.open_ || q.level == .develop }) })
  s.setRing (fun r => { r with running := true, enumDue := r.enumDue || !s.c.mapValid, firstEcho := true, echoDue := true, lastEpoch := s.c.push.carried })

/-- The wall timers take up the outage, which ends with the first measure beat of Tutti (R58, R59, R468); until then they do
not count. -/
def State.takeOutage (s : State) : State :=
  match s.clk.outage with
  | none => s
  | some e =>
    let n := s.clk.elapsed.toNat - e
    let s := s.setClk (fun c => { c with outage := none })
    let s := s.wallTimers s.clk.unknown n
    let s := { s with voices := s.voices.map (fun (x : VoiceVol) => { x with lastTick := s.clk.ticks }) }
    s.setC (fun c => { c with voices := c.voices.map (fun r =>
      { r with t := r.t.map (fun t => t.outage s.clk.unknown n) }) })

/-- Every mapped number stands where Muster waits for it no longer (R466). -/
def State.musterReady (s : State) : Bool :=
  s.c.mapValid && !s.ring.enumDue && s.ring.enum_.isNone && s.ring.mustPoll.isEmpty &&
  (List.finRange 24).all (fun t => s.c.map[t].isNone || s.hub[t].settled || s.hub[t].present)

/-- Muster has lasted MUSTMAX, and what follows (R466). -/
def State.musterLong (s : State) : Bool := decide (250 * s.act.ring.mustmax.toNat ≤ s.clk.ticks)
def State.musterExpire (s : State) : State :=
  (s.setStart (fun x => { x with mustDone := true, mustto := true })).post 0x8003 0 0

/-- Muster has ended (R466). -/
def State.musterOver (s : State) : Bool := (decide (1 ≤ s.start.meas) && s.musterReady) || s.start.mustDone

/-- What the first measure beat of Tutti announces (R444, R467, R472). -/
def State.tuttiEvents (s : State) : State :=
  let s := s.post 0x8001 s.start.cause.toNat s.start.warm.toNat
  let s := if s.start.safestart then s.post 0x8002 0 0 else s
  if s.start.cause = 7 then s.postAll 0x600B (if s.mode.mode = .operate then 0 else 1) s.mode.wakecause.toNat else s

/-- The first measure beat of Tutti (R434, R467, R388, R397). -/
def State.tuttiBegin (s : State) : State :=
  let s := s.takeOutage.setStart (fun x => { x with stage := .tutti, meas := 0, tuttiTick := s.clk.ticks })
  let s := s.setMode (fun m => { m with
    mode := if s.feederOn then .operate else .holdover, holdTick := s.clk.ticks, doorTick := s.clk.ticks })
  let s := s.debugFall
  let s := s.setWd (fun w => { w with count := 0, period := wdPeriod w.per, counting := w.en && !w.trap })
  let s := (s.feedersAct).setRing (fun r => { r with mustPoll := [] })
  State.tuttiEvents { s with voices := s.voices.map VoiceVol.resume }

/-- The root stops for DORMANT in place of an MBEAT (step 5 of Table PM-3, R54, R438, R442, R446, R480). -/
def State.rootStop (s : State) : State :=
  let s := s.setClk (fun c => { (c.slow 32) with calib := .none })
  let s := s.setStart (fun x => { x with stage := .held, isDorm := true })
  let s := s.setMode (fun m => { m with mode := .dormant, dorm := .none, tilepwr := false })
  let s := s.setKeeper (fun k => { k with buck := false, src := 0, pendSrc := none, iout := 0, batsw := true })
  let s := (s.endSession.setWd (fun w => { w with counting := false })).setSec (fun q => { q with accOp := none })
  { s with tiles := s.tiles.map Tile.toReset, ports := s.ports.map (Port.held .dead)
           feeders := s.feeders.map Feeder.off, ring := {}
           nv := { s.nv with snap := none, port := {} }, held := none }

/-- A port at step 4 of Table PM-3: it presents Rd; a port in DISABLED, WET or RECOVERY stays as it is (R475, R485, R494; log
entry 129). The detach scan of a port that was attached is due, should the entry be given up (R493). -/
def dormPort (g : PortSet) (q : Port) : Port :=
  if q.state = .disabled ∨ q.state = .wet ∨ q.state = .recovery then q
  else { q.fetsOff with
    state := .unattached, role := .snk, term := .rd, orient := 0, partrp := 0, ra := false, leaving := false, scanning := false
    scanDue := q.scanDue || q.scanning || (g.moisten && (q.state == .sink || q.state == .source)), pd := {} }

/-- Step 4 of Table PM-3: contracts and links end, and each port presents Rd. -/
def State.dormPorts (s : State) : State :=
  let s := (List.finRange 2).foldl (fun s p => (s.portLeave p).setPort p (fun q => dormPort (s.pset p) q)) s
  s.setMode (fun m => { m with dorm := .ports })

end Sys2Proof.Machine
end

