-- ==== Sys2Proof/Machine/ClockExec.lean ====
section
/-! DEFINITION. The commands of the clocks: the crystal, the slew of the root, the calibration of the LF RC
(chapter 02). -/

namespace Sys2Proof

/-- The crystal is qualified anew (R43, R51). -/
def Clock.requalify (k : Clock) : Clock := { k with xtal := .running, retry := true, noTry := false }

/-- The root leaves the crystal for the RC (R41). -/
def Clock.toRc (k : Clock) : Clock := { k with slew := true, slewRc := true, retry := false }

/-- The root is on the crystal, or on its way to it. -/
def Clock.onXtal (k : Clock) : Bool := !k.srcRc || (k.slew && !k.slewRc)

/-- What a change of SRCSEL leads to once Muster has started (R39, R51). -/
def Clock.select (k : Clock) (rc : Bool) : Clock :=
  if rc then (if k.onXtal then k.toRc else { k with retry := false, xtal := if k.slew then k.xtal else .stopped })
  else k.requalify

/-- A calibration result that R53 accepts. -/
def lfCountOk (n : Nat) : Bool := decide (2891294 ≤ n ∧ n ≤ 3276800)

end Sys2Proof

namespace Sys2Proof.Machine

/-- XTALFAIL (R40, R42). -/
def State.xtalLost (s : State) : State :=
  (s.setClk (fun k => { k with xtalfail := true, noTry := true, retry := false, xtal := .stopped })).post 0x8004 0 0

/-- XTAL_QUALIFY (R38, R43, R51): before Muster the relock waits for Muster's start; later the root slews. -/
def execXtalQualify (s : State) : Res :=
  let k := s.clk
  if s.running then
    .next (if k.retry then s.setClk (fun k =>
        let k := { k with xtal := .qualified, retry := false }
        if s.c.set.clk.srcsel = 0 ∧ k.srcRc = true then { k with slew := true, slewRc := false } else k)
      else s)
  else .next (if s.powered && k.xtal == .running && !k.noTry then s.setClk (fun k => { k with xtal := .qualified }) else s)

/-- XTAL_EDGE_LOSS (R42); a calibration in progress is discarded (Table CK-4). A crystal that gives no edge while
it is being qualified fails as in R40. -/
def execXtalEdgeLoss (s : State) : Res :=
  .next (if s.running && s.clk.onXtal then (s.setClk (fun k => { k.toRc with calib := .none })).xtalLost
    else if s.running && s.clk.retry then s.xtalLost else s)

/-- SLEW_LOCK (R41): the root is locked to its new reference; with RC selected the crystal stops (R39), and with
AUTO a crystal that has qualified during a slew to the RC takes the root back (R51). CLKSTAT.SRC shows the old
reference until here: the spec names no instant at which it changes (DESIGN CHOICE, log entry 89). A DORMANT entry
that has waited for the end of the slew goes on (Table CK-4). -/
def execSlewLock (s : State) : Res :=
  if s.clk.slew then
    let s := s.setClk (fun k =>
      if k.slewRc = true ∧ s.c.set.clk.srcsel = 0 ∧ k.xtal = .qualified then { k with srcRc := true, slewRc := false }
      else { k with
        slew := false, srcRc := k.slewRc, xtal := if k.slewRc ∧ s.c.set.clk.srcsel = 1 then .stopped else k.xtal })
    .next (if s.mode.calOk && s.mode.dorm == .calib && !s.clk.slew then
        s.setMode (fun m => { m with calOk := false, dorm := .journal }) else s)
  else .next s

/-- PLL_UNLOCK (R61); while the hub is held in reset it is a second cause (R453). -/
def execPllUnlock (s : State) : Res := .next (if s.powered || s.inHold then s.hubReset 5 else s)

/-- LF_CALIBRATION_START (R52): every 60 s, and before the root stops. -/
def execLfCalibrationStart (presleep : Bool) (s : State) : Res :=
  .next (if s.powered && (!presleep || (s.mode.dorm == .calib && !s.clk.slew)) then
      s.setClk (fun k => { k with calib := if presleep then .presleep else .normal }) else s)

/-- LF_CALIBRATION_DONE (R53), with the count. Entry to DORMANT waits for the end of a slew (Table CK-4). -/
def execLfCalibrationDone (count : Nat) (s : State) : Res :=
  if s.clk.calib = .none then .next s
  else
    let pre := s.clk.calib == .presleep && s.mode.dorm == .calib
    let s := s.setClk (fun k => { k with calib := .none })
    if lfCountOk count then
      let s := s.setClk (fun k => { k with lfcal := BitVec.ofNat 22 count, calRc := k.srcRc })
      .next (if pre then s.setMode (fun m => if s.clk.slew then { m with calOk := true } else { m with dorm := .journal }) else s)
    else
      let s := (s.setClk (fun k => { k with lffail := true })).post 0x8005 0 0
      .next (if pre then s.dormRefuse 4 else s)

/-- RETRY (R43). -/
def State.clkRetry (s : State) : State :=
  if !s.clk.slew && s.clk.srcRc && s.c.set.clk.srcsel == 0 then s.setClk Clock.requalify else s

/-- CLKCTL_RETRY (R43). -/
def execClkctlRetry (c : CtxId) (s : State) : Res := .next (s.sysWrite c 0x60 true State.clkRetry)

/-- A write of CLKCTL (Table CK-3, R51). -/
def State.clkctl (s : State) (c : CtxId) (w : Word) : State :=
  s.sysWrite c 0x60 (w.extractLsb' 7 9 == 0 && !w.getLsbD 1) (fun s =>
    let g : ClkSet := { srcsel := w.extractLsb' 0 2, xtalppm := w.extractLsb' 2 2, dormband := w.extractLsb' 4 2 }
    let was := s.c.set.clk.srcsel
    let s := s.setSet (fun x => { x with clk := g })
    let s := if g.srcsel = was then s
      else if s.running then s.setClk (fun k => k.select (g.srcsel == 1))
      else s.setClk (fun k => { k with xtal := if g.srcsel = 1 then .stopped else .running, noTry := false })
    if w.getLsbD 6 then s.clkRetry else s)

/-- SRCSEL_WRITE (R51): a word written to CLKCTL. -/
def execSrcselWrite (c : CtxId) (w : Word) (s : State) : Res := .next (s.clkctl c w)

end Sys2Proof.Machine
end

