-- ==== Sys2Proof/Machine/PdExec.lean ====
section
/-! DEFINITION. The commands of Power Delivery: received messages, timers and swaps (chapters 20, 21). -/

namespace Sys2Proof.Machine

/-- SOURCE_CAPABILITIES (R499, R517): the sink settings act here (R527). -/
def execSourceCapabilities (p : PortId) (m : PdHdr) (pdos : List Pdo) (s : State) : Res :=
  .next (s.pdRecv p m false (fun s =>
    if m.sop ≠ 0 then s
    else if s.ports[p].state ≠ .sink then s.stray p
    else s.partnerStarts p (fun s =>
      let s := s.setPd p (fun d => { d with partner := pdos, choice := choosePdo (s.pset p) pdos, waitDue := false })
      if s.ports[p].pd.revBad then s else s.sendRequest p)))

/-- The current of a Request fits the PDO it names (R516). -/
def State.requestOk (s : State) (p : PortId) (pos op max : Nat) : Option Pdo :=
  if pos = 0 then none
  else match s.ports[p].pd.offered[pos - 1]? with
    | some o => if op ≤ o.ma ∧ max ≤ o.ma then some o else none
    | none => none

/-- REQUEST (R516, R519); with a partner of another revision no contract is formed (R499). -/
def execRequest (p : PortId) (m : PdHdr) (pos op max : Nat) (mismatch : Bool) (s : State) : Res :=
  .next (s.pdRecv p m false (fun s =>
    if m.sop ≠ 0 then s
    else if s.ports[p].state ≠ .source ∨ s.ports[p].pd.window = true then s.stray p
    else
      let go (s : State) : State := match (if s.ports[p].pd.revBad then none else s.requestOk p pos op max) with
        | some o =>
          let old := match s.ports[p].pd.contract with | some c => c.mv | none => 5000
          let s := (s.pdSend p .accept).setPd p (fun d =>
            { d with exch := .srcTrans, move := .accepted, next := some { mv := o.mv, ma := op }, reqMism := mismatch
                     sameV := old == o.mv })
          if mismatch then s.post 0x7014 p.val 0 else s
        | none => s.pdSend p .reject
      if s.ports[p].pd.exch = .capsWait then go (s.setExch p .idle) else s.partnerStarts p go))

/-- ACCEPT (R521, R524, Tables SW-2 to SW-4). -/
def execAccept (p : PortId) (m : PdHdr) (s : State) : Res :=
  .next (s.pdRecv p m false (fun s =>
    let d := s.ports[p].pd
    if m.sop ≠ 0 then s
    else if d.exch = .reqWait then s.setExch p .snkTrans
    else if d.exch = .softWait then s.endExch p
    else match d.swap with
      | some w => if w.mine ∧ (w.step = .asked ∨ w.step = .frsWait) then s.swapAgreed p { w with step := .accepted } else s.stray p
      | none => s.stray p))

/-- REJECT (R516): an existing contract stands; a swap is not made. -/
def execReject (p : PortId) (m : PdHdr) (s : State) : Res :=
  .next (s.pdRecv p m false (fun s =>
    let d := s.ports[p].pd
    if m.sop ≠ 0 then s
    else if d.exch = .reqWait then (s.setPd p (fun d => { d with next := none })).endExch p
    else if d.asking then (s.setPd p (fun d => { d with swap := none })).endExch p
    else s.stray p))

/-- PS_RDY (R522, Tables SW-2 to SW-4), with VBUS in mV. -/
def execPsRdy (p : PortId) (m : PdHdr) (vbus : Nat) (s : State) : Res :=
  .next (s.pdRecv p m false (fun s =>
    let d := s.ports[p].pd
    if m.sop ≠ 0 then s
    else if d.exch = .snkTrans then
      (match d.next with
      | some c =>
        if within5 vbus c.mv then (s.setPort p (fun q => { q with vbus := vbus })).formContract p
        else (s.post 0x7015 p.val 0).sendHard p
      | none => s.stray p)
    else match d.swap with
      | some w => s.swapRdyIn p w vbus
      | none => s.stray p))

/-- WAIT (R511): after its Request the sink sends the Request again 100 ms later. -/
def execWait (p : PortId) (m : PdHdr) (s : State) : Res :=
  .next (s.pdRecv p m false (fun s =>
    let d := s.ports[p].pd
    if m.sop ≠ 0 then s
    else if d.exch = .reqWait then (s.setPd p (fun d => { d with waitDue := true, next := none })).endExch p
    else if d.asking then (s.setPd p (fun d => { d with swap := none })).endExch p
    else s.stray p))

/-- PING (R511): ignored. -/
def execPing (p : PortId) (m : PdHdr) (s : State) : Res := .next (s.pdRecv p m false (fun s => s))

/-- GET_SOURCE_CAP (R511): a source that answers expects a Request. A source that has stopped sending them (R499) answers
Not_Supported (DEDUCED, log entry 128). -/
def execGetSourceCap (p : PortId) (m : PdHdr) (s : State) : Res :=
  .next (s.pdRecv p m false (fun s =>
    if m.sop ≠ 0 then s
    else s.partnerStarts p (fun s =>
      if s.roleHas p 1 && !(s.ports[p].pd.revBad && s.ports[p].state == .source) then (if s.ports[p].state = .source then s.sendCaps p else s.pdSend p (s.capsMsg p))
      else s.pdSend p .notSupported)))

/-- GET_SINK_CAP (R518). -/
def execGetSinkCap (p : PortId) (m : PdHdr) (s : State) : Res :=
  .next (s.answerWith p m (fun s => if s.roleHas p 0 then s.sinkMsg p else .notSupported))

/-- SOFT_RESET (R504, R524): Accept; the counters of that SOP* are reset. In a transition window it leads to Hard
Reset. -/
def execSoftReset (p : PortId) (m : PdHdr) (s : State) : Res :=
  .next (s.pdRecv p m true (fun s =>
    if m.sop = 0 ∧ s.ports[p].pd.window = true then s.sendHard p else
    let s := s.setPd p (fun d => d.setSop m.sop (fun _ => {}))
    if m.sop = 0 then
      let s := (s.dropOwn p).setPd p (fun d => { d with exch := d.swapExch, swap := d.runningSwap, move := .none, next := none })
      s.pdSend p .accept
    else s.setPd p (fun d => d.send m.sop .accept)))

/-- NOT_SUPPORTED (R511): the exchange ends; PDNOSUP with the message type refused. In a transition window and between the
Accept of a swap and its PS_RDY it belongs to no exchange (R524). -/
def execNotSupported (p : PortId) (m : PdHdr) (s : State) : Res :=
  .next (s.pdRecv p m false (fun s =>
    if m.sop ≠ 0 then s
    else if s.ports[p].pd.window || s.ports[p].pd.midSwap then s.stray p
    else
    let t := match s.ports[p].pd.out with | some o => o.msg.typ | none => 0
    let s := s.setPd p (fun d => { d with swap := match d.swap with | some w => if w.step = .asked then none else some w | none => none })
    (s.post 0x7012 p.val t).endExch p))

/-- GOODCRC (R504, R505): with the MessageID of the message that waits; on SOP' and SOP'' only while the hub sources VCONN
(R501). -/
def execGoodcrc (p : PortId) (m : PdHdr) (s : State) : Res :=
  let d := s.ports[p].pd
  match d.out with
  | some o =>
    if d.await && o.sop == m.sop && o.id == m.id && (m.sop == 0 || s.ports[p].vconn) then
      .next ((s.setPd p (fun d => { d.setSop m.sop (fun c => { c with tx := c.tx + 1 }) with await := false })).ackedOn p o)
    else .next s
  | none => .next s

/-- PR_SWAP (R530). -/
def execPrSwap (p : PortId) (m : PdHdr) (s : State) : Res :=
  let g := s.pset p
  let toSrc := s.ports[p].state == .sink
  let peer := s.link.active && s.link.port == p
  .next (s.swapAsked p m .pr toSrc (g.role == 3 && g.prswen && (!toSrc || !peer || s.mode.mode == .operate)))

/-- FR_SWAP (R530, R536): only a hub that has sent the signal accepts it. -/
def execFrSwap (p : PortId) (m : PdHdr) (s : State) : Res :=
  .next (s.pdRecv p m false (fun s =>
    if m.sop ≠ 0 then s
    else match s.ports[p].pd.swap with
      | some w =>
        if w.kind = .fr ∧ w.toSrc = false ∧ w.step = .frsWait then (s.pdSend p .accept).swapStep p .accepted
        else s.stray p
      | none => s.stray p))

/-- VCONN_SWAP (R530), with the voltage at the VCONN pin in mV. A port whose VCONN R487 keeps off until the next attach
does not become its source (DEDUCED, log entry 127). -/
def execVconnSwap (p : PortId) (m : PdHdr) (vconnPin : Nat) (s : State) : Res :=
  let toSrc := !s.ports[p].vconn
  .next (s.swapAsked p m .vconn toSrc ((s.pset p).vcswen && (!toSrc || (decide (4750 < vconnPin) && !s.ports[p].vconnOff))))

/-- A structured VDM is answered on SOP only (R539). -/
def State.answerVdm (s : State) (p : PortId) (m : PdHdr) (c : VdmCmd) (ok : Bool) : State :=
  s.answerWith p m (fun _ => if ok then c.ack else c.nak)

/-- DISCOVER_IDENTITY (R539). -/
def execDiscoverIdentity (p : PortId) (m : PdHdr) (s : State) : Res := .next (s.answerVdm p m .identity true)
/-- DISCOVER_SVIDS (R539). -/
def execDiscoverSvids (p : PortId) (m : PdHdr) (s : State) : Res := .next (s.answerVdm p m .svids true)
/-- DISCOVER_MODES (R539): NAK for any other SVID. -/
def execDiscoverModes (p : PortId) (m : PdHdr) (svid : Word) (s : State) : Res :=
  .next (s.answerVdm p m (.modes svid) (svid == 0xD17C))
/-- ENTER_MODE (R541): one link at a time (R7), also while the ACK on the other port still waits for its GoodCRC. -/
def execEnterMode (p : PortId) (m : PdHdr) (svid : Word) (pos : Nat) (s : State) : Res :=
  .next (s.answerVdm p m (.enter svid pos)
    ((s.pset p).linken && svid == 0xD17C && pos == 1 && !(s.link.active && s.link.port != p) &&
      !(List.finRange 2).any (fun q => q != p && s.ports[q].entering)))
/-- EXIT_MODE (R541): always ACKed; it ends the link. -/
def execExitMode (p : PortId) (m : PdHdr) (svid : Word) (pos : Nat) (s : State) : Res := .next (s.answerVdm p m (.exit svid pos) true)
/-- ATTENTION (R539), and any SVID-specific command other than Enter Mode and Exit Mode, with its SVID and number: NAK. -/
def execAttention (p : PortId) (m : PdHdr) (svid : Word) (cmd : BitVec 5) (s : State) : Res :=
  .next (s.answerVdm p m (.other svid cmd) false)

/-- DISCOVERY_RESPONSE (R540): the answer to a command of discovery, on SOP. -/
def execDiscoveryResponse (p : PortId) (m : PdHdr) (cmd : VdmCmd) (r : VdmRes) (s : State) : Res :=
  .next (s.pdRecv p m false (fun s =>
    if m.sop ≠ 0 then s
    else match s.ports[p].pd.exch with
    | .vdmWait c =>
      if c = cmd then
        let s := s.endExch p
        if c.good r then s.discNext p c else s
      else s.stray p
    | _ => s.stray p))

/-- GET_SOURCE_CAP_EXTENDED (Table PD-2). -/
def execGetSourceCapExtended (p : PortId) (m : PdHdr) (s : State) : Res := .next (s.answerInfo p m (fun _ => .sourceExt))
/-- GET_SINK_CAP_EXTENDED (Table PD-2). -/
def execGetSinkCapExtended (p : PortId) (m : PdHdr) (s : State) : Res :=
  .next (s.answerInfo p m (fun s => .sinkExt ((s.pset p).snkimax.toNat * 50 * 20 / 1000)))
/-- GET_STATUS (Table PD-2), with the die temperature in °C: the OCP and OVP flags are used up. -/
def execGetStatus (p : PortId) (m : PdHdr) (temp : Nat) (s : State) : Res :=
  .next (s.pdRecv p m false (fun s => if m.sop = 0 then s.partnerStarts p (fun s =>
    let x := InfoMsg.status temp s.feederOn (s.keeper.batst == .present) s.ports[p].ocp s.ports[p].ovp
    (s.pdSend p x.msg).setPort p (fun q =>
      { q with ocp := false, ovp := false, pd := { q.pd with chunkOut := some (x, 1) } })) else s))
/-- GET_MANUFACTURER_INFO (Table PD-2). -/
def execGetManufacturerInfo (p : PortId) (m : PdHdr) (s : State) : Res := .next (s.answerInfo p m (fun _ => .manufacturer))
/-- GET_REVISION (Table PD-2). -/
def execGetRevision (p : PortId) (m : PdHdr) (s : State) : Res := .next (s.answerWith p m (fun _ => InfoMsg.revision.msg))

/-- A 5 V contract stands (Table PD-1). -/
def State.at5V (s : State) (p : PortId) : Bool := match s.ports[p].pd.contract with | some c => c.mv == 5000 | none => false

/-- BIST_CARRIER_MODE (R511): carrier for 45 ms. -/
def execBistCarrierMode (p : PortId) (m : PdHdr) (s : State) : Res :=
  .next (s.pdRecv p m false (fun s =>
    if s.at5V p then s.setPd p (fun d => { d with bist := .carrier, out := some { msg := .bistCarrier }, await := false }) else s))

/-- BIST_TEST_DATA (R511): Test Data received until Hard Reset. -/
def execBistTestData (p : PortId) (m : PdHdr) (s : State) : Res :=
  .next (s.pdRecv p m false (fun s => if s.at5V p then s.setPd p (fun d => { d with bist := .testData }) else s))

/-- BIST_CARRIER_END (R511). -/
def execBistCarrierEnd (p : PortId) (s : State) : Res :=
  .next (s.setPd p (fun d => { d with bist := if d.bist = .carrier then .none else d.bist }))

/-- Chunk `x` of an extended message (R512): the message is put together, with a Chunk Request for each chunk to come. The
whole is answered as a message that the hub does not support (R511). -/
def State.chunkRecv (s : State) (p : PortId) (x : ExtPart) : State :=
  let old : List Byte := match s.ports[p].pd.chunkIn with | some (_, l) => l | none => []
  let l := (if x.num = 0 then [] else old) ++ x.data.take 26
  if x.size ≤ l.length ∨ 260 < x.size then (s.setPd p (fun d => { d with chunkIn := none })).pdSend p .notSupported
  else (s.pdSend p (.chunkReq (x.num + 1))).setPd p (fun d => { d with chunkIn := some (x.size, l) })

/-- UNSUPPORTED_MESSAGE (R511, R512): an extended one with `x`, its packet. -/
def execUnsupportedMessage (p : PortId) (m : PdHdr) (x : Option ExtPart) (s : State) : Res :=
  match x with
  | none => .next (s.answerWith p m (fun _ => .notSupported))
  | some x =>
    if x.chunked = false then .next (s.answerWith p m (fun _ => .notSupported))
    else .next (s.pdRecv p m false (fun s =>
      if m.sop ≠ 0 then s
      else if x.num = 0 then s.partnerStarts p (fun s => s.chunkRecv p x)
      else if s.ports[p].pd.follows x then s.chunkRecv p x
      else s.stray p))

/-- CHUNK_REQUEST (R512): the sender's next chunk. -/
def execChunkRequest (p : PortId) (m : PdHdr) (n : Nat) (s : State) : Res :=
  .next (s.pdRecv p m false (fun s =>
    match s.ports[p].pd.chunkOut with
    | some (i, k) =>
      if k = n ∧ k < i.chunks then (s.pdSend p (.chunk i k (i.part k))).setPd p (fun d => { d with chunkOut := some (i, k + 1) }) else s.stray p
    | none => s.stray p))

/-- CHUNK_TIMEOUT (R512): the message is abandoned without a Soft_Reset. -/
def execChunkTimeout (p : PortId) (s : State) : Res :=
  .next (if s.ports[p].pd.chunkOut.isSome then s.endExch p else s)

/-- HARD_RESET (R526): received. -/
def execHardReset (p : PortId) (s : State) : Res :=
  let q := s.ports[p]
  .next (if q.pd.on && !q.leaving then (s.hardResetAct p).post 0x7017 p.val 2 else s)

/-- GOODCRC_TIMEOUT (R505, R506). -/
def execGoodcrcTimeout (p : PortId) (s : State) : Res :=
  let d := s.ports[p].pd
  match d.out with
  | some o =>
    if d.await = false then .next s
    else if d.sent < 3 ∧ (o.sop = 0 ∨ s.ports[p].vconn = true) then .next (s.setPd p (fun d => { d with sent := d.sent + 1 }))
    else .next (s.failedOn p o)
  | none => .next s

/-- SINKTXNG_WAIT_END (R508). -/
def execSinktxngWaitEnd (p : PortId) (s : State) : Res :=
  let d := s.ports[p].pd
  match d.own with
  | x :: _ => .next (if d.ngWait then s.sendOwn p x else s)
  | [] => .next s

/-- SINK_TX_OK (R509): the partner's Rp is back at 3.0 A. -/
def execSinkTxOk (p : PortId) (s : State) : Res :=
  let d := s.ports[p].pd
  match d.own.filter (s.stands p) with
  | x :: _ => .next (if s.ports[p].state == .sink && d.exch == .idle && !d.await then s.sendOwn p x else s)
  | [] => .next s

/-- SOURCE_CAP_TIMER (R514). -/
def execSourceCapTimer (p : PortId) (s : State) : Res :=
  let q := s.ports[p]
  let d := q.pd
  .next (if q.state == .source && d.on && !q.leaving && q.srcFet && d.contract.isNone && !d.revBad && !d.noPd && d.exch == .idle && !d.await &&
      (d.hr == .none || d.hr == .srcOn) then
    (s.setPd p (fun d => { d with hr := .none })).sendCaps p else s)

/-- SENDER_RESPONSE_TIMEOUT (R524, Tables PD-3, SW-2). -/
def execSenderResponseTimeout (p : PortId) (s : State) : Res :=
  let d := s.ports[p].pd
  if d.await then .next s
  else match d.exch with
    | .capsWait | .reqWait | .softWait => .next (s.sendHard p)
    | .swap =>
      (match d.swap with
      | some w =>
        if w.mine ∧ w.step = .asked then
          (if w.kind = .fr then .next (s.swapFail p .fr)
          else .next (((s.setPd p (fun d => { d with swap := none })).endExch p).post 0x7022 p.val w.kind.code))
        else .next s
      | none => .next s)
    | _ => .next s

/-- SOURCE_TRANSITION_WAIT (R519). -/
def execSourceTransitionWait (p : PortId) (s : State) : Res :=
  let d := s.ports[p].pd
  match d.next with
  | some c =>
    if d.move ≠ .waiting then .next s
    else if d.sameV then .next ((s.setPd p (fun d => { d with move := .ready })).pdSend p .psRdy)
    else .next (s.setPort p (fun q => { q with vset := c.mv, dis := decide (c.mv < q.vset), pd := { q.pd with move := .moving } }))
  | none => .next s

/-- SOURCE_VBUS_SETTLED (R519; step 4 of Table SW-2). -/
def execSourceVbusSettled (p : PortId) (s : State) : Res :=
  let d := s.ports[p].pd
  if d.move = .moving then
    .next ((s.setPort p (fun q => { q with dis := false, vbus := q.vset, pd := { q.pd with move := .ready } })).pdSend p .psRdy)
  else match d.swap with
    | some w => if w.kind = .pr ∧ w.step = .newOn then .next ((s.pdSend p .psRdy).swapStep p .newReady) else .next s
    | none => .next s

/-- SOURCE_TRANSITION_TIMEOUT (R519). -/
def execSourceTransitionTimeout (p : PortId) (s : State) : Res :=
  let d := s.ports[p].pd
  .next (if d.exch = .srcTrans ∧ d.move ≠ .ready then (s.post 0x7015 p.val 0).sendHard p else s)

/-- SINK_TRANSITION_TIMEOUT (R522). -/
def execSinkTransitionTimeout (p : PortId) (s : State) : Res :=
  .next (if s.ports[p].pd.exch = .snkTrans then (s.post 0x7015 p.val 0).sendHard p else s)

/-- SINK_WAIT_CAP_TIMEOUT (R525). -/
def execSinkWaitCapTimeout (p : PortId) (s : State) : Res :=
  let q := s.ports[p]
  .next (if q.state == .sink && q.pd.on && q.pd.contract.isNone && q.pd.exch == .idle && !q.pd.noPd && !q.pd.revBad then s.sendHard p else s)

/-- VBUS_UNDERVOLTAGE (R523). -/
def execVbusUndervoltage (p : PortId) (s : State) : Res :=
  let q := s.ports[p]
  .next (if q.state == .sink && q.pd.contract.isSome && q.pd.exch != .snkTrans &&
      !q.pd.inSwap then (s.post 0x7016 p.val 0).sendHard p else s)

/-- HARD_RESET_SOURCE_OFF (R526). -/
def execHardResetSourceOff (p : PortId) (s : State) : Res :=
  .next (if s.ports[p].pd.hr = .srcWait then
      s.setPort p (fun q => { q with srcFet := false, vset := 5000, vconn := false, dis := true, pd := { q.pd with hr := .srcOff } }) else s)

/-- HARD_RESET_SOURCE_RESTORE (R526): 0.75 s after VBUS fell below 0.8 V. -/
def execHardResetSourceRestore (p : PortId) (s : State) : Res :=
  .next (if s.ports[p].pd.hr = .srcOff ∧ s.ports[p].dis = false then
      (s.setPort p (fun q => { q with srcFet := true, vset := 5000, pd := { q.pd with hr := .srcOn } })).vconnRule p else s)

/-- HARD_RESET_SINK_TIMEOUT (R526): the end of the 1.925 s, with VBUS in mV. -/
def execHardResetSinkTimeout (p : PortId) (vbus : Nat) (s : State) : Res :=
  .next (if s.ports[p].pd.hr = .snkWait then
      (if 4750 < vbus then s.setPd p (fun d => { d with hr := .none }) else s.portRecover p) else s)

/-- WAIT_RESEND (R511). -/
def execWaitResend (p : PortId) (s : State) : Res :=
  .next (if s.ports[p].state == .sink && s.ports[p].pd.waitDue then s.startOwn p .request else s)

/-- CAPABILITY_CHANGE (R515): the advertised set has changed; at a measure beat. -/
def execCapabilityChange (p : PortId) (s : State) : Res :=
  let q := s.ports[p]
  .next (if s.running && s.clk.tick == 0 && q.state == .source && q.pd.contract.isSome && s.capsChanged p then
    s.startOwn p .sourceCaps else s)

/-- SWAPCMD (R531). -/
def State.swapcmd (s : State) (c : CtxId) (p : PortId) (x : OwnEx) (ofs : Nat) : State :=
  let d := s.ports[p].pd
  s.sysWrite c ofs (d.contract.isSome && d.swap.isNone) (fun s => s.startOwn p x)

/-- SWAPCMD_PR_SWAP (R531). -/
def execSwapcmdPrSwap (c : CtxId) (p : PortId) (s : State) : Res := .next (s.swapcmd c p (s.ports[p].askPr) 0x1A)
/-- SWAPCMD_VCONN_SWAP (R531). -/
def execSwapcmdVconnSwap (c : CtxId) (p : PortId) (s : State) : Res := .next (s.swapcmd c p (s.ports[p].askVconn) 0x1A)

/-- PR_SWAP_SOURCE_OFF (R529, Table SW-2): 30 ms after the Accept's GoodCRC. -/
def execPrSwapSourceOff (p : PortId) (s : State) : Res :=
  match s.ports[p].pd.swap with
  | some w =>
    if w.kind = .pr ∧ w.step = .oldOff ∧ w.toSrc = false then .next (s.setPort p (fun q => { q with srcFet := false, vset := 5000, dis := true }))
    else .next s
  | none => .next s

/-- SWAP_TIMEOUT (R535, Tables SW-2 to SW-4): a limit has been missed. -/
def execSwapTimeout (p : PortId) (s : State) : Res :=
  match s.ports[p].pd.swap with
  | some w =>
    if w.step = .asked then .next s
    else if w.kind = .vconn then .next (if w.toSrc then s else s.sendHard p)
    else .next (s.swapFail p w.kind)
  | none => .next s

/-- FRS_SIGNAL_DETECT (R532, R537): an armed sink opens its FET on a pull-down of 50 to 150 µs, whatever exchange runs; only
a PR_Swap whose Accept has been acknowledged, and a Fast Role Swap under way, are not broken off. -/
def execFrsSignalDetect (p : PortId) (us : Nat) (s : State) : Res :=
  let free := match s.ports[p].pd.swap with
    | some w => w.kind == .vconn || (w.kind == .pr && (w.step == .asked || w.step == .accepted)) | none => true
  .next (if s.frsArmed p && free && decide (50 ≤ us ∧ us ≤ 150) then
      ((s.captureFrom (portSrc p 1)).portUnfeed p).setPort p (fun q => { q with snkFet := false, pd := { q.pd with
        swap := some { kind := .fr, step := .discharge, mine := true, toSrc := true }, exch := .swap, ownEx := false, await := false } })
    else s)

/-- FRS_VBUS_LOW (R534, Table SW-3): VBUS is below 5.50 V, at either side. -/
def execFrsVbusLow (p : PortId) (s : State) : Res :=
  match s.ports[p].pd.swap with
  | some w =>
    if w.kind ≠ .fr then .next s
    else if w.toSrc then
      (if w.step = .discharge then
        .next (((s.setPort p (fun q => { q with srcFet := true })).pdSend p .frSwap).swapStep p .frsWait) else .next s)
    else
      let s := s.setPort p (fun q => { q with dis := false })
      if w.step = .oldOff then .next ((s.pdSend p .psRdy).swapStep p .oldReady) else .next s
  | none => .next s

/-- FRS_SIGNAL_END (R533). -/
def execFrsSignalEnd (p : PortId) (s : State) : Res :=
  match s.ports[p].pd.swap with
  | some w =>
    if w.kind = .fr ∧ w.step = .signal then
      .next ((s.setPort p (fun q => { q with srcFet := false, vset := 5000, dis := true })).swapStep p .frsWait)
    else .next s
  | none => .next s

/-- BORROW_BACK_PR_SWAP (R552). -/
def execBorrowBackPrSwap (p : PortId) (s : State) : Res :=
  .next (if s.borrows p && s.ports[p].pd.swap.isNone then s.startOwn p .borrow else s)

/-- DISCOVERY_START (R540). -/
def execDiscoveryStart (p : PortId) (s : State) : Res :=
  let q := s.ports[p]
  let s' := s.setPd p (fun d => { d with discDue := false })
  .next (if q.pd.discDue && s.discovers p then
    s'.startOwn p (.vdm .identity) else s)

/-- DISCOVERY_TIMEOUT (R540). -/
def execDiscoveryTimeout (p : PortId) (s : State) : Res :=
  match s.ports[p].pd.exch with
  | .vdmWait _ => .next (s.endExch p)
  | _ => .next s

end Sys2Proof.Machine
end

