-- ==== Sys2Proof/Machine/Sha.lean ====
section
/-! DEFINITION. HMAC-SHA-256 (FIPS 198-1, FIPS 180-4), which R621 names for the debug challenge. -/

namespace Sys2Proof

/-- The round constants of SHA-256, in four parts. -/
def shaK0 : List (BitVec 32) :=
  [0x428A2F98, 0x71374491, 0xB5C0FBCF, 0xE9B5DBA5, 0x3956C25B, 0x59F111F1, 0x923F82A4, 0xAB1C5ED5,
   0xD807AA98, 0x12835B01, 0x243185BE, 0x550C7DC3, 0x72BE5D74, 0x80DEB1FE, 0x9BDC06A7, 0xC19BF174]
def shaK1 : List (BitVec 32) :=
  [0xE49B69C1, 0xEFBE4786, 0x0FC19DC6, 0x240CA1CC, 0x2DE92C6F, 0x4A7484AA, 0x5CB0A9DC, 0x76F988DA,
   0x983E5152, 0xA831C66D, 0xB00327C8, 0xBF597FC7, 0xC6E00BF3, 0xD5A79147, 0x06CA6351, 0x14292967]
def shaK2 : List (BitVec 32) :=
  [0x27B70A85, 0x2E1B2138, 0x4D2C6DFC, 0x53380D13, 0x650A7354, 0x766A0ABB, 0x81C2C92E, 0x92722C85,
   0xA2BFE8A1, 0xA81A664B, 0xC24B8B70, 0xC76C51A3, 0xD192E819, 0xD6990624, 0xF40E3585, 0x106AA070]
def shaK3 : List (BitVec 32) :=
  [0x19A4C116, 0x1E376C08, 0x2748774C, 0x34B0BCB5, 0x391C0CB3, 0x4ED8AA4A, 0x5B9CCA4F, 0x682E6FF3,
   0x748F82EE, 0x78A5636F, 0x84C87814, 0x8CC70208, 0x90BEFFFA, 0xA4506CEB, 0xBEF9A3F7, 0xC67178F2]

/-- The initial hash value. -/
def shaInit : List (BitVec 32) :=
  [0x6A09E667, 0xBB67AE85, 0x3C6EF372, 0xA54FF53A,
   0x510E527F, 0x9B05688C, 0x1F83D9AB, 0x5BE0CD19]

/-- Ch, Maj and the four sums of SHA-256. -/
def shaCh (x y z : BitVec 32) : BitVec 32 := (x &&& y) ^^^ (~~~x &&& z)
def shaMaj (x y z : BitVec 32) : BitVec 32 := (x &&& y) ^^^ (x &&& z) ^^^ (y &&& z)
def shaRot (n : Nat) (x : BitVec 32) : BitVec 32 := x.rotateRight n
def shaS0 (x : BitVec 32) : BitVec 32 := shaRot 2 x ^^^ shaRot 13 x ^^^ shaRot 22 x
def shaS1 (x : BitVec 32) : BitVec 32 := shaRot 6 x ^^^ shaRot 11 x ^^^ shaRot 25 x
def shaW0 (x : BitVec 32) : BitVec 32 := shaRot 7 x ^^^ shaRot 18 x ^^^ (x >>> 3)
def shaW1 (x : BitVec 32) : BitVec 32 := shaRot 17 x ^^^ shaRot 19 x ^^^ (x >>> 10)

/-- The message schedule: `n` more words after those of `w`, which holds the newest first. -/
def shaSched : Nat → List (BitVec 32) → List (BitVec 32)
  | 0, w => w
  | n + 1, w => shaSched n ((shaW1 (w.getD 1 0) + w.getD 6 0 + shaW0 (w.getD 14 0) + w.getD 15 0) :: w)

/-- One round on the eight working variables. -/
def shaRound (v : List (BitVec 32)) (kw : BitVec 32 × BitVec 32) : List (BitVec 32) :=
  match v with
  | [a, b, c, d, e, f, g, h] =>
    let t1 := h + shaS1 e + shaCh e f g + kw.1 + kw.2
    let t2 := shaS0 a + shaMaj a b c
    [t1 + t2, a, b, c, d + t1, e, f, g]
  | v => v

/-- One block of 16 words. -/
def shaBlock (h : List (BitVec 32)) (w : List (BitVec 32)) : List (BitVec 32) :=
  let sched := (shaSched 48 w.reverse).reverse
  let v := ((shaK0 ++ shaK1 ++ shaK2 ++ shaK3).zip sched).foldl shaRound h
  List.zipWith (· + ·) h v

/-- Bytes as big-endian words. -/
def wordsBE : List Byte → List (BitVec 32)
  | a :: b :: c :: d :: rest => (a ++ b ++ c ++ d) :: wordsBE rest
  | _ => []

/-- Blocks of 16 words, hashed in order. -/
def shaBlocks : Nat → List (BitVec 32) → List (BitVec 32) → List (BitVec 32)
  | 0, _, h => h
  | n + 1, w, h => shaBlocks n (w.drop 16) (shaBlock h (w.take 16))

/-- A big-endian number of `n` bytes. -/
def bytesBE : Nat → Nat → List Byte
  | 0, _ => []
  | n + 1, x => bytesBE n (x / 256) ++ [BitVec.ofNat 8 x]

/-- Padding: a 1 bit, zeros, the length in bits in 8 bytes. -/
def shaPad (m : List Byte) : List Byte :=
  let n := m.length
  m ++ [0x80] ++ List.replicate ((119 - n % 64) % 64) 0 ++ bytesBE 8 (8 * n)

/-- SHA-256 of a message, as 32 bytes. -/
def sha256 (m : List Byte) : List Byte :=
  let p := shaPad m
  (shaBlocks (p.length / 64) (wordsBE p) shaInit).flatMap (fun w => bytesBE 4 w.toNat)

/-- HMAC-SHA-256 with a key of 32 bytes. -/
def hmac (key m : List Byte) : List Byte :=
  let k := padTo 0 64 key
  sha256 (k.map (· ^^^ 0x5C) ++ sha256 (k.map (· ^^^ 0x36) ++ m))

/-- The response of R621: the first 8 bytes of the HMAC over nonce, PARTID, REV, requested state and level. -/
def debugResponse (key : BitVec 256) (nonce : BitVec 64) (req level : Byte) : BitVec 64 :=
  let m := bytesBE 8 nonce.toNat ++ [0x96, 0x00, 0xB0, req, level]
  BitVec.ofNat 64 (((hmac (bytesBE 32 key.toNat) m).take 8).foldl (fun n b => 256 * n + b.toNat) 0)

end Sys2Proof
end

