-- ==== Sys2Proof/Machine/SecOps.lean ====
section
/-! DEFINITION. Security levels, access codes, the debug challenge and the test access port (chapter 25). -/

namespace Sys2Proof

/-- Codes of SECSTAT (Table HR-2). -/
def Level.code : Level → Nat
  | .develop => 0 | .field => 1 | .sealed_ => 2
def Dbg.code : Dbg → Nat
  | .none => 0 | .observe => 1 | .control => 2

/-- The context opens (R616). -/
def Session.opens (x : Session) (admin : Bool) : Session :=
  { x with open_ := true, adminOpen := admin, failures := 0, pending := none, pendTo := none }

/-- The context closes (R617). -/
def Session.close (x : Session) : Session := { x with open_ := false, adminOpen := false, pending := none, pendTo := none }

/-- The length of the refusal period after `n` wrong codes, in s (R618). -/
def refusalSec (n : Nat) : Nat := min 1280 (10 * 2 ^ (n - 3))

/-- A wrong code in tick `now` (R616, R618). -/
def Session.wrong (x : Session) (now : Nat) : Session :=
  let n := x.failures + 1
  { x with failures := n, refusing := decide (3 ≤ n), refuseTo := if 3 ≤ n then some (now + 1000 * refusalSec n) else none }

/-- EXTEST, CLAMP and HIGHZ. -/
def Jtag.external (i : Jtag) : Bool := i == .extest || i == .clamp || i == .highz

/-- A failed response in tick `now` (R622). -/
def Sec.respFail (q : Sec) (now : Nat) : Sec :=
  { q with failures := q.failures + 1, nonce := none, nonceTo := none, lockout := true, lockTo := some (now + 1000) }

/-- What the next Capture-DR of DBGACC returns (R628): BUSY while an access waits for its transfer. -/
def Sec.accWord (q : Sec) : BitVec 64 :=
  BitVec.ofNat 64 (q.accData.toNat + 65536 * q.accDone.toNat + 131072 * q.accRej.toNat + 262144 * q.accOp.isSome.toNat)

/-- A code of Table SE-2 in the sets that Table SE-3 allows: set T, and set I at DEVELOP. -/
def tmuxCode (dev : Bool) (w : BitVec 8) : BitVec 8 :=
  let n := w.toNat
  if (1 ≤ n ∧ n ≤ 0x0F) ∨ (dev = true ∧ 0x20 ≤ n ∧ n ≤ 0x25) then w else 0

end Sys2Proof

namespace Sys2Proof.Machine

/-- The tick of an instant of the security unit has come, and has gone by. -/
def State.reached (s : State) (o : Option Nat) : Bool := match o with | some k => decide (k ≤ s.clk.ticks) | none => true
def State.goneBy (s : State) (o : Option Nat) : Bool := match o with | some k => decide (k < s.clk.ticks) | none => false

def State.setSess (s : State) (c : CtxId) (f : Session → Session) : State :=
  s.setSec (fun q => { q with sess := upd q.sess (ordIx c) f })

/-- SECCTL (R613, R614): the key-area line is written at once, and no write names a level below the line's. -/
def State.secctl (s : State) (c : CtxId) (w : Word) : State :=
  let q := s.sec
  let up (l : Level) : Bool := (w == 0xF1E1 && l == .develop) || (w == 0x5EA1 && l != .sealed_)
  let held : Level := match q.newLevel with | some l => l | none => q.level
  s.sysWrite c 0x60 (up held && q.admin.isSome && c == ctxSYS) (fun s =>
    s.setSec (fun q => { q with newLevel := some (if w = 0x5EA1 then .sealed_ else .field) }))

/-- A written level takes effect (R614). -/
def State.levelApply (s : State) : State :=
  match s.sec.newLevel with
  | none => s
  | some l =>
    let fromDev := s.sec.level == .develop
    let s := s.endSession
    let s := s.setSec (fun q => { q with level := l, newLevel := none, levelDue := false })
    if fromDev then
      (List.finRange 4).foldl (fun s t => s.setSess (ctxOf t) Session.close) s
    else s

/-- At a measure beat a level whose line was written before it is due (R614). -/
def State.levelBeat (s : State) : State :=
  let s := if s.sec.levelDue then s.levelApply else s
  s.setSec (fun q => { q with levelDue := q.newLevel.isSome })

/-- The code that opens a context as its own (R616, R617): in SYS it is the administrator code. -/
def State.ownCode (s : State) (c : CtxId) : Option (BitVec 64) :=
  match tenantOf c with | some t => s.sec.codes[t] | none => s.sec.admin

/-- The pending code is committed (R617). -/
def State.commitCode (s : State) (c : CtxId) (p : BitVec 64) : State :=
  let s := s.setSess c (fun x => { x with pending := none, pendTo := none })
  match tenantOf c with
  | some t => s.setSec (fun q => { q with codes := upd q.codes t (fun _ => some p) })
  | none => s.setSec (fun q => { q with admin := some p })

/-- A whole code written to ACODE (R615 to R618). The debug context has no code of its own. -/
def State.acode (s : State) (c : CtxId) (code : BitVec 64) : State :=
  let x := s.sec.sess[ordIx c]
  if s.busOn = false then s
  else if !(s.running || s.start.recalled) then s.reject c 0x40
  else if c = ctxDbg then (if s.dbgEffect = .control then s else s.reject c 0x40)
  else if x.refusing && !s.goneBy x.refuseTo then s.reject c 0x40
  else if x.open_ = false then
    if code = 0 then s
    else if s.ownCode c = some code then s.setSess c (fun x => x.opens (c == ctxSYS))
    else if s.sec.admin = some code then s.setSess c (fun x => x.opens true)
    else (s.setSess c (fun x => x.wrong s.clk.ticks)).reject c 0x40
  else if code = 0 then (if s.sec.level = .develop then s else s.setSess c Session.close)
  else if code = BitVec.allOnes 64 then s.reject c 0x40
  else
    let waits := s.setSess c (fun x => { x with pending := some code, pendTo := some (s.clk.ticks + 1000) })
    match x.pending with
    | some p => if code = ~~~p ∧ s.goneBy x.pendTo = false then s.commitCode c p else waits
    | none => waits

/-- The TAP answers (R627). -/
def State.tapOn (s : State) : Bool := s.start.stage != .off && !s.start.isDorm && !s.latch.ship

/-- An instruction is loaded into the TAP, or BYPASS in its place where it is not allowed; the core leaves the
reset of R630. -/
def State.loadIr (s : State) (i : Jtag) (ok : Bool) : State :=
  let i := if ok then i else .bypass
  s.setSec (fun q => { q with ir := i, coreReset := q.coreReset && i.external })

/-- An instruction and, where it is allowed, its effect. -/
def State.tap (s : State) (i : Jtag) (ok : Bool) (f : State → State) : State :=
  if s.tapOn then (let s := s.loadIr i ok; if ok then f s else s) else s

/-- EXTEST, CLAMP and HIGHZ (R630, Table SE-1): allowed at DEVELOP, and at FIELD with CONTROL in effect. The
core is held in reset with cause SWRST. -/
def State.tapExternal (s : State) (i : Jtag) : State :=
  let ok := s.sec.level == .develop || (s.sec.level == .field && s.dbgEffect == .control)
  s.tap i ok (fun s => (s.hubReset 6).setSec (fun q => { q with coreReset := true }))

/-- A state is granted (R620). -/
def State.grant (s : State) (d : Dbg) : State := (s.setSec (fun q => { q with granted := d })).debugFall

/-- DBGREQ's data (R620). -/
def State.debugRequest (s : State) (req : BitVec 2) : State :=
  let d : Dbg := if req = 1 then .observe else .control
  if req = 0 ∨ req = 3 ∨ (req = 2 ∧ s.sec.level = .sealed_) then s
  else
    let s := s.setSec (fun q => { q with request := d })
    if s.sec.level = .develop then s.grant d else s

/-- A Capture-DR of DBGCHAL (R621, R622). -/
def State.challenge (s : State) : State :=
  let q := s.sec
  if q.level = .develop ∨ (q.lockout = true ∧ s.goneBy q.lockTo = false) ∨ 8 ≤ q.failures then s.setSec (fun q => { q with dr := 0 })
  else
    let n := Config.freeNonce s.free
    { s.setSec (fun q => { q with nonce := some n, nonceTo := some (s.clk.ticks + 10000), dr := n }) with free := s.free + 1 }

/-- DBGRESP's data (R621, R622). -/
def State.respond (s : State) (resp : BitVec 64) : State :=
  let q := s.sec
  match q.key, q.nonce with
  | some k, some n =>
    if q.request ≠ .none ∧ s.goneBy q.nonceTo = false ∧ resp = debugResponse k n (BitVec.ofNat 8 q.request.code) (BitVec.ofNat 8 q.level.code) then
      (s.setSec (fun q => { q with nonce := none, nonceTo := none, failures := 0 })).grant q.request
    else s.setSec (fun q => q.respFail s.clk.ticks)
  | _, _ => s.setSec (fun q => q.respFail s.clk.ticks)

/-- The level of TMUX0 or TMUX1, or none where the pin is undriven (R631, Tables SE-2, SE-3). What lies within a tick
(pulses, clocks, the lines as received) is free. -/
def State.tmuxPin (s : State) (n : Fin 2) : Option Bool :=
  let w := if n = 0 then s.sec.tmsel0 else s.sec.tmsel1
  let dev := s.sec.level == .develop
  if s.tapOn = false ∨ (dev = false ∧ (s.sec.level = .sealed_ ∨ s.dbgEffect = .none)) ∨ tmuxCode dev w = 0 then none
  else some (match w.toNat with
    | 0x03 => s.stageNow == .front
    | 0x04 => s.eng.slot == some voiceSYS
    | 0x05 => s.eng.slot == some 0
    | 0x06 => s.eng.slot == some 1
    | 0x07 => s.eng.slot == some 2
    | 0x08 => s.eng.slot == some 3
    | 0x09 => s.stageNow == .loader
    | 0x0A => s.stageNow == .haul || s.stageNow == .journal
    | 0x0F => s.feeders.any (fun f => (f.state == .ramp || f.state == .on) && f.lim)
    | _ => Config.freeBool s.free)

/-- SECREAD's data (Table SE-1). -/
def State.secWord (s : State) : BitVec 64 :=
  let q := s.sec
  BitVec.ofNat 64 (q.level.code + 4 * q.granted.code + 16 * s.dbgEffect.code + 64 * min 15 q.failures +
    1024 * q.key.isSome.toNat + 2048 * q.admin.isSome.toNat)

/-- What a Capture-DR of DBGCTL returns (R629): HALTED, the breakpoints hit, the voice stopped. -/
def State.ctlWord (s : State) : BitVec 64 :=
  let hit := (List.finRange 8).foldl (fun n i => n + if s.sec.brks[i].hit then 2 ^ i.val else 0) 0
  BitVec.ofNat 64 (s.eng.halted.toNat + 2 * hit + 512 * (match s.sec.brkVoice with | some v => v.val | none => 7))

/-- A DBGCTL command (R625, R629): CONTROL, and not at SEALED. Its scan captures before it updates. -/
def State.debugControl (s : State) (f : State → State) : State :=
  s.tap .dbgctl (s.dbgEffect == .control && s.sec.level != .sealed_) (fun s => f (s.setSec (fun q => { q with dr := s.ctlWord })))

end Sys2Proof.Machine
end

