-- ==== Sys2Proof/Machine/PipeOps.lean ====
section
/-! DEFINITION. The measure pipeline: the beats, Face with Crusher and Screen, the keeper pass, the guards
and the journal (chapters 01, 05, 06, 07, 08, 14, 15, 16). -/

namespace Sys2Proof

/-- The fields of a slot that the hub's record of the number keeps (R79, R137, R139). -/
def TileHub.takeSlot (h : TileHub) (x : TelSlot) (low : BitVec 8) : TileHub :=
  let bad := x.epochlo != low
  { h with cls := .valid, slotBad := 0, stale := 0, safe := x.safe, clkhold := x.clkhold, adcfail := x.adcfail
           vinlow := x.vinlow, vinov := x.vinov, vin := x.vin, vlog := x.vlog, die := x.die, tio := x.tio
           epBad := bad, epFails := if bad then h.epFails else 0
           pushDue := h.pushDue || (bad && h.present) }

/-- What a measure beat does to the record of a number (R160, R167, R188). -/
def TileHub.beat (h : TileHub) (exit : Bool) : TileHub :=
  { h with dropLast := h.dropMeas, dropMeas := false, cls := .pending, stepped := false
           exitSent := if exit then min 2 (h.exitSent + 1) else 0 }

/-- OVRD (R241). -/
def BayVol.overGrant (v : BayVol) (eff : Nat) : Bool :=
  v.isocl && v.wb.granted && decide (v.wb.grant * 17 * 2500 * eff < v.vnow * v.inow * 16)

/-- The record that has been applied at tick 1 (R25, R209). -/
def BayVol.took (v : BayVol) (mode : BitVec 2) (tick : Nat) : BayVol :=
  { v with prevApp := v.applied, applied := mode, appliedAt := tick }

/-- A removed bay's pass-through fails with cause 5 (Table WR-4). -/
def PtBox.gone (x : PtBox) : PtBox :=
  if x.queued.isSome then
    { x with queued := none, merged := none, handed := false, fetch := false, fail := true, fcause := 5 }
  else x

/-- What an old owner loses of a bay that has moved (R573): edge orders and a pass-through that no Loader has
merged. -/
def CtxBay.moved (x : CtxBay) : CtxBay :=
  { x with edge := {}, pt := if x.pt.merged.isNone then { x.pt with queued := none } else x.pt }

/-- A pass-through is done (R600). -/
def PtBox.finish (x : PtBox) (w : Word) : PtBox :=
  { x with queued := none, merged := none, handed := false, done := true, word := w }

/-- A settings change acts as RESTART on a charge (R226). -/
def BaySet.restarts (a b : BaySet) : Bool := a.prof != b.prof || a.cells != b.cells || a.capmah != b.capmah

/-- VDORM in mV (Table PM-5). -/
def vdormMv (g : ModeSet) (k : BaySet) : Nat :=
  if g.vdorm = 0 then k.cells.toNat * (if k.prof = 3 then 3300 else 1000) else g.vdorm.toNat * 100

/-- The keeper's readings at a measure beat (R418, R423, R424), which its limits bound: the input current by `lim` ±5 %
±20 mA (R415), the output by 2.50 A ±5 %, and with the battery switch closed VKEEP by the voltage limit ±0.5 %, a higher
battery apart. Where none of the three binds, IBAT is its target, and where one does, no more than that (R416). With the
switch open VKEEP is at `node` ±2 %, or below it where limit 1 or 2 binds (R417). -/
def Keeper.read (k : Keeper) (a : KeepAdc) (lim : Nat) (node : Option Nat) : Keeper :=
  let iin := if k.buck then min a.iin (lim * 105 / 100 + 20) else 0
  let iout := if k.buck then min a.iout 2625 else 0
  let inlim := k.buck && (decide (lim * 105 / 100 + 20 ≤ iin) || (a.inlim && decide (lim * 95 / 100 ≤ iin + 20)))
  let outlim := k.buck && (decide (2625 ≤ iout) || (a.outlim && decide (2375 ≤ iout)))
  let steers := k.buck && k.batsw
  let vbind := decide (k.vlimit * 995 ≤ a.vkeep * 1000)
  let ibat := if steers then (if inlim || outlim || vbind then min a.ibat k.target else k.target) else a.ibat
  let vkeep :=
    if steers then min a.vkeep (max a.bat (k.vlimit * 1005 / 1000))
    else match (if k.buck then node else none) with
      | some n => min (n * 102 / 100) (if inlim || outlim then a.vkeep else max (n * 98 / 100) a.vkeep)
      | none => a.vkeep
  { k with bat := a.bat, vkeep := vkeep, ibat := ibat, iin := iin, iout := iout, kntc := a.kntc, inlim := inlim, outlim := outlim
           openRun := if ntcOpen a.kntc && k.batsw then k.openRun + 1 else 0
           shutRun := if k.batst = .missing ∧ ntcOpen a.kntc = false then k.shutRun + 1 else 0 }

/-- Bits of a mask over 1728 output bits, set in a range. -/
def bitRange (lo n : Nat) : BitVec 1728 := (BitVec.ofNat 1728 (2 ^ n - 1)) <<< lo

/-- The keeper's charge of a battery that is present (R186, R206 to R218, R222): the hub's records of it after the
pass. An interruption ends with Tutti's first beat (R468, `tutti`). `inRest`: the measure that has ended lay in a rest; `rest`: its measurement is taken at this beat; `begins`:
a rest begins. Rests count as charge time (R209); a pulse ends where its rest begins (R223). -/
def keeperCharge (e : BayEnv) (v : BayVol) (r : BayRun) (buck tutti inRest rest begins : Bool) : BayVol × BayRun :=
  let pt := v.pulseTicks e
  let pulsed := if inRest then 0 else pt
  let t : TelBay := { restv := rest, isocl := v.applied == 1 && !inRest }
  let v := { v with ipSum := v.ipSum + v.inow * pulsed, ipCnt := v.ipCnt + pulsed
                    isoRun := if pt = 0 then v.isoRun + e.p else 0
                    vrest := if rest then v.vnow else v.vrest, vrage := if rest then 0 else satAdd 65535 v.vrage 1 }
  let v := if begins && decide (v.ipCnt ≠ 0) then
      { v with ipulse := some (v.ipSum / v.ipCnt), ipSum := 0, ipCnt := 0, newPulse := true } else { v with newPulse := false }
  let chem : Chem := if e.set.prof = 3 then .liion else .nimh
  let r := if r.base = .none ∨ v.mRestart = true then
      { r with qacc := if v.mRestart then 0 else r.qacc }.begin_ chem e.set.cells.toNat v.vnow else r
  let v := { v with mRestart := false }
  let r := r.advance e pt
  let r := { r with qacc := r.qacc + v.inow * pulsed }
  let r := if rest then r.restStore e v.vnow v.temp else r
  let r := if r.interrupted && tutti then { r with interrupted := false, resume := true } else r
  let x : BayVol × BayRun × Bool :=
    if r.interrupted then (v, r, false)
    else if r.resume then let z := resumeStep e v r; (z.1, z.2, v.temp.isSome)
    else match v.temp with
      | none => (v, r, false)
      | some temp =>
        let m := if rest then some v.vnow else none
        let r := match m with | some y => r.restIn e y v.temp | none => r
        let r := tempStep e r temp
        let r := if r.chem.nickel || r.base == .done then r else lithiumStep e v r m
        (v, if r.held then r else phaseStep e v r temp t, true)
  let r := { x.2.1 with pack := .ready }
  let v := profileOrder e x.1 r x.2.2
  let on := v.pMode == 1 && buck
  let r := if pulsed = 0 then r else { r with pulseEnd := if on && !begins then none else some e.el }
  (v.took (if on then 1 else 0) e.now, r)

end Sys2Proof

namespace Sys2Proof.Machine

/-- A tick passes (R44, R54, R255, R278, R291, R316, R388, R396, R472); `meas`: at a measure beat. A record of the hub's
own that has the port takes less than a tick (R349, R393). -/
def State.passTick (s : State) (meas : Bool) (o : HubTick) : State :=
  let s := s.ownRecord.setClk (fun c => { (c.slow 32) with ticks := c.ticks + 1 })
  let m := s.act.wb.canonper.toNat * 10
  let s := s.setC (fun c => { c with canoncnt := if m = 0 then 0 else (c.canoncnt + 1) % m })
  let held := s.engine == .halt && s.wd.dbgfrz
  let s := s.setWd (fun w => { w with
    count := if w.counting && !held then w.count + 32 else w.count, hardT := w.hardT.map (· + 1) })
  let runs := s.engRuns
  let s : State := { s with voices := Vector.ofFn fun v =>
    if runs && s.c.voices[v].state == VState.run then { s.voices[v] with runTicks := s.voices[v].runTicks + 1 } else s.voices[v] }
  let s := if s.inTutti && decide (60000 ≤ s.clk.ticks - s.start.tuttiTick) then
      s.setStart (fun x => { x with loopcnt := 0 }) else s
  let s := { s with feeders := Vector.ofFn fun i => (s.feeders[i].sees o.feeds[i]).tick, keeper := s.keeper.tick }
  let s : State := if s.mode.dorm == .ports then s else { s with ports := Vector.ofFn fun p => s.ports[p].scanBegin (s.pset p) }
  let s := o.grants.foldl (fun s b => s.setWbBay b (fun w => { w with bad := w.granted })) s
  s.timersTick meas o.edges

/-- Q bits of a bay or pin whose ownership moves away from a tenant (R312). -/
def State.clearMoved (s : State) (old : Settings) : State :=
  let pin (g : Settings) (t : TileNo) (k : Fin 4) : CtxId := ownerCtx (g.tiles[t].tioown.extractLsb' (3 * k.val) 3)
  let mask (x : Tenant) : BitVec 1728 :=
    let m := (List.finRange 96).foldl (fun m b =>
      if tenant old.bays[b].owner = x ∧ s.owner b ≠ x then m ||| bitRange (16 * b.val) 16 else m) 0#1728
    (List.finRange 24).foldl (fun m t => (List.finRange 4).foldl (fun m k =>
      if pin old t k = ctxOf x ∧ s.pinOwner t k ≠ ctxOf x then
        m ||| bitRange (0x600 + 4 * t.val + k.val) 1 ||| bitRange (0x660 + 4 * t.val + k.val) 1 else m) m) m
  (List.finRange 4).foldl (fun s x => s.setVRun (tenantVoice x) (fun r => { r with q := r.q &&& ~~~ mask x })) s

/-- The orders of an old owner for a bay or a pin that has moved are discarded (R573). -/
def State.clearOrders (s : State) (old : Settings) : State :=
  let bay (c : Fin 5) (b : Bay) : Bool :=
    decide ((tenant old.bays[b].owner).val = c.val ∧ s.owner b ≠ tenant old.bays[b].owner)
  let pin (c : Fin 5) (t : TileNo) (k : Fin 4) : Bool :=
    let was := ownerCtx (old.tiles[t].tioown.extractLsb' (3 * k.val) 3)
    decide (was.val = c.val ∧ c.val < 4 ∧ s.pinOwner t k ≠ was)
  let pins (c : Fin 5) (t : TileNo) : BitVec 8 :=
    (List.finRange 4).foldl (fun w k => if pin c t k then w &&& ~~~((3#8) <<< (2 * k.val)) else w) s.c.tioord[c][t]
  let boxes : Vector (Vector CtxBay 96) 5 :=
    Vector.ofFn fun c => Vector.ofFn fun b => if bay c b then (s.ctxBay[c][b]).moved else s.ctxBay[c][b]
  let lvls : Vector (Vector BayLvl 96) 5 :=
    Vector.ofFn fun c => Vector.ofFn fun b => if bay c b then {} else s.c.lvl[c][b]
  { s.setC (fun x => { x with lvl := lvls, tioord := Vector.ofFn fun c => Vector.ofFn fun t => pins c t }) with ctxBay := boxes }

/-- Written settings come into force; the Weighbridge's own wait for its stage (R30, R176, R191, R226, R291, R431, R548, R588). -/
def State.takeSettings (s : State) : State :=
  let old := s.act
  let g := s.c.set
  let s := { s with act := { g with
    layout := s.nv.layout, ring := { g.ring with mustmax := old.ring.mustmax }, wb := { old.wb with canonper := g.wb.canonper, phmap := g.wb.phmap }
    bays := Vector.ofFn fun b => { g.bays[b] with eff := old.bays[b].eff } } }
  let m := s.act.wb.canonper.toNat * 10
  let s := s.setC (fun c => { c with
    canoncnt := if m = 0 then 0 else c.canoncnt % m
    trest := Vector.ofFn fun n => if old.timers[n].en && g.timers[n].en then c.trest[n] else 0 })
  let s := { s with
    bays := Vector.ofFn fun b =>
      if old.bays[b].restarts s.act.bays[b] && (s.c.bays[b].charging || s.c.bays[b].pack == Pack.noprof) then { s.bays[b] with mRestart := true } else s.bays[b]
    timers := Vector.ofFn fun n => (s.timers[n]).taken old.timers[n] s.act.timers[n]
    keep := if old.keep.restarts s.act.keep then { s.keep with mRestart := true } else s.keep
    feeders := Vector.ofFn fun i =>
      if s.feeders[i].state = FState.on then { s.feeders[i] with use := s.act.power.feed[i] } else s.feeders[i] }
  ((s.clearMoved old).clearOrders old).linkChanged old.link

/-- The frame that Haul has built leaves (R19, R130, R170, R189), and the ring begins a measure. -/
def State.frameOut (s : State) : State :=
  let f := s.ring.built.map (fun f => { f with epoch := s.c.push.carried, mcount := s.c.mcount.setWidth 16, rpt := false })
  let x := s.pipe.safexit
  let sent := f.isSome
  let s := { s with hub := Vector.ofFn fun t => s.hub[t].beat (x[t] && sent) }
  s.setRing (fun r => { r with
    lastEpoch := match r.cmd with | some g => g.epoch | none => r.lastEpoch
    cmd := f, built := none, seq := match f with | some g => g.seq | none => r.seq
    cmdHits := [], cmdBack := false, rptDue := false, rptSent := false, polled := false
    tel := Vector.replicate 24 none, telHead := [], telHits := Vector.replicate 24 [], shedCnt := Vector.replicate 24 0
    svc := r.svc.map (fun x => { x with wait := false }) })

/-- Voices that run DROP in this measure (R167). -/
def State.dropCalls (s : State) : State :=
  let gone := (List.finRange 24).filter (fun t => s.hub[t].dropLast)
  let hit (v : VoiceId) : Bool := match voiceTenant v with
    | none => !gone.isEmpty
    | some x => gone.any (fun t => (s.ownersOn t).contains x)
  { s with voices := Vector.ofFn fun v => { s.voices[v] with dropDue := hit v } }

/-- The battery is missing (R424): its switch opens, the keeper's charge state is discarded. -/
def State.batteryGone (s : State) : State :=
  if s.keeper.batsw && decide (2 ≤ s.keeper.openRun) then
    ((s.setKeeper (fun k => { k.openSw with batst := .missing, shutRun := 0 })).keeperDiscard).post 0x6005 0 0
  else s

/-- Haul's hold frame of a measure in which the trap stands (R391). -/
def State.trapFrame (s : State) : State :=
  if s.wd.trap then
    let s := s.guardRecs
    let s := s.setPipe (fun p => { p with safexit := Vector.ofFn fun t => s.safexit t })
    s.setRing (fun r => { r with built := some s.buildFrame })
  else s

/-- The stage moves on at a measure beat (R466, R467). -/
def State.stageBeat (s : State) : State :=
  let s := if s.start.stage = .muster ∧ s.start.mustDone = false ∧ s.musterLong = true ∧ s.musterOver = false then s.musterExpire else s
  if s.start.stage = .muster ∧ s.musterOver = true then s.tuttiBegin
  else s.setStart (fun x => { x with meas := x.meas + 1 })

/-- HOLDOVER is left (R436). -/
def State.leaveHoldover (s : State) : State :=
  if s.mode.mode == .holdover && s.mode.exitDue && s.inTutti then
    (s.setMode (fun m => { m with mode := .operate, exitDue := false, dorm := .none })).postAll 0x600B 0 0
  else s

/-- An accepted GACK ends the hold (R385); a STEP begins its measure (R327). No entry goes on into a later measure
(R304). -/
def State.engineBeat (s : State) : State :=
  let s := if s.eng.gack then s.setC (fun c => { c with guard := false }) else s
  let s : State := match s.eng.slot with
    | some v => if s.wd.trap then s else s.setVoice v VoiceVol.quit
    | none => s
  s.setEng (fun e => { e with
    gack := false, lastOver := e.thisOver, thisOver := false, noVoices := false, slot := none, ran := false
    stepping := e.halted && e.stepReq, stepReq := false, next := some 4 })

/-- The EPOCH that frames carry (R170). -/
def State.carryEpoch (s : State) : State :=
  if s.c.push.pending && s.epochReady then
    s.setC (fun c => { c with push := { c.push with pending := false, carried := c.epoch } })
  else s

/-- Power settings that have come into force act (R408, R411, R413, R431). -/
def State.takePower (s : State) (old : PowerSet) : State :=
  if s.act.power = old then s else s.feedersAct.keeperAct

/-- The first measure beat after a wake: the watchdog counts again, from zero (R397). -/
def State.wakeBeat (s : State) : State :=
  if s.start.cause = 7 then s.setWd (fun w => { w with count := 0, period := wdPeriod w.per, counting := w.en && !w.trap }) else s

/-- VKEEP as read at a measure beat, against the VDORM level (R439). -/
def State.lowNode (s : State) (vkeep : Nat) : State :=
  if vdormMv s.act.mode s.act.keep ≤ vkeep then s.setMode (fun m => { m with lowDue := false, lowFrom := none })
  else s.setMode (fun m => { m with lowFrom := some (m.lowFrom.getD s.clk.ticks) })

/-- The readings of a measure beat: the keeper's and the ports' (R415 to R418, R424, R439, R496). -/
def State.readings (s : State) (a : KeepAdc) : State :=
  let lim := match codeSrc s.keeper.src with | some i => s.keepLimit i | none => 0
  let s := (s.setKeeper (fun k => k.read a lim s.nodeTarget)).batteryGone
  let s := { s with ports := Vector.ofFn fun p => { s.ports[p] with vbus := a.vbus[p], ibus := a.ibus[p] } }
  s.lowNode s.keeper.vkeep

/-- The measure beat (R17 to R19, R45). -/
def State.measureBeat (s : State) (k : KeepAdc) (o : HubTick) : State :=
  let first := s.start.stage == .muster && s.start.meas == 0
  let s := { s with bays := Vector.ofFn fun b =>
    let fresh := s.bayPresent b && s.hub[tileOf b].cls == SlotClass.valid
    { s.bays[b] with lastBits := if fresh then s.liveBits b else s.bays[b].lastBits, badWord := false, fetchWait := false } }
  let s := s.echoLost.trapFrame.levelBeat
  let p := s.period
  let s := if first then (s.timersBeat true).wakeBeat else s.passTick true o
  let s := s.setClk (fun c => { c with beatTick := c.ticks, endP := if first then p else c.ticks - c.beatTick, tick := 0 })
  let s := s.setC (fun c => { c with mcount := c.mcount + 1, elapsed := s.clk.elapsed })
  let power := s.act.power
  let s := (s.carryEpoch.frameOut).takeSettings
  let s := (s.setPipe (fun p => { stage := .front, recs := p.recs })).engineBeat
  let s := s.setNv (fun n => { n with cage := n.cage + 1, snap := none })
  let s := s.readings k
  (((s.stageBeat).takePower power).leaveHoldover.dropCalls).dormTriggers

/-- A bay without new telemetry in this measure (R163, R182, R183, R209): its words age, its charge time goes on,
and beats before and after it do not follow one another (R97, R98). -/
def State.idleBay (s : State) (b : Bay) : State :=
  let x := chargeTime (s.bayEnv b) s.bays[b] s.c.bays[b] none
  s.setBoth b ({ x.1.older with presRun := 0, missRun := 0 }, x.2)

/-- The bays of a number in that case. -/
def State.idleBays (s : State) (t : TileNo) : State := (baysOf t).foldl State.idleBay s

/-- A VALID slot in placement and qualification (R160, R161, R164, R168, R169, R172). Step 5 counts a failure only in a
slot that was latched after the tile, as its slot before says, has received a frame with SAFEXIT. -/
def State.slotQual (s : State) (t : TileNo) (x : TelSlot) : State :=
  let h := s.hub[t]
  match h.qual with
  | .absent =>
    if x.adcfail || h.dropMeas || s.ring.enum_.isSome || s.ring.enumDue then s
    else (s.setQual t .identify).setHub t (fun h => { h with
      stepped := false, anyUid := false, placed := false
      short := h.dropped || (s.start.stage == .muster && s.start.warm && s.start.cause != 7) })
  | .identify | .push | .echo =>
    if x.adcfail then s.abandon t else s
  | .telem =>
    if x.adcfail then s.abandon t
    else if s.ring.lastEpoch ≠ h.pushEpoch then s
    else if h.epBad then s.failStep t 4
    else if h.good + 1 < 2 then s.setHub t (fun h => { h with good := h.good + 1 })
    else (s.setQual t .exit).setHub t (fun h => { h.back with
      acked := h.pushEpoch == s.c.epoch, pushTry := 0, pushDue := h.pushEpoch != s.c.epoch })
  | .exit =>
    let s := s.setHub t (fun h => { h with exitAck := (x.cmdok || s.act.ring.rpten) && decide (1 ≤ h.exitSent) })
    if h.exitSent < 2 then s
    else if x.safe = false then s.setHub t (fun h => { h with qual := .done, fails := 0 })
    else if h.exitAck then s.failStep t 5 else s
  | .done => if x.safe then (s.idleBays t).dropTile t 2 else s
  | _ => s

/-- A pass-through's report (R109, R138, R600). -/
def State.filePt (s : State) (t : TileNo) (p : Pos) (x : TelBay) : State :=
  let b := bayOf t p
  match (List.finRange 5).find? (fun c => s.ctxBay[c][b].pt.handed && !s.ctxBay[c][b].pt.fetch) with
  | none => s
  | some c =>
    let block : Bool := match s.ctxBay[c][b].pt.queued with | some q => q.proto == 4 | none => false
    let good : PtBox → PtBox := fun y => match block with | true => { y with fetch := true } | false => y.finish y.word
    if x.auxsel = 0xA then s.setPt c b (fun y => y.finish (x.aux.setWidth 16))
    else if x.auxsel = 0xB ∧ x.aux.getLsbD 10 = true then
      s.setPt c b good
    else if x.auxsel = 0xB ∧ x.aux.getLsbD 11 = true then
      let cause := match s.shelfOf t with | some h => s.tiles[h].chans[p].smb.ptCause | none => 0
      s.ptFail c b cause
    else s

/-- The mode that the frame of this measure orders for a bay, when the tile takes it (R25, R93, R131). -/
def State.noteApplied (s : State) (b : Bay) (x : TelSlot) : State :=
  match s.ring.cmd with
  | none => s
  | some f =>
    let k := f.blocks[tileOf b]
    if x.cmdok || s.act.ring.rpten then
      let m := if x.safe && !k.tflags.getLsbD 7 then 0 else (k.recs[posOf b]).mode
      s.setBay b (fun v => v.took m (s.clk.beatTick + 1))
    else s

/-- Crusher and Screen for one bay (R179 to R185, R198, R220, R241). -/
def State.faceBay (s : State) (t : TileNo) (x : TelSlot) (bad : BitVec 4) (p : Pos) : State :=
  let b := bayOf t p
  let y := x.bays[p]
  let s :=
    if bad.getLsbD p.val then
      let r := s.nv.active.img.bays[b]
      let s := (s.setRun b (fun _ => r)).idleBay b
      (s.setBay b (fun v => { v with tilest := 0, badWord := true, safety := .hold, wb := v.wb.endGrant })).postAlso
        [s.owner b] 0x1002 b.val 0
    else
      let e := s.bayEnv b
      let s := (s.setBoth b (crush e s.bays[b] s.c.bays[b] y x.safe)).filePt t p y
      let s := if y.auxsel = 0xC then s.doorCapture b (y.aux.extractLsb' 10 7).toNat (y.aux.extractLsb' 0 10).toNat y.door else s
      let s := if y.dcnt = 0 then s else s.setMode (fun m => { m with doorTick := s.clk.beatTick, holdDue := false })
      let s := s.setBoth b (screen e s.bays[b] s.c.bays[b] y x.vinlow x.vinov x.clkhold)
      let s := s.setBay b (fun v => { v with wb :=
        { (if v.safety = .none then v.wb else v.wb.endGrant) with ovrd := v.wb.ovrd || v.overGrant s.act.bays[b].eff.toNat } })
      if s.bays[b].safety = .offclr then (List.finRange 5).foldl (fun s c => s.setPt c b PtBox.gone) s else s
  s.noteApplied b x

/-- Face takes a slot (R139, R163, R164, R178). -/
def State.faceSlot (s : State) (t : TileNo) (bad : BitVec 4) : State :=
  match slotSeen t s.ring.tel[t] s.ring.telHits[t] with
  | .valid x =>
    let s := s.setHub t (fun h => h.takeSlot x (s.ring.lastEpoch.setWidth 8))
    let s := s.slotQual t x
    let s := if x.cmdok then s else s.flagRepeat
    if s.hub[t].present then (List.finRange 4).foldl (fun s p => s.faceBay t x bad p) s
    else if s.hub[t].dropMeas then s else s.idleBays t
  | .bad => (s.setHub t (fun h => { h with cls := .bad })).flagRepeat
  | .empty => s.setHub t (fun h => { h with cls := .empty })

/-- A bay of a stale tile (R163, R183). -/
def State.staleBay (s : State) (b : Bay) : State :=
  ((s.idleBay b).setBay b (fun v => { v with tilest := 1 })).noteApplied b {}

/-- A number without a VALID slot at the close (R160, R163, R164, R183). -/
def State.missed (s : State) (t : TileNo) : State :=
  let s := if s.hub[t].cls = .pending then s.setHub t (fun h => { h with cls := .empty }) else s
  let h := s.hub[t]
  if h.cls = .valid then s
  else if h.present then
    let s := (baysOf t).foldl State.staleBay (s.setHub t (fun h => { h with stale := h.stale + 1, exitAck := false }))
    if 3 ≤ h.stale + 1 then s.dropTile t 1 else s
  else
    let s := s.idleBays t
    match h.qual with
    | .identify | .push | .echo | .telem =>
      let n := h.slotBad + 1
      let s := s.setHub t (fun h => { h with slotBad := n })
      if 3 ≤ n then s.abandon t
      else if h.qual = .telem ∧ s.ring.lastEpoch = h.pushEpoch then s.failStep t 4 else s
    | _ => s

/-- What Screen needs for the keeper (R222). -/
def State.keepEnv (s : State) : BayEnv :=
  { set := s.act.keep, p := s.clk.endP, now := s.clk.beatTick, el := s.c.elapsed.toNat
    resmax := s.act.mode.resmax.toNat, charge := true, keeper := true }

/-- The end of PRECHG by PRETIME: the switch opens, SHORTED (R422, Table KP-6). -/
def State.keeperPretime (s : State) : State :=
  ((s.setKeeper (fun k => { k.openSw with batst := .shorted, step := .idle })).keeperDiscard).post 0x6007 10 0

/-- The keeper pass (R186, R222, R298, R419, R422). -/
def State.keeperPass (s : State) : State :=
  let k := s.keeper
  let g := s.act.keep
  let e := s.keepEnv
  match k.batst with
  | .low =>
    let n := k.preTicks + s.clk.endP
    let s := s.setKeeper (fun k => { k with preTicks := n, target := 100, trickle := false })
    if 1800000 ≤ n then s.keeperPretime else s
  | .present =>
    let n := k.restTicks + s.clk.endP
    let rest := k.resting && decide (g.tileCfg.restlen.toNat ≤ n)
    let m := k.restSched + s.clk.endP
    let begins := !k.resting && decide (g.pperT ≤ m)
    let old := s.c.keep
    let v := { s.keep with vnow := k.bat, inow := k.ibat.toNat
                           temp := match ntcDecode k.kntc g.ntcb with | .temp t => some t | _ => none }
    let z := keeperCharge e v old k.buck s.inTutti k.resting rest begins
    let s := { s.setC (fun c => { c with keep := z.2 }) with keep := z.1 }
    let resting := begins || (k.resting && !rest)
    let want := if z.1.pMode = 1 then (if z.2.base = .prechg then 100 else z.1.pIset) else 0
    let s := s.setKeeper (fun k => { k with
      target := if resting then 0 else want, vlimit := min 18000 z.1.pVset, trickle := false
      resting := resting, restTicks := if begins then 0 else n, restSched := if begins then m % g.pperT else m })
    if z.2.base = .done ∧ old.base ≠ .done ∧ z.2.term.keepFault = true then
      if z.2.term = .pretime then s.keeperPretime else s.post 0x6007 z.2.term.code 0
    else s
  | _ => s.setKeeper (fun k => { k with target := 0, trickle := false })

/-- Face closes its intake, and the keeper pass follows (R178, R186, R465). A slot that has arrived only in part is BAD. -/
def State.faceClose (s : State) (part : Option TileNo) : State :=
  let s : State := match part with
    | some (t : TileNo) => if s.hub[t].cls = .pending ∧ t.val < s.ntiles then (s.setHub t (fun h => { h with cls := .bad })).flagRepeat else s
    | none => s
  let s := (List.finRange 24).foldl (fun s (t : TileNo) => s.missed t) s
  let poll := s.start.stage == .muster && s.start.meas == 3 && s.c.mapValid && s.ring.enum_.isNone
  let s := if poll then
      s.setRing (fun r => { r with mustPoll := (List.finRange 24).filter (fun (t : TileNo) =>
        s.c.map[t].isSome && s.hub[t].cls != .valid && s.hub[t].qual == .absent) }) else s
  (s.setPipe (fun p => { p with closed := true })).keeperPass

/-- MEASOVR (R194 to R196, R320, R386): the hold, and the trap when bays were already held. -/
def State.measover (s : State) (cause : BitVec 2) (us : Nat) : State :=
  let held := s.c.guard
  let s := ((s.sendShedAll).endGrants).post 0x2004 cause.toNat 0
  let s := s.setC (fun c => { c with engStop := true, guard := true })
  let s := s.setEng (fun e => { e with thisOver := true, cause := cause, gack := false, noVoices := e.noVoices || cause == 2 })
  let s := s.guardRecs
  let s := s.setPipe (fun p => { p with safexit := Vector.ofFn fun t => s.safexit t })
  if held then s.trap 3 us else s

/-- The Loader of a measure has finished (R361): the snapshot; a change of a tile-held setting is due to
increment EPOCH at this measure's commit (R170). -/
def State.loaderDone (s : State) : State :=
  let s := s.setC (fun c => { c with push := { c.push with due := c.push.due || c.push.change, change := false } })
  (s.setPipe (fun p => { p with ldDone := true, stage := .haul })).setNv (fun n => { n with snap := some s.c })

/-- In SHIP only the latch runs: the switches and gates are off, the tiles have no VLOG, and the ports show the dead-battery
pull-downs (Table PM-1, R447). -/
def State.shipped (s : State) : State :=
  let s := s.setKeeper (fun k => { k with src := 0, pendSrc := none, qual := Vector.replicate 4 false, buck := false, iout := 0, wasOut := 0 })
  let s := (s.setStart (fun x => { x with stage := .off })).setMode (fun m => { m with tilepwr := false })
  let s := s.setSec (fun q => { q with accOp := none })
  { s with ring := {}, tiles := s.tiles.map Tile.toReset, ports := s.ports.map (Port.held .dead)
           feeders := s.feeders.map Feeder.off, held := none }

/-- What waits for the end of this journal (R31, R364, R374, R427, R470). `full`: it committed and left no line
stale. -/
def State.afterJournal (s : State) (full : Bool) : State :=
  let pf (cause : BitVec 4) : PfRec :=
    { cause := cause, mcount := s.c.mcount, cseq := match s.nv.activeWord with | some w => w.1 | none => 0
      elapsed := s.clk.elapsed, cut := 0 : PfRec }.seal
  let s := s.setNv (fun n => { n with fullAt := full })
  let s := if s.latch.breset = .preparing ∧ s.latch.ready = false then
      (s.setNv (fun n => { n with pf := some (pf 4) })).setLatch (fun l => { l with ready := true, shipDue := false }) else s
  let s := if full && s.mode.dorm == .journal then s.dormPorts else s
  if s.latch.shipDue then
    let s := s.setNv (fun n => { n with pf := some (pf 3) })
    let s := (s.setLatch (fun l => { l with ship := true, shipDue := false })).setKeeper Keeper.openSw
    s.shipped
  else if s.start.rstDue then s.hubReset 6
  else s

/-- The journal has let go of the port (R262). -/
def State.journalOff (s : State) : State := s.setNv (fun n => { n with port := n.port.release .journal })

/-- The journal of a snapshot (R361 to R364, R380), with the line of it that fails its check twice. The address of
a line of the control area is free. -/
def State.journal (s : State) (fail : Option JLine) (snap : Committed) : State :=
  let s := s.setPipe (fun p => { p with stage := .caesura })
  match fail.bind (fun f => (s.nv.failing snap f).map (fun x => (f, x))) with
  | some (f, at', done) =>
    let n := s.nv.failRun + 1
    let c := s.freeNat
    let s := match at' with | some _ => s | none => c.2
    let a := match at' with | some a => a | none => c.1 % 512
    let s := (s.setNv (fun x => { ((x.writeData snap done).badLine f).voidSlot with
      failRun := n, nocommit := decide (3 ≤ n), snap := none })).post 0x8008 a 0
    let s := if n = 3 then s.post 0x8009 (!s.nv.onB).toNat 0 else s
    s.journalOff.afterJournal false
  | none =>
    let stale := s.nv.staleLines snap
    if s.nv.room < stale.length then
      let s := if s.nv.defer then s else s.post 0x8006 0 0
      let s := s.setNv (fun x => { (x.writeData snap (stale.take x.room)).voidSlot with defer := true, failRun := 0, snap := none })
      s.journalOff.afterJournal false
    else
      let q := s.nv.nextSeq
      let s := (s.setNv (fun n => (n.writeData snap stale).commit (n.target snap) q)).setC (fun c => { c with cseq := q })
      let s := s.setClk (fun c => { c with unknown := false, outErr := 0 })
      let s := if s.c.push.due then (s.setC (fun c => { c with push := { c.push with due := false } })).bumpEpoch else s
      s.journalOff.afterJournal true

end Sys2Proof.Machine
end

