-- ==== Sys2Proof/Machine/PipeExec.lean ====
section
/-! DEFINITION. The commands of the measure pipeline: beats, Face, Weighbridge, Loader, Haul, journal and
guards (chapters 01, 07, 09, 14, 15). A stage acts once in a measure, when the stages before it are done. -/

namespace Sys2Proof.Machine

/-- The measure's stages are over: done, or ended by a guard or the trap (R20, R194 to R196, R391), and the journal that
Haul has begun has ended (R24, R263). Before the first beat of Muster there are none. -/
def State.stagesOver (s : State) : Bool :=
  (s.wd.trap || (s.start.stage == .muster && s.start.meas == 0) || (s.pipe.ldDone && s.pipe.haulDone && !s.eng.haltDue)) &&
  !(s.pipe.haulDone && s.nv.snap.isSome)

/-- MEASURE_BEAT (R17, R19, R31), with the keeper's readings. -/
def execMeasureBeat (k : KeepAdc) (o : HubTick) (s : State) : Res :=
  .next (if s.running && s.mode.dorm != .ports && s.lastTick && s.stagesOver && s.wdQuiet then s.measureBeat k o else s)

/-- TICK_BEAT (R17, R44). A watchdog event that is due comes before the beat. -/
def execTickBeat (o : HubTick) (s : State) : Res :=
  .next (if s.running && decide (s.clk.tick + 1 < s.period) && decide (s.start.stage = .tutti ∨ s.start.meas ≠ 0) && s.wdQuiet then
      (s.passTick false o).setClk (fun c => { c with tick := c.tick + 1 }) else s)

/-- Face is open for slots (R178). -/
def State.intake (s : State) : Bool := s.running && !s.pipe.closed && !s.wd.trap && s.clk.tick == 0

/-- No slot of a tile with a lower number waits any more (R177). -/
def State.slotTurn (s : State) (t : TileNo) : Bool :=
  decide (t.val < s.ntiles) && (List.finRange 24).all (fun k => (s.hub[k].cls == .pending) == decide (t ≤ k))

/-- FACE_SLOT (R139, R177, R178), with the bays whose words are uncorrectable (R198). -/
def execFaceSlot (t : TileNo) (bad : BitVec 4) (s : State) : Res :=
  .next (if s.intake && s.slotTurn t then s.faceSlot t bad else s)

/-- FACE_INTAKE_CLOSE (R178, R186). -/
def execFaceIntakeClose (part : Option (Fin 24)) (s : State) : Res :=
  .next (if s.intake then s.faceClose part else s)

/-- WB_STAGE (R177, R242, R255, R463). -/
def execWbStage (s : State) : Res :=
  if s.running && s.pipe.closed && !s.pipe.wbDone && !s.pipe.ldDone && !s.wd.trap then
    let s := if s.inTutti then (s.readGrants true).wbStage else s
    .next (s.setPipe (fun p => { p with wbDone := true }))
  else .next s

/-- The Loader's turn: the Weighbridge is done and the T3 slot has ended (R23, R177). -/
def State.loaderTurn (s : State) : Bool :=
  s.running && s.pipe.closed && s.pipe.wbDone && s.eng.slot.isNone && s.eng.next.isNone && !s.eng.haltDue && !s.wd.trap &&
    !s.pipe.ldDone

/-- LOADER (R23, R188, R361). -/
def execLoader (bad : List OrdBad) (s : State) : Res :=
  if s.loaderTurn then
    .next ((s.setPipe (fun p => { p with stage := .loader })).loaderPass bad).loaderDone
  else .next s

/-- HAUL (R189, R262): the journal asks for the port. -/
def execHaul (s : State) : Res :=
  if s.running && s.pipe.ldDone && !s.pipe.haulDone && !s.wd.trap then
    let s := s.setRing (fun r => { r with built := some s.buildFrame })
    let s := match s.nv.snap with
      | some _ => s.setNv (fun n => { n with port := n.port.ask .journal 1024 })
      | none => s
    .next (s.setPipe (fun p => { p with haulDone := true, stage := .journal }))
  else .next s

/-- JOURNAL_COMMIT (R361 to R364, R380): a journal in progress completes even after a trap (R263). -/
def execJournalCommit (fail : Option JLine) (s : State) : Res :=
  match s.nv.snap with
  | some c => .next (if s.running && s.pipe.haulDone then s.journal fail c else s)
  | none => .next s

/-- LOADER_GUARD (R194): the guard point lies 0.20 ms before the next beat. -/
def execLoaderGuard (s : State) : Res :=
  if s.running && !s.pipe.ldDone && !s.wd.trap && s.clk.tick + 1 == s.period then
    let s := (s.setPipe (fun p => { p with stage := s.stageNow })).measover 1 (1000 * s.period - 200)
    .next (if s.wd.trap then s else s.loaderDone)
  else .next s

/-- FRONT_GUARD (R195): 1.5 ms after the measure beat. -/
def execFrontGuard (s : State) : Res :=
  if s.running && !s.pipe.wbDone && !s.pipe.ldDone && !s.wd.trap && s.clk.tick == 1 then
    let s := (s.measover 2 1500).setPipe (fun p => { p with wbDone := true })
    .next (if s.wd.trap then s else s.loaderDone)
  else .next s

/-- HAUL_GUARD (R196): no frame leaves at this beat. The measure's journal, which has not asked for the port, is not
made (DESIGN CHOICE, log entry 90). -/
def execHaulGuard (s : State) : Res :=
  if s.running && !s.pipe.haulDone && !s.wd.trap && s.clk.tick + 1 == s.period then
    let s := s.measover 3 (1000 * s.period)
    .next (((s.setRing (fun r => { r with built := none })).setPipe (fun p => { p with haulDone := true })).setNv
      (fun n => { n with snap := none }))
  else .next s

/-- GRANT_PERIOD_END (R239): PPER has passed without a rest; the Loader sends OFF. -/
def execGrantPeriodEnd (b : Bay) (s : State) : Res :=
  let w := s.bays[b].wb
  .next (if w.granted && w.gend == .running && decide (w.gtick + s.act.bays[b].pperT ≤ s.clk.ticks) then
      s.setWbBay b (fun w => { w with gend := .passed }) else s)

/-- REPROBE_TIMER (R102): 10 s after the last probe. -/
def execReprobeTimer (b : Bay) (s : State) : Res :=
  .next (if s.running && s.c.bays[b].pack == .shorted && decide (s.bays[b].probeT + 10000 ≤ s.clk.ticks) then
      s.setBay b (fun v => { v with reprobe := true }) else s)

/-- A charge timer of a bay has run out (R209): what Screen makes of it, for a live bay in no safety order, with a
temperature (R163, R184). -/
def State.chargeIf (s : State) (b : Bay) (ok : BayEnv → BayRun → Bool) (f : BayEnv → BayRun → BayRun) : State :=
  let e := s.bayEnv b
  let r := s.c.bays[b]
  let v := s.bays[b]
  let live := v.tilest == 0 && v.safety == .none && !v.badWord && v.temp.isSome && e.charge
  if s.running && s.bayPresent b && live && r.pack == .ready && !r.held && !r.resume && !r.interrupted && ok e r then
    s.setRun b (f e) else s

/-- PRETIME_EXPIRE (R207). -/
def execPretimeExpire (b : Bay) (s : State) : Res :=
  .next (s.chargeIf b (fun _ r => r.base == .prechg && decide (1800000 ≤ r.preTicks)) (fun e r => r.endWith e .pretime))

/-- CHARGE_TIMER_EXPIRE (R210). -/
def execChargeTimerExpire (b : Bay) (s : State) : Res :=
  .next (s.chargeIf b (fun e r => r.chem.nickel && r.base == .cc && decide (e.set.tmaxT r.chem ≤ r.tchg))
    (fun e r => r.endWith e .timer))

/-- LITIMER_EXPIRE (R218). -/
def execLitimerExpire (b : Bay) (s : State) : Res :=
  .next (s.chargeIf b (fun e r => !r.chem.nickel && r.charging && r.base != .done && decide (e.set.tmaxT r.chem ≤ r.tchg))
    (fun e r => r.endWith e .litimer))

/-- TOPOFF_END (R215). -/
def execTopoffEnd (b : Bay) (s : State) : Res :=
  .next (s.chargeIf b (fun e r => r.base == .topoff && decide (e.set.topT r.chem ≤ r.topTicks)) (fun e r => r.enterMaint e.set))

/-- MAINT_INTERVAL (R215). -/
def execMaintInterval (b : Bay) (s : State) : Res :=
  let cool := match s.bays[b].temp with | some t => decide (t < s.act.bays[b].tabsD s.c.bays[b].chem - 50) | none => false
  .next (s.chargeIf b (fun e r => r.base == .maint && e.set.maintT r.chem != 0 && decide (e.set.maintT r.chem ≤ r.maintTicks))
    (fun e r =>
      let susp := r.tempSusp && !cool
      { r with maintTicks := r.maintTicks - e.set.maintT r.chem, tempSusp := susp, maintPulse := !susp, maintLeft := e.set.pperT }))

/-- HOSTLATE_EXPIRE (R219). -/
def execHostlateExpire (b : Bay) (s : State) : Res :=
  .next (s.chargeIf b (fun e r => r.base == .cv && r.hlRun && decide (e.set.hlT ≤ r.hlTicks)) (fun _ r => { r.hold with hostLate := true }))

/-- NOREST_EXPIRE (R227). -/
def execNorestExpire (b : Bay) (s : State) : Res :=
  .next (s.chargeIf b (fun e r => r.charging && r.base != .done && decide (8 * e.set.pperT ≤ r.norest))
    (fun e r => r.endWith e .norest))

/-- KEEPER_TAPER_END (R222): IPULSE has stayed below 0.05 C for 5 min of charge time. -/
def execKeeperTaperEnd (s : State) : Res :=
  let r := s.c.keep
  .next (if s.running && r.base == .cv && decide (300000 ≤ r.taper) then
      s.setC (fun c => { c with keep := { c.keep with base := .done } }) else s)

end Sys2Proof.Machine
end

