-- ==== Sys2Proof/Machine/PortExec.lean ====
section
/-! DEFINITION. The commands of the Type-C ports and of the Cabinet Link (chapters 19, 21). -/

namespace Sys2Proof.Machine

/-- DRP_TOGGLE (R478): not in one fixed role, not during a full scan (R493), and not after step 4 of a DORMANT entry, where
the port presents Rd (Table PM-3). -/
def execDrpToggle (p : PortId) (s : State) : Res :=
  let q := s.ports[p]
  .next (if q.free && q.useRole == 3 && s.mode.dorm != .ports then
      s.setPort p (fun q =>
        let r : PRole := match q.role with | .snk => .src | .src => .snk
        { q with role := r, term := roleTerm (s.pset p) r, snkFet := false }) else s)

/-- CC_ATTACH_DETECT (R478): Rd seen in the source role, or Rp in the sink role. -/
def execCcAttachDetect (p : PortId) (src : Bool) (orient rp : BitVec 2) (s : State) : Res :=
  let q := s.ports[p]
  .next (if q.free && s.mode.dorm != .ports && (q.role == .src) == src then
      s.setPort p (fun q => { q with state := .attachWait, orient := orient, partrp := if src then 0 else rp, tried := false }) else s)

/-- ATTACH_SRC (R478, R482, R494): Try.SNK comes first when it is on; then the pre-VBUS check. -/
def execAttachSrc (p : PortId) (orient : BitVec 2) (ra : Bool) (leaks : Vector (Option Nat) 4) (s : State) : Res :=
  let q := s.ports[p]
  let g := s.pset p
  if !(q.state == .attachWait && q.role == .src) then .next s
  else if q.useTry && q.useRole == 3 && !q.tried then
    .next (s.setPort p (fun q => { q with state := .tryRole, trySub := .snk, role := .snk, term := .rd }))
  else
    let l := checkPins orient ra leaks
    let s := if g.moisten then s.setPort p (fun q => { q.leaks l with scanAt := s.clk.ticks }) else s
    let mask := if g.moisten then wetPins l else 0
    if mask = 0 then .next (s.enterSource p orient ra)
    else .next ((s.setPort p (fun q => q.wet mask)).post 0x7009 p.val mask.toNat)

/-- ATTACH_SNK (R488). -/
def execAttachSnk (p : PortId) (orient rp : BitVec 2) (s : State) : Res :=
  let q := s.ports[p]
  .next (if q.state == .attachWait && q.role == .snk then s.enterSink p orient rp else s)

/-- TRY_SNK_TIMER (R478): the specification's transitions out of Try.SNK and TryWait.SRC. -/
def execTrySnkTimer (p : PortId) (o : TryObs) (s : State) : Res :=
  let q := s.ports[p]
  if q.state ≠ .tryRole then .next s
  else match q.trySub, o with
    | .snk, .rpSeen orient rp => .next (s.enterSink p orient rp)
    | .snk, .noRp => .next (s.setPort p (fun q => { q with trySub := .src, role := .src, term := roleTerm (s.pset p) .src }))
    | .src, .rdSeen => .next (s.setPort p (fun q => { q with state := .attachWait, role := .src, tried := true }))
    | .src, .noRp => .next (s.portUnattach p true)
    | _, _ => .next s

/-- VBUSON_TIMEOUT (R482, Table SW-2): VBUS has not reached 4.75 V within tVBUSON. -/
def execVbusonTimeout (p : PortId) (s : State) : Res :=
  let q := s.ports[p]
  if !(q.state == .source && q.srcFet && q.pd.contract.isNone) then .next s
  else match q.pd.swap with
    | some w => if w.step = .newOn then .next (s.swapFail p w.kind) else .next s
    | none => .next ((s.portRecover p).post 0x7003 p.val 0)

/-- SOURCE_DETACH (R484, R538), with VBUS in mV: the FET opens and VBUS is discharged; during a swap only once VBUS is below
3.67 V. TCDETACH is posted as at a sink (DEDUCED, log entry 106). In ATTACHWAIT the partner is gone; in TRY the
detach scan follows too (Table TY-6). -/
def execSourceDetach (p : PortId) (mv : Nat) (s : State) : Res :=
  let q := s.ports[p]
  if q.state == .attachWait && q.role == .src then .next (s.portUnattach p false)
  else if q.state == .tryRole then .next (s.portUnattach p true)
  else if q.state == .source && !q.leaving && (!q.pd.inSwap || decide (mv < 3670)) then
    let s := ((s.captureFrom (portSrc p 0)).portLeave p).setPort p (fun q => { q.fetsOff with leaving := true, dis := true, pd := {} })
    .next (s.post 0x7002 p.val 0)
  else .next s

/-- DISCHARGE_DONE (R484, R526, Table SW-2): VBUS is below 0.8 V. -/
def execDischargeDone (p : PortId) (s : State) : Res :=
  let q := s.ports[p]
  if q.dis = false ∧ q.leaving = false then .next s
  else if q.leaving then .next (s.portUnattach p true)
  else
    let s := s.setPort p (fun q => { q with dis := false })
    match q.pd.swap with
    | some w =>
      if w.kind = .pr ∧ w.step = .oldOff ∧ w.toSrc = false then
        .next (((s.setPort p (fun q => { q with term := .rd })).pdSend p .psRdy).swapStep p .oldReady)
      else .next s
    | none => .next s

/-- VBUSOFF_TIMEOUT (R484): DIS is released. -/
def execVbusoffTimeout (p : PortId) (s : State) : Res :=
  .next (if s.ports[p].leaving && s.ports[p].dis then
      (s.setPort p (fun q => { q with dis := false })).post 0x7004 p.val 0 else s)

/-- SOURCE_OVERCURRENT (R485): `ma` has exceeded 1.25 times what is allowed for 2 ms, or 2.5 times (both with their
tolerance); the third trip within 10 s of a first locks the port. A new source by Fast Role Swap closes its FET while it is
still in SINK (Table SW-3). -/
def execSourceOvercurrent (p : PortId) (ma : Nat) (s : State) : Res :=
  let q := s.ports[p]
  let now := s.clk.ticks
  if !((q.state == .source || q.state == .sink) && q.srcFet && decide (1125 * q.allowed < 1000 * ma)) then .next s
  else
    let lock := match q.trips with | _ :: first :: _ => decide (now - first ≤ 10000) | _ => false
    let s := (s.portRecover p).setPort p (fun q => { q with ocp := true, trips := (now :: q.trips).take 2 })
    let s := s.post 0x7005 p.val 0
    if lock then
      .next ((s.setPort p (fun q => { q with state := .disabled, locked := true, trips := [] })).post 0x7006 p.val 0)
    else .next s

/-- VCONN_OVERCURRENT (R487). -/
def execVconnOvercurrent (p : PortId) (s : State) : Res :=
  .next (if s.ports[p].vconn then
      (s.setPort p (fun q => { q with vconn := false, vconnOff := true })).post 0x7008 p.val 0 else s)

/-- SINK_DETACH (R488): VBUS has stayed below 3.67 V for 1 ms; `gone`: no Rp shows either. In ATTACHWAIT the partner is gone.
In a transition window and in a swap a low VBUS alone is no detach, but a partner that has gone is (R521, R529, R538,
Table PD-6); after a Hard Reset R488 is suspended (R526). -/
def execSinkDetach (p : PortId) (gone : Bool) (s : State) : Res :=
  let q := s.ports[p]
  if q.state == .attachWait && q.role == .snk then .next (s.portUnattach p false)
  else if q.state == .tryRole then .next (s.portUnattach p true)
  else if q.state == .sink && q.pd.hr == .none && (gone || (q.pd.exch != .snkTrans && !q.pd.inSwap)) then
    .next (((s.captureFrom (portSrc p 0)).portUnattach p true).post 0x7002 p.val 0)
  else .next s

/-- SINK_OVERVOLTAGE (R489): VBUS has exceeded its threshold for 10 µs. -/
def execSinkOvervoltage (p : PortId) (mv : Nat) (s : State) : Res :=
  .next (if s.ports[p].state = .sink ∧ s.ports[p].ovpMv < mv then
      ((s.portRecover p).setPort p (fun q => { q with ovp := true })).post 0x7007 p.val 0 else s)

/-- ACCESSORY_IGNORE (R490): Rd, or Ra, on both pins; and the pins' change. -/
def execAccessoryIgnore (p : PortId) (present : Bool) (s : State) : Res :=
  let q := s.ports[p]
  if present then
    .next (if q.state = .unattached ∨ q.state = .attachWait then
      s.setPort p (fun q => { q with state := .unattached, accign := true, snkFet := false }) else s)
  else .next (s.setPort p (fun q => { q with accign := false }))

/-- RECOVERY_END (R475). -/
def execRecoveryEnd (p : PortId) (s : State) : Res :=
  .next (if s.ports[p].state == .recovery && s.ports[p].started then s.portUnattach p false else s)

/-- MOISTURE_SCAN_DONE (R492, R494): the result of a full scan. -/
def execMoistureScanDone (p : PortId) (leaks : Vector (Option Nat) 4) (s : State) : Res :=
  let q := s.ports[p]
  if q.scanning = false then .next s
  else
    let first := !q.scanned
    let mask := wetPins leaks
    let s := s.setPort p (fun q => { q.leaks leaks with scanning := false, scanned := true, scanAt := s.clk.ticks })
    if q.state = .wet then
      .next (if mask = 0 ∧ (allDry leaks = true ∨ first = true) then (s.post 0x700A p.val 0).portUnattach p false else s)
    else if mask ≠ 0 then .next ((s.setPort p (fun q => q.wet mask)).post 0x7009 p.val mask.toNat)
    else .next (s.setPort p (fun q => { q with
      term := if q.state = .unattached ∧ s.start.ccOff = false then roleTerm (s.pset p) q.role else q.term }))

/-- WET_SCAN_TIMER (R493): 5.000 s ± 1 % after the start of the previous scan, which takes 8 ms. -/
def execWetScanTimer (p : PortId) (s : State) : Res :=
  .next (if s.ports[p].state == .wet && (s.pset p).moisten && decide (4950 ≤ s.clk.ticks - s.ports[p].scanAt + 8) then s.setPort p (fun q => { q with scanning := true }) else s)

/-- DEAD_BATTERY_VBUS (R480): with the pull-down connected the gate driver closes the sink FET while VBUS, in mV, exceeds
4.0 V, the middle of its tolerance, and opens it below. -/
def execDeadBatteryVbus (p : PortId) (mv : Nat) (s : State) : Res :=
  .next (if s.ports[p].term = .dead then s.setPort p (fun q => { q with snkFet := decide (4000 < mv), vbus := mv }) else s)

/-- CLRLOCK (R496). -/
def State.clrlock (s : State) (p : PortId) : State := if s.ports[p].locked then s.portUnattach p false else s
def execClrlock (c : CtxId) (p : PortId) (s : State) : Res := .next (s.sysWrite c 0x1A true (fun s => s.clrlock p))

/-- An ACK of the hub (Table SW-7). -/
def State.sendAck (s : State) (q res : BitVec 8) : State :=
  (s.linkSend (.ack q res)).setLink (fun l => { l with lastAck := some q })

/-- The channel is open and receives. -/
def State.linkUp (s : State) : Bool := s.link.active && s.running

/-- A valid frame has been received (R544). -/
def State.linkHeard (s : State) : State := if s.linkUp then s.setLink (fun l => { l with heard := s.clk.ticks }) else s

/-- HELLO (R544, R546, R547). -/
def execHello (seq : BitVec 8) (x : Hello) (s : State) : Res :=
  if s.linkUp = false then .next s
  else if s.link.lastAck = some seq then .next (s.linkHeard.linkSend (.ack seq 0))
  else
    let s := s.linkHeard.sendAck seq 0
    let s := s.setLink (fun l => { l with peer := some x, partver := x.ver, partrev := x.rev, peerFrs := x.armed })
    if x.ver = 1 then .next s.linkAgree
    else
      let p := s.link.port
      let s := if s.link.leader then s.startOwn p .exitMode else s
      .next ((s.linkClose.setC (fun c => { c with link := .lost })).repool.post 0x7031 p.val x.ver.toNat)

/-- STATUS (R549, R552). -/
def execStatus (_seq : BitVec 8) (hold : Bool) (demand _linkbud : Nat) (_lepoch : Word) (s : State) : Res :=
  if s.linkUp = false then .next s
  else
    let s := s.setLink (fun l =>
      { l with statIn := true, heard := s.clk.ticks, peerHold := hold, peerDemand := demand, holdRun := if hold then satAdd 255 l.holdRun 1 else 0 })
    .next (s.leadSplit false)

/-- SPLIT (R550): the follower's part. -/
def execSplit (seq : BitVec 8) (ll lf : Nat) (s : State) : Res :=
  let s := s.linkHeard
  if !(s.linkUp && !s.link.leader) then .next s
  else if s.link.lastAck = some seq then .next (s.linkSend (.ack seq 0))
  else if s.c.link ≠ .agreed then .next (s.sendAck seq 1)
  else .next (((s.setLink (fun l => { l with ll := ll, lf := lf })).setPart lf).sendAck seq 0)

/-- ACK (R544, R546, R550). -/
def execAck (seq : BitVec 8) (res : BitVec 8) (s : State) : Res :=
  let s := s.linkHeard
  if s.linkUp = false then .next s
  else if (match s.link.hello with | some x => x.seq == seq | none => false) then
    .next ((s.setLink (fun l => { l with hello := none, mineAck := res == 0 })).linkAgree)
  else if (match s.link.split with | some x => x.seq == seq | none => false) then
    let t := s.setLink (fun l => { l with split := none, riseDue := none })
    match s.link.riseDue, res == 0 with
    | some n, true => .next (t.setPart n)
    | _, _ => .next t
  else .next s

/-- TIME (R551): a follower's cabinet-time offset. -/
def execTime (_seq : BitVec 8) (ms : BitVec 64) (s : State) : Res :=
  let s := s.linkHeard
  if s.linkUp && s.follower then
    let old := s.c.ctofs
    let new : BitVec 48 := (ms - s.clk.elapsed / 32).setWidth 48
    let d := (new - old).toInt
    let s := s.setC (fun c => { c with ctofs := new })
    .next (if 1000 < d.natAbs then s.post 0x7033 (s.link.port.val) (wordOfInt (clampInt (-32768) 32767 (d.tdiv 1000))).toNat else s)
  else .next s

/-- STATUS_SEND (R543, R549): every 100 ms. -/
def execStatusSend (s : State) : Res :=
  if s.linkUp && decide (100 ≤ s.clk.ticks - s.link.statusAt) then
    let s := (s.setLink (fun l => { l with statusAt := s.clk.ticks })).linkSend (.status (s.mode.mode == .holdover) s.demand s.linkbud s.link.lepoch)
    .next (s.leadSplit false)
  else .next s

/-- TIME_SEND (R543, R551): every 10 s. -/
def execTimeSend (s : State) : Res :=
  .next (if s.linkUp && s.c.link == .agreed && s.link.master && decide (10000 ≤ s.clk.ticks - s.link.timeAt) then
    (s.setLink (fun l => { l with timeAt := s.clk.ticks })).linkSend (.time s.cabinetTime) else s)

/-- PEER_ACK_TIMEOUT (R544), for the HELLO or the SPLIT that waits. -/
def execPeerAckTimeout (split : Bool) (s : State) : Res :=
  match (if split then s.link.split else s.link.hello) with
  | none => .next s
  | some x =>
    if x.tries < 3 then
      let y := { x with tries := x.tries + 1 }
      .next (s.setLink (fun l =>
        { l with out := some (peerFrame x.seq x.msg), split := if split then some y else l.split, hello := if split then l.hello else some y }))
    else .next (s.linkLoss s.link.port 1)

/-- PEER_SILENCE (R544): no valid frame for 300 ms. -/
def execPeerSilence (s : State) : Res := .next (if 300 ≤ s.clk.ticks - s.link.heard then s.linkLoss s.link.port 2 else s)

/-- FORGET (R554): Exit Mode if needed, and NONE. -/
def State.linkForget (s : State) : State :=
  let p := s.link.port
  let s := if s.link.active then (s.startOwn p .exitMode).linkClose else s
  ((s.setC (fun c => { c with link := .none })).setLink (fun l => { l with forgot := true })).repool

/-- LINKCTL_FORGET (R554). -/
def execLinkctlForget (c : CtxId) (s : State) : Res := .next (s.sysWrite c 0x66 true State.linkForget)

/-- A word of LINKCTL: the settings it gives, or none where it is reserved (Tables HR-3, HR-4). -/
def linkWord (g : LinkSet) (i : Fin 4) (w : Word) : Option LinkSet :=
  let v := w.extractLsb' 0 15
  let ok (g : LinkSet) : Option LinkSet :=
    if g.shcap.toNat ≤ 32000 ∧ g.shmin ≤ g.shcap ∧ g.shfall ≤ g.shcap then some g else none
  if i = 0 then
    (if w.extractLsb' 7 9 = 0 then some { g with sharen := w.getLsbD 0, timepri := w.extractLsb' 1 4, linkauto := w.getLsbD 5 }
     else none)
  else if w.getLsbD 15 then none
  else if i = 1 then ok { g with shcap := v }
  else if i = 2 then ok { g with shmin := v }
  else ok { g with shfall := v }

/-- A write of a LINKCTL word. It takes effect at the next measure beat, with FORGET at once. -/
def State.linkctl (s : State) (c : CtxId) (i : Fin 4) (w : Word) : State :=
  let o := linkWord s.c.set.link i w
  s.sysWrite c (0x66 + 2 * i.val) o.isSome (fun s =>
    let s := match o with | some g => s.setSet (fun x => { x with link := g }) | none => s
    if i == 0 && w.getLsbD 6 then s.linkForget else s)

/-- LINKCTL_WRITE (R548, R554). -/
def execLinkctlWrite (c : CtxId) (i : Fin 4) (w : Word) (s : State) : Res := .next (s.linkctl c i w)

end Sys2Proof.Machine
end

