-- ==== Sys2Proof/Machine/RefrainExec.lean ====
section
/-! DEFINITION. The Refrain instructions, the slots of the voices, the commands of voices and engine, and
installs (chapters 12, 13). An instruction acts when it is the one that its voice executes next. -/

namespace Sys2Proof.Machine

/-- The slot of a voice may start: its turn has come, once the Weighbridge is done (R21, R177). -/
def State.slotDue (s : State) (v : VoiceId) : Bool :=
  s.running && !s.wd.trap && s.pipe.wbDone && s.eng.slot.isNone && s.eng.next == some v

/-- VOICE_SLOT_START (R21, R303, R317, R319), with the instruction that meets an uncorrectable
word, if one does (R331). Commands that still wait apply first. A voice that does not run keeps its slot. -/
def execVoiceSlotStart (v : VoiceId) (err : Option MemHit) (s : State) : Res :=
  if s.slotDue v then
    let s := (s.slotCmds v).setPipe (fun p => { p with stage := .voice })
    if s.voiceRuns v then .next (s.slotStart v err)
    else .next (s.setEng (fun e => { e with slot := some v, ran := false }))
  else .next s

/-- VOICE_SLOT_END (R22, R304, R383): a voice that still runs has used up the slot. -/
def execVoiceSlotEnd (v : VoiceId) (s : State) : Res :=
  .next (if s.eng.slot == some v && (!s.voices[v].active || s.voices[v].spent) then s.slotEnd v else s)

/-- The refresh of a voice's slot: no instruction has run yet (R303). -/
def State.refreshing (s : State) (v : VoiceId) : Bool :=
  s.eng.slot == some v && s.voices[v].active && s.voices[v].cycles == 0

/-- SOFT_TIMER_EXPIRE (R345) at a refresh: a running timer whose count has reached its preset. An instruction that expires
a timer does so itself (R344). -/
def execSoftTimerExpire (v : VoiceId) (n : Fin 128) (s : State) : Res :=
  .next (if s.refreshing v then s.setVRun v (fun r => { r with t := upd r.t n SoftTimer.check }) else s)

/-- VCMD_RUN (R317, Table RE-7). -/
def execVcmdRun (c : CtxId) (v : VoiceId) (s : State) : Res := .next (s.vcmd c v 1 0x1A)
/-- VCMD_STOP (R317, Table RE-7). -/
def execVcmdStop (c : CtxId) (v : VoiceId) (s : State) : Res := .next (s.vcmd c v 2 0x1A)
/-- VCMD_INSTALL (R317, Table RE-7). -/
def execVcmdInstall (c : CtxId) (v : VoiceId) (s : State) : Res := .next (s.vcmd c v 3 0x1A)

/-- VOICE_COMMAND_APPLY (R317, R318): at the start of the voice's slot. -/
def execVoiceCommandApply (v : VoiceId) (s : State) : Res :=
  .next (if s.slotDue v then s.applyVcmd v else s)

/-- INSTALL_VERIFY_DONE (R262, R324, R325, R369, R382): the install's last port access. -/
def execInstallVerifyDone (v : VoiceId) (badWord : Option Nat) (wordFails : Bool) (s : State) : Res :=
  let x := s.voices[v]
  if x.instBusy = false ∨ s.nv.port.holds (.install v) = false then .next s
  else
    let s := s.setNv (fun n => { n with port := n.port.release (.install v) })
    let f := s.freeBool
    let s := f.2.setVoice v (fun y => { y with instBusy := false })
    let reject (s : State) (step idx : Nat) : State :=
      (s.setVoice v (fun y => { y with instres := BitVec.ofNat 3 step, failidx := BitVec.ofNat 20 idx })).postTo
        x.instCtx 0x2003 v.val step
    match installCheck s.mem (progBase v (s.nv.stagedArea v)) v badWord f.1 with
    | some (step, idx) => .next (reject s step idx)
    | none =>
      if wordFails then .next (reject s 7 0)
      else
        let s := (s.installCommit v).setVoice v (fun y => { y with instres := 0, failidx := 0 })
        .next (s.postTo x.instCtx 0x2002 v.val (s.voices[v].prog.progid.toNat % 65536))

/-- ENGCTL_RUN (R319, R320, R323). -/
def execEngctlRun (c : CtxId) (s : State) : Res :=
  .next (s.sysWrite c 0x2A (!s.c.guard && !s.voices[voiceSYS].instBusy) (fun s => s.setEng (fun e => { e with cmdRun := true })))
/-- ENGCTL_STOP (R319). -/
def execEngctlStop (c : CtxId) (s : State) : Res :=
  .next (s.sysWrite c 0x2A true (fun s => s.setEng (fun e => { e with cmdStop := true })))
/-- ENGCTL_GACK (R385): accepted when the measure before completed without MEASOVR. -/
def execEngctlGack (c : CtxId) (s : State) : Res :=
  .next (s.sysWrite c 0x2A (!s.eng.lastOver && !s.eng.thisOver) (fun s =>
    if s.c.guard then s.setEng (fun e => { e with gack := true }) else s))

/-- ENGINE_COMMAND_APPLY (R319): at the start of a SYS slot. -/
def execEngineCommandApply (s : State) : Res := .next (if s.slotDue voiceSYS then s.applyEngine else s)

/-- HALT_ENTRY (R285, R327, R328): at the end of the T3 slot. -/
def execHaltEntry (s : State) : Res :=
  .next (if s.running && !s.wd.trap && s.eng.haltDue then
      s.freezeTimers.setEng
        (fun e => { e with halted := true, haltReq := false, haltDue := false, brkHit := false, stepping := false })
    else s)

/-- NOP (Table RI-1). -/
def execXNop (v : VoiceId) (s : State) : Res := s.plainOp v 0x01 1 (fun _ s => s)
/-- FIN (R350). -/
def execFin (v : VoiceId) (s : State) : Res :=
  match s.fetchOp v 0x02 with
  | some _ => .next (s.charge v 2 (fun s => s.endEntry v))
  | none => .next s
/-- TRUE (Table RI-1). -/
def execXTrue (v : VoiceId) (s : State) : Res := s.plainOp v 0x03 1 (fun _ s => s.setRlo v true)
/-- FALSE (Table RI-1). -/
def execXFalse (v : VoiceId) (s : State) : Res := s.plainOp v 0x04 1 (fun _ s => s.setRlo v false)
/-- INV (Table RI-1). -/
def execInv (v : VoiceId) (s : State) : Res := s.plainOp v 0x05 1 (fun _ s => s.setRlo v (!s.voices[v].rlo))
/-- JOIN (R339). -/
def execXJoin (v : VoiceId) (s : State) : Res :=
  match s.fetchOp v 0x06 with
  | none => .next s
  | some _ =>
    match s.voices[v].stack with
    | [] => .next (s.voiceFault v 4 s.voices[v].pc)
    | (r, o) :: rest =>
      .next (s.charge v 2 (fun s => (s.setVoice v (fun x => { x with rlo := o.run r x.rlo, stack := rest })).onward v))
/-- SNAP (R349): it waits for a journal in progress (R263). A record that starts within CODA's budget is written to
its end (R392). -/
def execSnap (v : VoiceId) (fail : Option (Fin 256)) (s : State) : Res :=
  match s.fetchOp v 0x07 with
  | none => .next s
  | some w =>
    let x := s.voices[v]
    let snap (s : State) : State := s.snapRec v (w.extractLsb' 0 8) (x.cycles / 96) fail
    let go (s : State) : State :=
      let s := ((snap s).setNv (fun n => { n with port := n.port.release .coda })).onward v
      if s.wd.lapsed then s.codaEnd 2000 else s
    if x.entry = some .coda ∧ s.wd.snapped = false then
      if s.nv.port.asks .journal then
        .next ((s.setWd (fun w => { w with recWait := true })).setNv (fun n => { n with port := n.port.ask .coda 256 }))
      else if x.cycles < codaCycles then .next (go (s.setVoice v (fun x => { x with cycles := x.cycles + 2050 }))) else .next s
    else .next (s.charge v 2 (fun s => (snap s).onward v))
/-- RAISE (R348). -/
def execRaise (v : VoiceId) (s : State) : Res :=
  s.plainOp v 0x08 4 (fun w s => s.raiseEv v (w.extractLsb' 0 8))
/-- GET (Table RI-1). -/
def execXGet (v : VoiceId) (s : State) : Res := s.bitOp v 0x10 .get
/-- GETN (Table RI-1). -/
def execGetn (v : VoiceId) (s : State) : Res := s.bitOp v 0x11 .getn
/-- AND (Table RI-1). -/
def execXAnd (v : VoiceId) (s : State) : Res := s.bitOp v 0x12 .and
/-- ANDN (Table RI-1). -/
def execAndn (v : VoiceId) (s : State) : Res := s.bitOp v 0x13 .andn
/-- OR (Table RI-1). -/
def execXOr (v : VoiceId) (s : State) : Res := s.bitOp v 0x14 .or
/-- ORN (Table RI-1). -/
def execOrn (v : VoiceId) (s : State) : Res := s.bitOp v 0x15 .orn
/-- XOR (Table RI-1). -/
def execXXor (v : VoiceId) (s : State) : Res := s.bitOp v 0x16 .xor
/-- XORN (Table RI-1). -/
def execXorn (v : VoiceId) (s : State) : Res := s.bitOp v 0x17 .xorn
/-- PUT (Table RI-1). -/
def execXPut (v : VoiceId) (s : State) : Res := s.putOp v 0x18 .put
/-- PUTN (Table RI-1). -/
def execPutn (v : VoiceId) (s : State) : Res := s.putOp v 0x19 .putn
/-- LATCH (Table RI-1). -/
def execLatch (v : VoiceId) (s : State) : Res := s.putOp v 0x1A .latch
/-- UNLATCH (Table RI-1). -/
def execUnlatch (v : VoiceId) (s : State) : Res := s.putOp v 0x1B .unlatch
/-- RISE (R342). -/
def execRise (v : VoiceId) (s : State) : Res := s.edgeOp v 0x1C (fun r e => r && !e)
/-- FALL (R342). -/
def execFall (v : VoiceId) (s : State) : Res := s.edgeOp v 0x1D (fun r e => e && !r)
/-- BR.AND (R339). -/
def execBrAnd (v : VoiceId) (s : State) : Res := s.branchOp v 0x20 .and
/-- BR.ANDN (R339). -/
def execBrAndn (v : VoiceId) (s : State) : Res := s.branchOp v 0x21 .andn
/-- BR.OR (R339). -/
def execBrOr (v : VoiceId) (s : State) : Res := s.branchOp v 0x22 .or
/-- BR.ORN (R339). -/
def execBrOrn (v : VoiceId) (s : State) : Res := s.branchOp v 0x23 .orn
/-- BR.XOR (R339). -/
def execBrXor (v : VoiceId) (s : State) : Res := s.branchOp v 0x24 .xor
/-- BR.XORN (R339). -/
def execBrXorn (v : VoiceId) (s : State) : Res := s.branchOp v 0x25 .xorn
/-- GOTO (R340). -/
def execGoto (v : VoiceId) (s : State) : Res := s.jumpOp v 0x30 (fun _ => true)
/-- GOTOT (R340). -/
def execGotot (v : VoiceId) (s : State) : Res := s.jumpOp v 0x31 (fun r => r)
/-- GOTOF (R340). -/
def execGotof (v : VoiceId) (s : State) : Res := s.jumpOp v 0x32 (fun r => !r)
/-- WGET (R341). -/
def execWget (v : VoiceId) (s : State) : Res := s.wordOp v 0x40 .get
/-- WIMM (Table RI-1). -/
def execWimm (v : VoiceId) (s : State) : Res := s.plainOp v 0x41 1 (fun w s => s.setWacc v (w.extractLsb' 0 16))
/-- WPUT (Table RI-1). -/
def execWput (v : VoiceId) (s : State) : Res :=
  s.areaOp v 0x42 [.w] areaCycles (fun _ _ i s => s.writeWord v i s.voices[v].wacc)
/-- WADD (R341). -/
def execWadd (v : VoiceId) (s : State) : Res := s.wordOp v 0x43 .add
/-- WSUB (R341). -/
def execWsub (v : VoiceId) (s : State) : Res := s.wordOp v 0x44 .sub
/-- WAND (R341). -/
def execWand (v : VoiceId) (s : State) : Res := s.wordOp v 0x45 .and
/-- WOR (R341). -/
def execWor (v : VoiceId) (s : State) : Res := s.wordOp v 0x46 .or
/-- WXOR (R341). -/
def execWxor (v : VoiceId) (s : State) : Res := s.wordOp v 0x47 .xor
/-- WEQ (R341). -/
def execWeq (v : VoiceId) (s : State) : Res := s.cmpOp v 0x48 .eq
/-- WNE (R341). -/
def execWne (v : VoiceId) (s : State) : Res := s.cmpOp v 0x49 .ne
/-- WGT (R341). -/
def execWgt (v : VoiceId) (s : State) : Res := s.cmpOp v 0x4A .gt
/-- WGE (R341). -/
def execWge (v : VoiceId) (s : State) : Res := s.cmpOp v 0x4B .ge
/-- WLT (R341). -/
def execWlt (v : VoiceId) (s : State) : Res := s.cmpOp v 0x4C .lt
/-- WLE (R341). -/
def execWle (v : VoiceId) (s : State) : Res := s.cmpOp v 0x4D .le
/-- WSGT (R341). -/
def execWsgt (v : VoiceId) (s : State) : Res := s.cmpOp v 0x4E .sgt
/-- WSLT (R341). -/
def execWslt (v : VoiceId) (s : State) : Res := s.cmpOp v 0x4F .slt
/-- W2X (Table RI-1). -/
def execW2x (v : VoiceId) (s : State) : Res :=
  s.plainOp v 0x50 1 (fun _ s => s.setVoice v (fun x => { x with xr := x.wacc }))
/-- X2W (Table RI-1). -/
def execX2w (v : VoiceId) (s : State) : Res :=
  s.plainOp v 0x51 1 (fun _ s => s.setVoice v (fun x => { x with wacc := x.xr }))
/-- TON (R344). -/
def execTon (v : VoiceId) (s : State) : Res := s.softOp v 0x60 .ton
/-- TOF (R344). -/
def execTof (v : VoiceId) (s : State) : Res := s.softOp v 0x61 .tof
/-- TP (R344). -/
def execTp (v : VoiceId) (s : State) : Res := s.softOp v 0x62 .tp
/-- TACC (R344). -/
def execTacc (v : VoiceId) (s : State) : Res := s.softOp v 0x63 .tacc
/-- TCLR (R344). -/
def execTclr (v : VoiceId) (s : State) : Res := s.softOp v 0x64 .tclr
/-- TPRE (R343). -/
def execTpre (v : VoiceId) (s : State) : Res :=
  s.areaOp v 0x65 [.t] (fun _ => 3) (fun w _ i s => s.setSoft v i (fun t => t.setPre w s.voices[v].wacc))
/-- CUP (R347). -/
def execCup (v : VoiceId) (s : State) : Res := s.counterOp v 0x68 4 (fun x c => c.up x.rlo)
/-- CDN (R347). -/
def execCdn (v : VoiceId) (s : State) : Res := s.counterOp v 0x69 4 (fun x c => c.down x.rlo)
/-- CCLR (R347). -/
def execCclr (v : VoiceId) (s : State) : Res :=
  s.counterOp v 0x6A 4 (fun x c => if x.rlo then { c with val := 0 } else c)
/-- CPRE (R347). -/
def execCpre (v : VoiceId) (s : State) : Res := s.counterOp v 0x6B 3 (fun x c => { c with pre := x.wacc })

/-- UNDEFINED_OPCODE (R352). -/
def execUndefinedOpcode (v : VoiceId) (s : State) : Res :=
  .next (if s.runs v then
      match s.voices[v].prog.code[s.voices[v].pc]? with
      | some w => if opDefined (opOf w) then s else s.voiceFault v 1 s.voices[v].pc
      | none => s
    else s)

end Sys2Proof.Machine
end

