-- ==== Sys2Proof/Machine/StartExec.lean ====
section
/-! DEFINITION. The commands of resets, the staged start, the recovery of the supply and DORMANT (chapters 14, 17, 18). -/

namespace Sys2Proof.Machine

/-- POWER_ON_RESET (R451), with the strap pins. -/
def execPowerOnReset (profile lockdef : Bool) (s : State) : Res := .next (s.powerOn profile lockdef)

/-- BROWNOUT (R375, R451): VKEEP has recovered above 7.60 V with the always-on domain powered. -/
def execBrownout (s : State) : Res :=
  .next (if s.start.stage = .held ∧ s.start.pfail = true then
      let s := if s.start.isDorm then s.setStart (fun x => { x with stage := .tutti }) else s
      (s.hubReset 2).setStart (fun x => { x with pfail := false, isDorm := false })
    else s)

/-- RESET_HOLD_END (R453 to R456): Tacet begins, with its two SHED sets. `lf`: LF cycles of the reset (R54, R55). -/
def execResetHoldEnd (lf : Nat) (s : State) : Res :=
  let x := s.start
  if x.stage = .held ∧ x.pfail = false ∧ x.isDorm = false ∧ s.sec.coreReset = false then
    let s := s.setClk (fun c => { (c.lfCount s.act.clk (c.lfRun + lf)) with lfRun := 0 })
    let s := (s.setKeeper (fun k => { k with regulator := false })).setWd (fun w => { w with hard := false })
    let s := { s with ports := s.ports.map (Port.held .open_) }
    .next (((s.setStart (fun x => { x with stage := .tacet, ccOff := true, sinceT := 0 })).setMode (fun m => { m with tilepwr := true })).setRing (fun _ => tacetRing)).keeperAct
  else .next s

/-- CC_TERMINATION_RESTORE (R456). -/
def execCcTerminationRestore (s : State) : Res :=
  if s.start.ccOff then
    let s := s.setStart (fun x => { x with ccOff := false })
    .next { s with ports := Vector.ofFn fun p =>
      let q := s.ports[p]
      if q.started = false then { q with term := .rd }
      else if q.state = .unattached ∧ q.scanning = false then { q with term := roleTerm (s.pset p) q.role } else q }
  else .next s

/-- TACET_END (R454, R8, R388, R420, R438): `slow` SLOW periods of Tacet, and the battery's voltage. -/
def execTacetEnd (slow bat : Nat) (s : State) : Res :=
  if s.start.stage = .tacet then
    let s := s.setClk (fun c => c.slow slow)
    let s := s.setStart (fun x => if x.strapDue then { x with profile := x.pinProf, lockdef := x.pinLock, strapDue := false } else x)
    let s := s.setMode (fun m => { m with tilepwr := true })
    let s := if s.start.cause = 7 then s
      else s.setWd (fun w => { w with count := 0, period := 8192, counting := w.en })
    let s := s.setKeeper (fun k => { Keeper.safeTrickle { k with bat := bat } with regulator := false })
    .next ((s.setStart (fun x => { x with stage := .recall, sinceT := slow })).setRing (fun r => { r with sheds := [] }))
  else .next s

/-- RECALL_END (R458 to R462). -/
def execRecallEnd (o : RecallObs) (s : State) : Res :=
  .next (if s.start.stage = .recall ∧ s.start.recalled = false then s.recall o else s)

/-- MUSTER_START (R38, R455, R463): `slow` SLOW periods since the end of Recall, 12.0 ms or more since Tacet began. -/
def execMusterStart (slow : Nat) (s : State) : Res :=
  .next (if s.start.stage = .recall ∧ s.start.recalled = true ∧ 384 ≤ s.start.sinceT + slow then s.musterStart slow else s)

/-- MUSTMAX_EXPIRE (R466). -/
def execMustmaxExpire (s : State) : Res :=
  .next (if s.start.stage = .muster ∧ s.start.mustDone = false ∧ s.musterLong = true then s.musterExpire else s)

/-- RSTCTL (R470): the reset follows the journal of this measure, at once when that journal has ended. -/
def State.rstWrite (s : State) (c : CtxId) (w : Word) : State :=
  s.sysWrite c 0x66 (w == 0xA53C) (fun s =>
    if s.running && s.pipe.haulDone && s.nv.snap.isNone then s.hubReset 6 else s.setStart (fun x => { x with rstDue := true }))
def execRstctl (c : CtxId) (w : Word) (s : State) : Res := .next (s.rstWrite c w)

/-- DORMANT_ROOT_STOP (R441): the measure beat after step 4. -/
def execDormantRootStop (s : State) : Res :=
  .next (if s.running && s.mode.dorm == .ports && !s.start.isDorm && s.lastTick then s.rootStop else s)

/-- Codes of WAKECAUSE (Table PM-4). -/
def wakeCode : WakeSrc → BitVec 3
  | .feed => 1 | .pdvbus => 2 | .btn => 3 | .timer => 4 | .tmrio _ => 5 | .host => 6

/-- A wake source is enabled (Table PM-4); of TMRIO0 one edge. -/
def State.wakeOn (s : State) (w : WakeSrc) : Bool :=
  match w with
  | .feed | .pdvbus | .btn => true
  | .timer => s.act.mode.wakeen.getLsbD 0
  | .tmrio rising => s.act.mode.wakeen.getLsbD 1 && rising == s.act.mode.wakeedge
  | .host => s.act.mode.wakeen.getLsbD 2

/-- WAKEIVL in cycles of the LF RC at its nominal rate (R443). -/
def State.wakeLf (s : State) : Nat := s.act.mode.wakeivl.toNat * 60 * 32000

/-- A wake from DORMANT: a reset with cause DORMWAKE, with the LF cycles of the stop (R443, R444), or the
entry is abandoned (R441). -/
def State.wake (s : State) (w : WakeSrc) (lf : Nat) : State :=
  if s.wakeOn w = false ∨ (w = .timer ∧ (s.start.isDorm = false ∨ lf < s.wakeLf)) then s
  else if s.start.isDorm then
    if s.start.pfail then s
    else
      let s := (s.setStart (fun x => { x with stage := .muster })).hubReset 7
      (s.setClk (fun c => { c with lfRun := c.lfRun + lf })).setMode (fun m => { m with wakecause := wakeCode w })
  else s.dormAbort (wakeCode w).toNat

/-- DORMANT_WAKE (R443, R444). -/
def execDormantWake (cause : WakeSrc) (lf : Nat) (s : State) : Res := .next (s.wake cause lf)

/-- WAKE_TIMER_EXPIRE (R443): WAKEIVL after the root stopped, counted by the LF RC in whole seconds of its
nominal rate. -/
def execWakeTimerExpire (s : State) : Res :=
  .next (if s.start.isDorm then s.wake .timer s.wakeLf else s)

/-- FEED_INPUT_QUALIFY (R409): the feeder's input, and its keeper tap (Table KP-3); a wake source (R441, R443). The LF cycles
of a DORMANT that it ends are free. -/
def execFeedInputQualify (f : FeederId) (s : State) : Res :=
  let i : Fin 4 := Fin.castLE (by decide) f
  let s := (s.setFeeder f (fun x => { x with inqual := true })).setKeeper (fun k => { k with qual := k.qual.set i true })
  let s := s.feedersAct.keeperAct
  .next (if s.start.isDorm then s.freeNat.2.wake .feed s.freeNat.1 else s.dormAbort 1)

/-- BUTTON_PRESS (R426): a press of 50 ms; a wake source (R441, R443). The LF cycles of a DORMANT that it ends are free. -/
def execButtonPress (s : State) : Res :=
  let on := s.alive
  let s := s.setLatch (fun l => { l with pressed := true })
  .next (if on then (s.post 0x6009 0 0).dormAbort 3
    else if s.start.isDorm then s.freeNat.2.wake .btn s.freeNat.1 else s)

end Sys2Proof.Machine
end

