-- ==== Sys2Proof/Machine/WdExec.lean ====
section
/-! DEFINITION. The commands of the system watchdog and of CODA (chapter 15). -/

namespace Sys2Proof.Machine

/-- Keys of R389. -/
def keyA : Word := 0x5A3C
def keyB : Word := 0xC3A5

/-- WATCHDOG_EXPIRE (R391, R395, R396), with the time since the last measure beat in µs. -/
def execWatchdogExpire (us : Nat) (s : State) : Res := .next (if s.wdDue then s.trap 1 (s.usNow us) else s)

/-- CODA_BUDGET_END (R392), 2.000 ms after the trap: a SNAP that waits for the journal completes first. -/
def execCodaBudgetEnd (s : State) : Res :=
  .next (if s.wd.coda && s.sinceTrap 2 then (if s.nv.port.asks .coda then s.setWd (fun w => { w with lapsed := true }) else s.codaEnd 2000) else s)

/-- HARD_TIMER_END (R394), 4.000 ms after the trap. A reset for another cause that came first does not stop the
hard timer: until Tacet its end is a second cause (R453). -/
def execHardTimerEnd (s : State) : Res :=
  .next (if s.wd.hard && s.sinceTrap 4 then (s.ownRecord.setWd (fun w => { w with hard := false })).hubReset 3 else s)

/-- WATCHDOG_CLOCK_STOP (R395, R397, R453): the monitor runs while the watchdog is enabled, but after a wake not before the
first measure beat. -/
def execWatchdogClockStop (s : State) : Res :=
  .next (if s.wd.en && (s.powered || s.inHold) && (s.start.cause != 7 || s.wd.counting || s.wd.trap) then s.hubReset 4 else s)

/-- A write to WDCTL (R387, R388): the first accepted one enables and locks. -/
def State.wdctl (s : State) (c : CtxId) (w : Word) : State :=
  s.sysWrite c 0x36 (!s.wd.en && decide ((w.extractLsb' 0 4).toNat ≤ 9) && w.extractLsb' 6 10 == 0) (fun s =>
    let p := w.extractLsb' 0 4
    s.setWd (fun x => { x with en := true, per := p, clksel := w.getLsbD 4, dbgfrz := w.getLsbD 5
                               period := wdPeriod p, count := 0, counting := !x.trap }))

/-- WDCTL_WRITE (R387). -/
def execWdctlWrite (c : CtxId) (w : Word) (s : State) : Res := .next (s.wdctl c w)

/-- A write to WDKICK (R389, R390, R461): served from the start of Recall, whether SYS is open or not; a
debugger needs CONTROL (R625). -/
def State.kick (s : State) (c : CtxId) (w : Word) (us : Nat) : State :=
  if s.busOn = false then s
  else if (c == ctxSYS || (c == ctxDbg && s.mayWrite c)) = false ∨ s.wd.en = false then s.reject c 0x34
  else if s.wd.trap then s
  else if w = (if s.wd.keyB then keyB else keyA) then
    s.setWd (fun x => { x with
      keyB := !x.keyB, count := 0, kicked := !s.running
      kicks := lastN 16 (x.kicks ++ [{ mc := s.c.mcount.setWidth 16, us := satWord (s.usNow us) }]) })
  else s.trap 2 (s.usNow us)

/-- WDKICK (R389, R390), with the time since the last measure beat in µs. -/
def execWdkick (c : CtxId) (w : Word) (us : Nat) (s : State) : Res := .next (s.kick c w us)

end Sys2Proof.Machine
end

