-- ==== Sys2Proof/Machine/RegOps.lean ====
section
/-! DEFINITION. The hub registers: their classes, what they read, and the writes of each (chapters 22, 23). -/

namespace Sys2Proof

/-- Access classes (R563). -/
inductive RegClass
  | all | sysw | sys | bk
deriving DecidableEq, Repr

/-- The class of the register at an offset of a page, or none where no register is (Tables HR-1 to HR-3). -/
def regClass (page : BitVec 2) (ofs : Nat) : Option RegClass :=
  if ofs % 2 = 1 ∨ 0x7E < ofs then none
  else if ofs ≤ 0x02 then some .sysw
  else if ofs ≤ 0x26 then some .bk
  else if ofs = 0x28 ∨ ofs = 0x34 ∨ ofs = 0x36 ∨ ofs = 0x5E then some .sys
  else if (0x40 ≤ ofs ∧ ofs ≤ 0x46) ∨ ofs = 0x5A then some .all
  else if ofs < 0x60 then some .sysw
  else if page = 0 ∧ ofs = 0x7E then none
  else if page = 3 ∧ 0x68 ≤ ofs then none
  else some .sys

/-- The bits that a row names; any other bit is reserved (R12, R585). -/
def regBits (page : BitVec 2) (ofs : Nat) : Word :=
  if ofs < 0x60 then
    match ofs with
    | 0x02 => 0x03FF | 0x04 => 0xFF1F | 0x0C => 0x0001 | 0x0E => 0x0001
    | 0x10 => 0x000F | 0x12 => 0x007F | 0x16 => 0x0003 | 0x18 => 0x0007
    | 0x1C => 0x000F | 0x1E => 0x007F | 0x22 => 0x0003 | 0x24 => 0x0007
    | 0x28 => 0x0FFF | 0x2A => 0x0077 | 0x2C => 0x00FF | 0x30 => 0x000F | 0x32 => 0x03FF
    | 0x36 => 0x003F | 0x38 => 0x0003 | 0x48 => 0x7F7F | 0x4A => 0x7F7F | 0x4C => 0x7F7F
    | 0x4E => 0x7FFF | 0x50 => 0x0FFF | 0x56 => 0x000F | 0x58 => 0x07FF | 0x5C => 0x001F | 0x5E => 0x0003
    | _ => 0xFFFF
  else match page.toNat, ofs with
    | 0, 0x60 => 0x007F | 0, 0x64 => 0x003F | 0, 0x78 => 0x007F | 0, 0x7A => 0x1FFF | 0, 0x7C => 0x001F
    | 1, 0x62 => 0x3FFF | 1, 0x66 => 0x3FFF | 1, 0x68 => 0x03FF | 1, 0x6A => 0x03FF | 1, 0x6C => 0x7FFF
    | 1, 0x6E => 0x3FFF | 1, 0x70 => 0x3FFF | 1, 0x72 => 0x00FF | 1, 0x74 => 0x07FF
    | 2, 0x60 => 0x01FF | 2, 0x66 => 0x007F | 2, 0x68 => 0x7FFF | 2, 0x6A => 0x7FFF | 2, 0x6C => 0x7FFF
    | 2, 0x6E => 0x003F | 2, 0x76 => 0x000F | 2, 0x7E => 0x00FF
    | 3, 0x62 => 0x000F | 3, 0x64 => 0x007F
    | _, _ => 0xFFFF

/-- Offset of the lowest word and number of words of a wide field (R586). -/
def WideReg.place : WideReg → BitVec 2 × Nat × Nat
  | .lfcal => (0, 0x62, 2) | .elapsed => (0, 0x66, 4) | .elapsedErr => (0, 0x6E, 2) | .ctofs => (0, 0x72, 3)
  | .mcount => (0, 0x3C, 2) | .cseq => (2, 0x7A, 2) | .acode => (0, 0x40, 4)

/-- The wide field of which an offset holds a word, with the word's number (R586). -/
def wideAt (page : BitVec 2) (ofs : Nat) : Option (WideReg × Nat) :=
  ([.lfcal, .elapsed, .elapsedErr, .ctofs, .mcount, .cseq, .acode] : List WideReg).findSome? (fun f =>
    let x := f.place
    if (ofs < 0x60 ∨ x.1 = page) ∧ x.2.1 ≤ ofs ∧ ofs < x.2.1 + 2 * x.2.2 then some (f, (ofs - x.2.1) / 2) else none)

/-- The `i`th 16-bit word of a number, the lowest first. -/
def wordAt (n i : Nat) : Word := BitVec.ofNat 16 (n / 65536 ^ i)

/-- A latch or a staged word of a context (R566): zero, or none, before it has been set. -/
def assoc (l : List (Nat × Nat)) (k : Nat) : Option Nat := (l.find? (fun x => x.1 == k)).map (·.2)
def Ctx.setLatch (x : Ctx) (k v : Nat) : Ctx := { x with latch := (k, v) :: x.latch.filter (fun e => e.1 != k) }
def Ctx.setStage (x : Ctx) (k : Nat) (w : Word) : Ctx := { x with stage := (k, w) :: x.stage.filter (fun e => e.1 != k) }
def Ctx.staged (x : Ctx) (k : Nat) : Option Word := (x.stage.find? (fun e => e.1 == k)).map (·.2)

/-- Keys of the latches: one per wide hub field and per wide window word. -/
def WideReg.key (f : WideReg) : Nat := f.place.2.1 + 256 * f.place.1.toNat
def bankKey (sel : BitVec 4) (idx ofs : Nat) : Nat := 0x10000 + 0x1000 * (128 * sel.toNat + idx) + ofs

/-- CTXSTAT (Table HR-1). -/
def Ctx.stat (x : Ctx) (isOpen : Bool) : Word :=
  let info : BitVec 8 := match x.rejinfo with | some i => i | none => 0
  BitVec.ofNat 16 (x.rej.toNat + 2 * x.abort.toNat + 4 * x.rmerr.toNat + 8 * x.evovf.toNat + 16 * isOpen.toNat +
    256 * info.toNat)

/-- CTXSTAT written: W1C bits (R578, R581). -/
def Ctx.clear (x : Ctx) (w : Word) : Ctx :=
  let x := if w.getLsbD 0 then { x with rej := false, rejinfo := none } else x
  let x := if w.getLsbD 1 then { x with abort := false } else x
  let x := if w.getLsbD 2 then { x with rmerr := false } else x
  if w.getLsbD 3 then { x with evovf := false, lost := 0 } else x

/-- A completed read of EVQDATA (R577). -/
def Ctx.readQueue (x : Ctx) : Word × Ctx :=
  match x.queue with
  | [] => (0, x)
  | e :: rest =>
    if x.pos = 0 then (e.code, { x with pos := 1 })
    else if x.pos = 1 then (e.arg0, { x with pos := 2 })
    else if x.pos = 2 then (e.arg1, { x with pos := 3 })
    else (e.mc, { x with queue := rest, pos := 0 })

/-- EVQCTL.CLR (R577). -/
def Ctx.clearQueue (x : Ctx) : Ctx := { x with queue := [], pos := 0 }

/-- The layout is valid (R28): slots in 0.1 ms. -/
def LayoutSet.valid (g : LayoutSet) : Bool :=
  let slots := g.sys.toNat + (g.t.toList.map (·.toNat)).foldl (· + ·) 0
  decide (15 + slots + 4 + 2 ≤ 10 * g.period.toNat)

/-- A slot length that R29 allows. -/
def slotOk (w : BitVec 7) : Bool := decide (1 ≤ w.toNat ∧ w.toNat ≤ 80)

/-- The layout with one LAYOUTn word written, or none where it is reserved (R28, R29, R590). -/
def LayoutSet.put (g : LayoutSet) (i : Fin 3) (w : Word) : Option LayoutSet :=
  let lo := w.extractLsb' 0 7
  let hi := w.extractLsb' 8 7
  let g' : LayoutSet :=
    if i = 0 then { g with period := lo, sys := hi }
    else if i = 1 then { g with t := (g.t.set 0 lo).set 1 hi }
    else { g with t := (g.t.set 2 lo).set 3 hi }
  let ok := if i = 0 then decide (4 ≤ lo.toNat ∧ lo.toNat ≤ 100) && slotOk hi else slotOk lo && slotOk hi
  if ok && g'.valid && w &&& 0x8080 == 0 then some g' else none

/-- Four nibbles, and four pairs of bits, of a word. -/
def nibbles (w : Word) : Vector (BitVec 4) 4 := Vector.ofFn fun i => w.extractLsb' (4 * i.val) 4
def pairs (w : Word) : Vector (BitVec 2) 4 := Vector.ofFn fun i => w.extractLsb' (2 * i.val) 2

/-- RINGCTL, MEMBCTL and STARTCTL, or none where the word is reserved (Table HR-4). -/
def RingSet.putRing (g : RingSet) (w : Word) : Option RingSet :=
  if w.extractLsb' 1 2 = 3 ∨ w.extractLsb' 3 4 = 0 then none
  else some { g with rpten := w.getLsbD 0, echoper := w.extractLsb' 1 2, retseg := w.extractLsb' 3 4 }
def RingSet.putMemb (g : RingSet) (w : Word) : Option RingSet :=
  let r := w.extractLsb' 1 6
  let j := w.extractLsb' 7 5
  if r = 0 ∨ 51 ≤ r.toNat ∨ (24 ≤ j.toNat ∧ j.toNat ≤ 30) then none
  else some { g with joinen := w.getLsbD 0, rejoin := r, joinnext := j }
def RingSet.putStart (g : RingSet) (w : Word) : Option RingSet :=
  if w.extractLsb' 0 4 = 0 then none else some { g with mustmax := w.extractLsb' 0 4, coldrun := w.getLsbD 4 }

/-- FEEDCTL words (Table HR-4). -/
def FeedSet.put0 (g : FeedSet) (w : Word) : Option FeedSet :=
  if w.extractLsb' 1 4 = 0 ∨ w.extractLsb' 9 4 = 0 then none
  else some { g with en := w.getLsbD 0, rsns := w.extractLsb' 1 4, vlim := w.extractLsb' 5 2, plim := w.extractLsb' 7 2
                     plt := w.extractLsb' 9 4, ramp := w.extractLsb' 13 2 }
def FeedSet.put1 (g : FeedSet) (w : Word) : Option FeedSet :=
  if 16000 < (w.extractLsb' 0 14).toNat then none else some { g with fcap := w.extractLsb' 0 14 }

/-- A KPRI list is legal: known sources, none twice, none after an empty entry (Table HR-4). -/
def kpriOk : List (BitVec 3) → Bool
  | [] => true
  | c :: rest => decide (c.toNat ≤ 4) && (if c = 0 then rest.all (· == 0) else !rest.contains c) && kpriOk rest

/-- KEEPCTL words (Table HR-4). -/
def PowerSet.putKeep (g : PowerSet) (i : Fin 3) (w : Word) : Option PowerSet :=
  if i = 0 then
    let k : Vector (BitVec 3) 4 := Vector.ofFn fun j => w.extractLsb' (3 * j.val) 3
    if kpriOk k.toList then some { g with kpri := k, khold := w.extractLsb' 12 2 } else none
  else if i = 1 then
    let a := w.extractLsb' 0 6
    let b := w.extractLsb' 6 6
    if 2 ≤ a.toNat ∧ a.toNat ≤ 60 ∧ 2 ≤ b.toNat ∧ b.toNat ≤ 60 then
      some { g with kilimf := a, kilimp := b, batoc := w.extractLsb' 12 2 }
    else none
  else
    let v := w.extractLsb' 0 8
    if 90 ≤ v.toNat ∧ v.toNat ≤ 180 then some { g with vnode := v } else none

/-- MODECTL words, DORMREQ apart (Table HR-4). -/
def ModeSet.put (g : ModeSet) (i : Fin 3) (w : Word) : Option ModeSet :=
  let lo := w.extractLsb' 0 8
  let hi := w.extractLsb' 8 8
  let hiOk := decide (1 ≤ hi.toNat ∧ hi.toNat ≤ 240)
  if i = 0 then
    some { g with lampsvc := w.getLsbD 1, doorsvc := w.getLsbD 2, dormlk := w.getLsbD 3, dormresume := w.getLsbD 4
                  wakeen := w.extractLsb' 5 3, wakeedge := w.getLsbD 8 }
  else if i = 1 then (if lo.toNat ≤ 240 ∧ hiOk = true then some { g with holddorm := lo, wakeivl := hi } else none)
  else if (lo = 0 ∨ (60 ≤ lo.toNat ∧ lo.toNat ≤ 180)) ∧ hiOk = true then some { g with vdorm := lo, resmax := hi }
  else none

/-- What the settings words read. -/
def RingSet.word (g : RingSet) : Word := BitVec.ofNat 16 (g.rpten.toNat + 2 * g.echoper.toNat + 8 * g.retseg.toNat)
def RingSet.memb (g : RingSet) : Word := BitVec.ofNat 16 (g.joinen.toNat + 2 * g.rejoin.toNat + 128 * g.joinnext.toNat)
def FeedSet.word (g : FeedSet) : Word :=
  BitVec.ofNat 16 (g.en.toNat + 2 * g.rsns.toNat + 32 * g.vlim.toNat + 128 * g.plim.toNat + 512 * g.plt.toNat + 8192 * g.ramp.toNat)
def PowerSet.keepWord (g : PowerSet) (i : Fin 3) : Word :=
  if i = 0 then
    let k (j : Fin 4) : Nat := g.kpri[j].toNat
    BitVec.ofNat 16 (k 0 + 8 * k 1 + 64 * k 2 + 512 * k 3 + 4096 * g.khold.toNat)
  else if i = 1 then BitVec.ofNat 16 (g.kilimf.toNat + 64 * g.kilimp.toNat + 4096 * g.batoc.toNat)
  else g.vnode.setWidth 16
def ModeSet.word (g : ModeSet) (i : Fin 3) : Word :=
  if i = 0 then
    BitVec.ofNat 16 (2 * g.lampsvc.toNat + 4 * g.doorsvc.toNat + 8 * g.dormlk.toNat + 16 * g.dormresume.toNat +
      32 * g.wakeen.toNat + 256 * g.wakeedge.toNat)
  else if i = 1 then g.wakeivl ++ g.holddorm
  else g.resmax ++ g.vdorm
def LinkSet.word (g : LinkSet) (i : Fin 4) : Word :=
  if i = 0 then BitVec.ofNat 16 (g.sharen.toNat + 2 * g.timepri.toNat + 32 * g.linkauto.toNat)
  else (if i = 1 then g.shcap else if i = 2 then g.shmin else g.shfall).setWidth 16

/-- Codes of the status words. -/
def Stage.code : Stage → Nat
  | .muster => 2 | .tutti => 3 | .recall => 1 | _ => 0
def FState.code : FState → Nat
  | .off => 0 | .wait => 1 | .ramp => 2 | .on => 3 | .retry => 4 | .lockout => 5
def Batt.code : Batt → Nat
  | .unknown => 0 | .present => 1 | .low => 2 | .missing => 3 | .shorted => 4
def LState.code : LState → Nat
  | .none => 0 | .entered => 1 | .agreed => 2 | .lost => 3
def Mode.code : Mode → Nat
  | .operate => 0 | .holdover => 1 | .dormant => 2

end Sys2Proof

namespace Sys2Proof.Machine

/-- ENGCTL.STATE (Table HR-2, R589). -/
def State.engState (s : State) : Nat :=
  if s.wd.trap then 4 else if s.c.guard then 2 else if s.eng.halted then 3 else if s.c.engStop then 1 else 0

/-- STARTSTAT (Table ST-5). -/
def State.startWord (s : State) : Word :=
  let x := s.start
  BitVec.ofNat 16 (x.stage.code + 4 * x.warm.toNat + 8 * x.imgvalid.toNat + 16 * x.fullver.toNat + 32 * x.batskip.toNat +
    64 * x.mustto.toNat + 128 * x.safestart.toNat + 256 * x.loopcnt.toNat)

/-- FEEDSTAT of a feeder (Table HR-3). LIMIT is the condition as last seen (R403). -/
def State.feedWord (s : State) (i : FeederId) : Word :=
  let f := s.feeders[i]
  let lim := (f.state == .ramp || f.state == .on) && f.lim
  BitVec.ofNat 16 (f.state.code + 8 * (f.att % 4) + 32 * f.revblk.toNat + 64 * lim.toNat + 128 * f.cause.toNat + 512 * f.inqual.toNat)

/-- KEEPSTAT word 0 (Table HR-3). -/
def State.keepWord (s : State) : Word :=
  let k := s.keeper
  BitVec.ofNat 16 (k.src.toNat + 8 * k.batst.code + 64 * k.batsw.toNat + 128 * k.inlim.toNat + 256 * k.outlim.toNat +
    512 * k.hot.toNat + 1024 * k.trickle.toNat)

/-- CODASTAT (Tables HR-3, WD-3). With every slot kept, NEXT reads 0. -/
def State.codaWord (s : State) : Word :=
  let valid := (List.finRange 4).foldl (fun n k => n + (codaValid s.nv k).toNat * 2 ^ k.val) 0
  let keep := s.act.ring.keep
  let next := match codaChoice s.nv keep with | some k => k.val | none => 0
  BitVec.ofNat 16 (valid + 16 * next + 64 * (keep == 15).toNat)

/-- A wide field as it stands (R566, R586). -/
def State.wide (s : State) (f : WideReg) : Nat :=
  match f with
  | .lfcal => s.clk.lfcal.toNat
  | .elapsed => s.clk.elapsed.toNat
  | .elapsedErr => min 0xFFFFFFFF s.clk.elerr
  | .ctofs => s.c.ctofs.toNat
  | .mcount => s.c.mcount.toNat
  | .cseq => match s.nv.activeWord with | some w => w.1.toNat | none => 0
  | .acode => 0

/-- The page that a context sees: SYS has one, the debugger its own (R583, R624). -/
def State.page (s : State) (c : CtxId) : BitVec 2 := s.ctxs[if c = ctxDbg then ctxDbg else ctxSYS].hpage

/-- The fixed shared registers (Table HR-2). -/
def State.fixedWord (s : State) (ofs : Nat) : Word :=
  match ofs with
  | 0x00 => 0x9600
  | 0x02 => BitVec.ofNat 16 (0xB0 + 256 * s.start.profile.toNat + 512 * s.start.lockdef.toNat)
  | 0x28 =>
    let h := s.huberr
    if h.buserr then BitVec.ofNat 16 (1 + 2 * h.ha.toNat + 256 * h.hctx.toNat + 2048 * h.strobes.toNat) else 0
  | 0x2A => BitVec.ofNat 16 (16 * s.engState)
  | 0x2C => BitVec.ofNat 16 (s.mode.mode.code + 4 * s.mode.wakecause.toNat + 32 * s.mode.dormref.toNat)
  | 0x2E => if s.mode.mode = .holdover then satWord ((s.clk.ticks - s.mode.holdTick) / 1000) else 0
  | 0x30 => s.start.cause.setWidth 16
  | 0x32 => s.startWord
  | 0x36 => BitVec.ofNat 16 (s.wd.per.toNat + 16 * s.wd.clksel.toNat + 32 * s.wd.dbgfrz.toNat)
  | 0x38 => BitVec.ofNat 16 (s.wd.en.toNat + 2 * s.wd.keyB.toNat)
  | 0x3A => if s.wd.en then satWord ((32 * s.wd.period - s.wd.count) / 32 - (Config.freeBool s.free).toNat) else 0
  | 0x48 => BitVec.ofNat 16 (s.c.set.layout.period.toNat + 256 * s.c.set.layout.sys.toNat)
  | 0x4A => BitVec.ofNat 16 (s.c.set.layout.t[0].toNat + 256 * s.c.set.layout.t[1].toNat)
  | 0x4C => BitVec.ofNat 16 (s.c.set.layout.t[2].toNat + 256 * s.c.set.layout.t[3].toNat)
  | 0x4E => s.c.set.wb.cabbud.setWidth 16
  | 0x50 => s.c.set.wb.reserve.setWidth 16
  | 0x52 => let g := s.c.set.wb.wgt; g[3] ++ g[2] ++ g[1] ++ g[0]
  | 0x54 => let g := s.c.set.wb; g.quant ++ g.shrinkw ++ g.floor[3] ++ g.floor[2] ++ g.floor[1] ++ g.floor[0]
  | 0x56 => BitVec.ofNat 16 (s.sec.level.code + 4 * s.dbgEffect.code)
  | 0x58 => BitVec.ofNat 16 (s.c.set.wb.canonper.toNat + 1024 * s.c.set.wb.phmap.toNat)
  | 0x5C =>
    let k := s.clk
    BitVec.ofNat 16 (k.srcRc.toNat + 2 * k.slew.toNat + 4 * k.xtalfail.toNat + 8 * k.lffail.toNat + 16 * k.elvalid.toNat)
  | _ => 0

/-- The paged registers (Table HR-3). -/
def State.pagedWord (s : State) (page : BitVec 2) (ofs : Nat) : Word :=
  let g := s.c.set
  match page.toNat, ofs with
  | 0, 0x60 => BitVec.ofNat 16 (g.clk.srcsel.toNat + 4 * g.clk.xtalppm.toNat + 16 * g.clk.dormband.toNat)
  | 0, 0x78 => g.ring.word
  | 0, 0x7A => g.ring.memb
  | 0, 0x7C => BitVec.ofNat 16 (g.ring.mustmax.toNat + 16 * g.ring.coldrun.toNat)
  | 1, 0x60 => g.power.feed[0].word
  | 1, 0x62 => g.power.feed[0].fcap.setWidth 16
  | 1, 0x64 => g.power.feed[1].word
  | 1, 0x66 => g.power.feed[1].fcap.setWidth 16
  | 1, 0x68 => s.feedWord 0
  | 1, 0x6A => s.feedWord 1
  | 1, 0x6C => satWord s.feedbud
  | 1, 0x6E => g.power.keepWord 0
  | 1, 0x70 => g.power.keepWord 1
  | 1, 0x72 => g.power.keepWord 2
  | 1, 0x74 => s.keepWord
  | 1, 0x76 => wordOfInt s.keeper.ibat
  | 1, 0x78 => satWord s.keeper.bat
  | 1, 0x7A => satWord s.keeper.vkeep
  | 1, 0x7C => satWord s.keeper.iin
  | 2, 0x60 => g.mode.word 0
  | 2, 0x62 => g.mode.word 1
  | 2, 0x64 => g.mode.word 2
  | 2, 0x66 => g.link.word 0
  | 2, 0x68 => g.link.word 1
  | 2, 0x6A => g.link.word 2
  | 2, 0x6C => g.link.word 3
  | 2, 0x6E =>
    let l := s.link
    BitVec.ofNat 16 (s.c.link.code + 4 * l.port.val + 8 * l.leader.toNat + 16 * l.master.toNat + 32 * l.peerHold.toNat)
  | 2, 0x70 => satWord s.linkbud
  | 2, 0x72 => s.link.lepoch
  | 2, 0x74 => s.link.partrev ++ s.link.partver
  | 2, 0x76 => BitVec.ofNat 16 (s.nv.onB.toNat + 2 * s.nv.defer.toNat + 4 * s.nv.nocommit.toNat + 8 * s.nv.pfStart.isSome.toNat)
  | 2, 0x78 => satWord s.nv.cage
  | 2, 0x7E => match s.nv.pfStart with | some p => BitVec.ofNat 16 (p.cause.toNat + 16 * p.cut.toNat) | none => 0
  | 3, 0x62 => g.ring.keep.setWidth 16
  | 3, 0x64 => s.codaWord
  | _, _ => 0

/-- What a context's read of a hub register shows, its windows apart (R566, R582 to R587). -/
def State.regWord (s : State) (c : CtxId) (ofs : Nat) : Word :=
  let x := s.ctxs[c]
  match wideAt (s.page c) ofs with
  | some (f, i) =>
    if f = .acode then 0
    else if i = 0 then wordAt (s.wide f) 0
    else match x.staged (f.key + 2 * i) with
      | some w => w
      | none => BitVec.ofNat 16 ((assoc x.latch (f.key + 2 * i)).getD 0)
  | none =>
    let win (n : Fin 2) (o : Nat) : Word :=
      let y := x.wins[n]
      match o with
      | 0 => y.sel.setWidth 16
      | 2 => y.idx.setWidth 16
      | 4 => BitVec.ofNat 16 y.ptr
      | 6 => BitVec.ofNat 16 (y.ptr / 65536)
      | 8 => y.inc.setWidth 16
      | _ => 0
    if ofs = 0x04 then x.stat (s.isOpen c)
    else if ofs = 0x08 then BitVec.ofNat 16 (x.pos + 4 * x.queue.length + 256 * x.lost)
    else if ofs = 0x0A then x.evmask
    else if ofs = 0x0E then BitVec.ofNat 16 x.inten.toNat
    else if 0x10 ≤ ofs ∧ ofs ≤ 0x1A then win 0 (ofs - 0x10)
    else if 0x1C ≤ ofs ∧ ofs ≤ 0x26 then win 1 (ofs - 0x1C)
    else if ofs = 0x5E then (s.page c).setWidth 16
    else if ofs < 0x60 then s.fixedWord ofs
    else s.pagedWord (s.page c) ofs

/-- Registers that read as usual before Recall has ended (R461). -/
def recallReads : List Nat := [0x2C, 0x2E, 0x30, 0x32]
/-- Registers that a closed context may read (R619). -/
def closedReads : List Nat := [0x00, 0x02, 0x30, 0x32, 0x2C, 0x56, 0x04]

/-- How the bus takes a read (R461, R562 to R564, R619, R624). -/
inductive ReadAs
  | silent    -- no cycle is answered
  | zero      -- 0x0000, before Recall has ended
  | refused   -- 0x0000 with REJ
  | ok
deriving DecidableEq, Repr

def State.readAsClass (s : State) (c : CtxId) (k : Option RegClass) (ofs : Nat) : ReadAs :=
  if s.busOn = false then .silent
  else if !(s.running || s.start.recalled) then (if recallReads.contains ofs then .ok else .zero)
  else match k with
    | none => .refused
    | some k =>
      if c = ctxDbg ∧ s.dbgEffect = .none then .refused
      else if k = .sys ∧ isSys c = false then .refused
      else if s.isOpen c = false ∧ closedReads.contains ofs = false then .refused
      else .ok

def State.readAs (s : State) (c : CtxId) (ofs : Nat) : ReadAs := s.readAsClass c (regClass (s.page c) ofs) ofs

/-- The upper words of a wide field go into the reading context's latches (R566). -/
def State.latchWide (s : State) (c : CtxId) (f : WideReg) : State :=
  (List.range f.place.2.2).foldl (fun s i =>
    if i = 0 then s else s.setCtx c (fun x => x.setLatch (f.key + 2 * i) ((wordAt (s.wide f) i).toNat))) s

/-! ### Writes. Each takes the whole word; a reserved encoding rejects it (R13, R585). -/

/-- A write of one committed setting by SYS. -/
def State.putSet {α : Type} (s : State) (c : CtxId) (ofs : Nat) (o : Option α) (f : α → Settings → Settings) : State :=
  s.sysWrite c ofs o.isSome (fun s => match o with | some g => s.setSet (f g) | none => s)

/-- CTXSTAT (R578, R581): a closed context may write it too (R619). -/
def State.ctxstat (s : State) (c : CtxId) (w : Word) : State :=
  if s.busOn = false then s
  else if (s.running || s.start.recalled) && (c != ctxDbg || s.dbgEffect == .control) && w &&& 0x00E0 == 0 then
    s.setCtx c (fun x => x.clear w)
  else s.reject c 0x04

/-- EVQCTL word 0 (R579). -/
def State.evmask (s : State) (c : CtxId) (w : Word) : State :=
  s.ctxWrite c 0x0A (w &&& 0xFC01 == 0 && (c != ctxSYS || w.getLsbD 8)) (fun s => s.setCtx c (fun x => { x with evmask := w }))

/-- EVQCTL word 1 (R577). -/
def State.evqctl (s : State) (c : CtxId) (w : Word) : State :=
  s.ctxWrite c 0x0C (w &&& 0xFFFE == 0) (fun s => if w.getLsbD 0 then s.setCtx c Ctx.clearQueue else s)

/-- INTCTL (R580). -/
def State.intctl (s : State) (c : CtxId) (w : Word) : State :=
  s.ctxWrite c 0x0E (w &&& 0xFFFE == 0) (fun s => s.setCtx c (fun x => { x with inten := w.getLsbD 0 }))

/-- HUBERR (R581). -/
def State.huberrWrite (s : State) (c : CtxId) (w : Word) : State :=
  s.sysWrite c 0x28 (w &&& 0xF000 == 0) (fun s => if w.getLsbD 0 then { s with huberr := {} } else s)

/-- ENGCTL (R319, R320, R385, R589): CMD and GACK. -/
def State.engctl (s : State) (c : CtxId) (w : Word) : State :=
  let cmd := w.extractLsb' 0 2
  let gack := w.getLsbD 2
  let ok := w &&& 0xFF88 == 0 && cmd != 3 && !(cmd != 0 && gack) &&
    (cmd != 1 || (!s.c.guard && !s.voices[voiceSYS].instBusy)) && (!gack || (!s.eng.lastOver && !s.eng.thisOver))
  s.sysWrite c 0x2A ok (fun s =>
    let s := if cmd = 1 then s.setEng (fun e => { e with cmdRun := true })
      else if cmd = 2 then s.setEng (fun e => { e with cmdStop := true }) else s
    if gack && s.c.guard then s.setEng (fun e => { e with gack := true }) else s)

/-- LAYOUTn (R28 to R30, R590). -/
def State.layoutWrite (s : State) (c : CtxId) (i : Fin 3) (w : Word) : State :=
  s.putSet c (0x48 + 2 * i.val) (s.c.set.layout.put i w) (fun g x => { x with layout := g })

/-- CABBUD (R254): a lower value lowers the pool at once. -/
def State.cabbudWrite (s : State) (c : CtxId) (w : Word) : State :=
  let v := w.extractLsb' 0 15
  s.sysWrite c 0x4E (!w.getLsbD 15 && decide (v.toNat ≤ 32000)) (fun s =>
    let s := s.setSet (fun x => { x with wb := { x.wb with cabbud := v } })
    if v < s.act.wb.cabbud then
      State.repool { s with act := { s.act with wb := { s.act.wb with cabbud := v } } }
    else s)

/-- RESERVE (R254): a higher value lowers the pool at once. -/
def State.reserveWrite (s : State) (c : CtxId) (w : Word) : State :=
  let v := w.extractLsb' 0 12
  s.sysWrite c 0x50 (w &&& 0xF000 == 0 && decide (100 ≤ v.toNat ∧ v.toNat ≤ 4000)) (fun s =>
    let s := s.setSet (fun x => { x with wb := { x.wb with reserve := v } })
    if s.act.wb.reserve < v then
      State.repool { s with act := { s.act with wb := { s.act.wb with reserve := v } } }
    else s)

/-- WGT, WBCTL and CANONCTL (Table HR-4). -/
def State.wgtWrite (s : State) (c : CtxId) (w : Word) : State :=
  s.putSet c 0x52 (if (nibbles w).toList.contains 0 then none else some (nibbles w))
    (fun g x => { x with wb := { x.wb with wgt := g } })
def State.wbctlWrite (s : State) (c : CtxId) (w : Word) : State :=
  let sh := w.extractLsb' 8 6
  s.putSet c 0x54 (if sh = 0 then none else some sh)
    (fun g x => { x with wb := { x.wb with shrinkw := g, floor := pairs w, quant := w.extractLsb' 14 2 } })
def State.canonWrite (s : State) (c : CtxId) (w : Word) : State :=
  let p := w.extractLsb' 0 10
  s.putSet c 0x58 (if w &&& 0xF800 = 0 ∧ 48 ≤ p.toNat ∧ p.toNat ≤ 768 then some p else none)
    (fun g x => { x with wb := { x.wb with canonper := g, phmap := w.getLsbD 10 } })

/-- TMRSYNC (R281). -/
def State.tmrsyncWrite (s : State) (c : CtxId) (w : Word) : State :=
  let mine (n : TimerId) : Bool := s.chanOwner n == (if isSys c then ctxSYS else c)
  let ok := (List.finRange 16).all (fun n => !w.getLsbD n.val || mine n)
  s.ctxWrite c 0x5A ok (fun s => (List.finRange 16).foldl (fun s n =>
    if w.getLsbD n.val && s.act.timers[n].syncsel == 0 then (s.syncChan n).loosen n else s) s)

/-- CLKSTAT: the W1C bits. -/
def State.clkstat (s : State) (c : CtxId) (w : Word) : State :=
  s.sysWrite c 0x5C (w &&& 0xFFE0 == 0) (fun s => s.setClk (fun k =>
    { k with xtalfail := k.xtalfail && !w.getLsbD 2, lffail := k.lffail && !w.getLsbD 3 }))

/-- HPAGE (R583). -/
def State.hpageWrite (s : State) (c : CtxId) (w : Word) : State :=
  s.sysWrite c 0x5E (w &&& 0xFFFC == 0) (fun s => s.setCtx c (fun x => { x with hpage := w.extractLsb' 0 2 }))

/-- CTOFS as a whole (R60, R551): refused while the hub is the time follower. -/
def State.ctofsPut (s : State) (c : CtxId) (v : BitVec 48) : State :=
  s.sysWrite c 0x72 (!s.follower) (fun s => s.setC (fun x => { x with ctofs := v }))

/-- RINGCTL, MEMBCTL with ENUM, STARTCTL. -/
def State.ringWrite (s : State) (c : CtxId) (w : Word) : State :=
  s.putSet c 0x78 (if w &&& 0xFF80 = 0 then s.c.set.ring.putRing w else none) (fun g x => { x with ring := g })
def State.enumAsk (s : State) : State := s.setRing (fun r => { r with enumDue := true })
def State.membWrite (s : State) (c : CtxId) (w : Word) : State :=
  let o := if w &&& 0xE000 = 0 then s.c.set.ring.putMemb w else none
  s.sysWrite c 0x7A o.isSome (fun s =>
    let s := match o with | some g => s.setSet (fun x => { x with ring := g }) | none => s
    if w.getLsbD 12 then s.enumAsk else s)
def State.startWrite (s : State) (c : CtxId) (w : Word) : State :=
  s.putSet c 0x7C (if w &&& 0xFFE0 = 0 then s.c.set.ring.putStart w else none) (fun g x => { x with ring := g })

/-- FEEDCTL words; word 0 with CLRLO. -/
def State.feedWrite (s : State) (c : CtxId) (f : FeederId) (hi : Bool) (w : Word) : State :=
  let g := s.c.set.power.feed[f]
  let o := if hi then (if w &&& 0xC000 = 0 then g.put1 w else none) else g.put0 w
  s.sysWrite c ((if hi then 0x62 else 0x60) + 4 * f.val) o.isSome (fun s =>
    let s := match o with
      | some g => s.setSet (fun x => { x with power := { x.power with feed := x.power.feed.set f g } })
      | none => s
    if !hi && w.getLsbD 15 then s.clrlo f else s)

/-- KEEPCTL words. -/
def State.keepWrite (s : State) (c : CtxId) (i : Fin 3) (w : Word) : State :=
  let free : Word := if i = 2 then 0xFF00 else 0xC000
  s.putSet c (0x6E + 2 * i.val) (if w &&& free = 0 then s.c.set.power.putKeep i w else none) (fun g x => { x with power := g })

/-- MODECTL words; word 0 with DORMREQ (R439). -/
def State.modeWrite (s : State) (c : CtxId) (i : Fin 3) (w : Word) : State :=
  let req := i == 0 && w.getLsbD 0
  let o := if i = 0 ∧ w &&& 0xFE00 ≠ 0 then none else s.c.set.mode.put i w
  let may := !req || s.dormMay
  s.sysWrite c (0x60 + 2 * i.val) (o.isSome && may) (fun s =>
    let s := match o with | some g => s.setSet (fun x => { x with mode := g }) | none => s
    if req then s.setMode (fun m => { m with reqDue := true }) else s)

/-- CODACTL (R398). -/
def State.codactl (s : State) (c : CtxId) (w : Word) : State :=
  s.putSet c 0x62 (if w &&& 0xFFF0 = 0 then some (w.extractLsb' 0 4) else none)
    (fun k x => { x with ring := { x.ring with keep := k } })

/-- A write of a register without a writable field: ignored where its class lets the context write and no
reserved bit is 1 (R585). -/
def State.roWrite (s : State) (c : CtxId) (ofs : Nat) (w : Word) : State :=
  match regClass (s.page c) ofs with
  | none => if s.busOn then s.reject c ofs else s
  | some k =>
    let may := isSys c || k == .all || k == .bk
    s.ctxWrite c ofs (may && w &&& ~~~ regBits (s.page c) ofs == 0) (fun s => s)

/-- A word of a wide field that takes writes: the upper words are staged, the lowest takes the field
(R566). An upper word that is not staged keeps its value. -/
def State.wideWrite (s : State) (c : CtxId) (f : WideReg) (i : Nat) (w : Word) : State :=
  let up := s.ctxs[c]
  let val : Nat := (List.range f.place.2.2).foldl (fun n j =>
    let x : Word := if j = 0 then w else match up.staged (f.key + 2 * j) with
      | some v => v
      | none => if f = .acode then 0 else wordAt (s.wide f) j
    n + x.toNat * 65536 ^ j) 0
  let ofs := f.place.2.1 + 2 * i
  let unstage (s : State) : State := s.setCtx c (fun x => { x with stage := x.stage.filter (fun e =>
    !(decide (f.key ≤ e.1 ∧ e.1 < f.key + 2 * f.place.2.2))) })
  let put (s : State) : State := s.setCtx c (fun x => x.setStage (f.key + 2 * i) w)
  if s.busOn = false then s
  else match f with
  | .acode =>
    if i = 0 then unstage (s.acode c (BitVec.ofNat 64 val))
    else if (s.running || s.start.recalled) && (c != ctxDbg || s.dbgEffect == .control) then put s
    else s.reject c ofs
  | .ctofs =>
    if i = 0 then unstage (s.ctofsPut c (BitVec.ofNat 48 val))
    else s.sysWrite c ofs (!s.follower) put
  | _ => if i = 0 then s.sysWrite c ofs true (fun s => s) else s.roWrite c ofs w

end Sys2Proof.Machine
end

