-- ==== Sys2Proof/Machine/BankOps.lean ====
section
/-! DEFINITION. The banks behind the windows: what each word reads and what a write of it does
(chapter 24, R571 to R573). -/

namespace Sys2Proof

/-- Banks (Table HB-1, Table WR-1): the largest index and the size in words. -/
def bankMax (sel : BitVec 4) : Nat :=
  match sel.toNat with
  | 1 => 95 | 2 => 23 | 4 => 4 | 5 => 4 | 6 => 15 | 7 => 1 | _ => 0
def bankSize (sel : BitVec 4) : Nat :=
  match sel.toNat with
  | 1 => 0x68 | 2 => 0x21 | 3 => 0x48 | 4 => 0x0A | 5 => 0xC20 | 6 => 0x09 | 7 => 0x13 | 8 => 0x280 | 9 => 0x40000
  | _ => 1

/-- No substitute code 0b11 in a word of eight (R166). -/
def substOk (w : Word) : Bool := (List.range 8).all (fun i => w.extractLsb' (2 * i) 2 != 3)

/-- A settings word of a bay (Table WR-3). -/
def BaySet.word (g : BaySet) (ofs : Nat) : Word :=
  let t := g.tileCfg
  match ofs with
  | 0x40 => g.owner.setWidth 16
  | 0x41 => g.ichg ++ g.cells ++ g.prof
  | 0x42 => t.restlen ++ g.pper
  | 0x43 => BitVec.ofNat 16 (g.nidv.toNat + 32 * g.dtdt.toNat + 1024 * g.platint.toNat + 4096 * g.topoff.toNat)
  | 0x44 => g.maint ++ g.tmaxc ++ g.tabs
  | 0x45 => BitVec.ofNat 16 (g.vcell.toNat + 512 * g.vabsm.toNat)
  | 0x46 =>
    BitVec.ofBool t.loopen ++ BitVec.ofBool t.pecen ++ BitVec.ofBool t.smbspd ++ BitVec.ofBool t.smben ++
      g.thermsrc ++ g.ntcb ++ g.filt ++ g.hlwait
  | 0x47 => g.capmah
  | 0x48 => BitVec.ofNat 16 (t.pollper.toNat + 8 * t.ramp.toNat + 32 * t.plt.toNat + 512 * t.lkhold.toNat)
  | 0x49 => g.eff.setWidth 16
  | 0x4A => g.subst.extractLsb' 0 16
  | 0x4B => g.subst.extractLsb' 16 16
  | _ => 0

/-- The bits of a read-only bank word that a table names; any other bit is reserved (R12, R570). -/
def bankBits (sel : BitVec 4) (ofs : Nat) : Word :=
  match sel.toNat, ofs with
  | 1, 0x0A => 0x7FFF | 1, 0x0D => 0x7FFF | 1, 0x1F => 0x3FFF | 1, 0x27 => 0x003F | 1, 0x31 => 0x0F3F | 1, 0x35 => 0x001F
  | 2, 0x00 => 0x3FFF
  | 4, 0x03 => 0x03FF | 4, 0x05 => 0x000F | 4, 0x07 => 0x000F
  | 6, 0x08 => 0xFF7F
  | 7, 0x08 => 0x0FFF | 7, 0x10 => 0x007F
  | _, _ => 0xFFFF

/-- A number within a range. -/
def inR (lo hi n : Nat) : Bool := decide (lo ≤ n ∧ n ≤ hi)

/-- The settings with one word written, or none where it is reserved (Tables CP-5, PK-6, BT-5, WB-2, WR-12). -/
def BaySet.put (g : BaySet) (ofs : Nat) (w : Word) : Option BaySet :=
  let f (lo n : Nat) : Nat := (w.toNat / 2 ^ lo) % 2 ^ n
  let t := g.tileCfg
  let keep (ok : Bool) (x : BaySet) : Option BaySet := if ok then some x else none
  match ofs with
  | 0x40 => keep (f 2 14 == 0) { g with owner := w.extractLsb' 0 2 }
  | 0x41 =>
    keep (f 0 3 != 7 && inR 0 12 (f 3 4) && inR 5 400 (f 7 9))
      { g with prof := w.extractLsb' 0 3, cells := w.extractLsb' 3 4, ichg := w.extractLsb' 7 9 }
  | 0x42 =>
    keep (inR 48 768 (f 0 10) && inR 18 60 (f 10 6) && decide (f 10 6 + 200 ≤ 10 * f 0 10))
      { g with pper := w.extractLsb' 0 10, tileCfg := { t with restlen := w.extractLsb' 10 6 } }
  | 0x43 =>
    keep (f 14 2 == 0 && inR 0 20 (f 0 5) && (f 5 5 == 0 || inR 3 30 (f 5 5)))
      { g with nidv := w.extractLsb' 0 5, dtdt := w.extractLsb' 5 5, platint := w.extractLsb' 10 2, topoff := w.extractLsb' 12 2 }
  | 0x44 =>
    keep ((f 0 6 == 0 || inR 30 60 (f 0 6)) && inR 0 5 (f 13 3))
      { g with tabs := w.extractLsb' 0 6, tmaxc := w.extractLsb' 6 7, maint := w.extractLsb' 13 3 }
  | 0x45 =>
    keep (f 13 3 == 0 && inR 0 270 (f 0 9) && inR 0 10 (f 9 4)) { g with vcell := w.extractLsb' 0 9, vabsm := w.extractLsb' 9 4 }
  | 0x46 =>
    keep (inR 0 60 (f 0 6) && f 10 2 != 3)
      { g with hlwait := w.extractLsb' 0 6, filt := w.extractLsb' 6 2, ntcb := w.extractLsb' 8 2, thermsrc := w.extractLsb' 10 2
               tileCfg := { t with smben := w.getLsbD 12, smbspd := w.getLsbD 13, pecen := w.getLsbD 14, loopen := w.getLsbD 15 } }
  | 0x47 => some { g with capmah := w }
  | 0x48 =>
    keep (f 11 5 == 0 && inR 0 4 (f 0 3) && f 5 4 != 0)
      { g with tileCfg := { t with pollper := w.extractLsb' 0 3, ramp := w.extractLsb' 3 2, plt := w.extractLsb' 5 4
                                   lkhold := w.extractLsb' 9 2 } }
  | 0x49 => keep (f 7 9 == 0 && inR 50 100 (f 0 7)) { g with eff := w.extractLsb' 0 7 }
  | 0x4A => keep (substOk w) { g with subst := g.subst.extractLsb' 16 16 ++ w }
  | 0x4B => keep (substOk w) { g with subst := w ++ g.subst.extractLsb' 0 16 }
  | _ => none

/-- A keeper settings word (R603). -/
def BaySet.putKeeper (g : BaySet) (ofs : Nat) (w : Word) : Option BaySet :=
  match if 0x41 ≤ ofs ∧ ofs ≤ 0x47 then g.put ofs w else none with
  | none => none
  | some x =>
    let n := x.cells.toNat
    let ok := (x.prof == 0 || (x.prof == 1 && inR 8 12 n) || (x.prof == 3 && inR 3 4 n)) && decide (x.ichg.toNat ≤ 250) &&
      x.thermsrc == 0
    if ok then some x else none

/-- Two bytes of a list from an index on, the first high. -/
def wordOf (l : List Byte) (i : Nat) : Word := (l.getD i 0) ++ (l.getD (i + 1) 0)

/-- A word put into the 32 bytes of PTBUF. -/
def bufPut (l : List Byte) (i : Nat) (w : Word) : List Byte :=
  ((padTo 0 32 l).set i (w.extractLsb' 8 8)).set (i + 1) (w.extractLsb' 0 8)

/-- ORDLVL (Table WR-4). -/
def BayLvl.word (x : BayLvl) : Word :=
  BitVec.ofNat 16 (x.modeo.toNat + 4 * x.locko.toNat + 16 * x.aen.toNat + 32 * x.aval.toNat + 128 * x.ben.toNat +
    256 * x.bval.toNat + 1024 * x.emrel.toNat)
def BayLvl.of (w : Word) : BayLvl :=
  { modeo := w.extractLsb' 0 2, locko := w.extractLsb' 2 2, aen := w.getLsbD 4, aval := w.extractLsb' 5 2
    ben := w.getLsbD 7, bval := w.extractLsb' 8 2, emrel := w.getLsbD 10 }
/-- The word is no reserved encoding for the context (R598, Table WR-12). -/
def lvlOk (w : Word) (sys : Bool) : Bool :=
  w.extractLsb' 0 2 != 3 && w.extractLsb' 2 2 != 3 && w.extractLsb' 11 5 == 0 && (sys || !w.getLsbD 10)

/-- ORDEDGE taken up (R599): the later UNLKP stands, the other bits accumulate. -/
def BayEdge.put (x : BayEdge) (w : Word) : BayEdge :=
  { unlkp := if w.getLsbD 0 then some (w.extractLsb' 1 8) else x.unlkp
    clrflt := x.clrflt || w.getLsbD 9, end_ := x.end_ || w.getLsbD 10, cont := x.cont || w.getLsbD 11
    restart := x.restart || w.getLsbD 12 }
def edgeOkWord (w : Word) : Bool := w.extractLsb' 13 3 == 0 && !(w.getLsbD 0 && w.extractLsb' 1 8 == 0)

/-- PTSTAT (Table WR-4). -/
def PtBox.stat (x : PtBox) : Word :=
  BitVec.ofNat 16 (x.queued.isSome.toNat + 2 * x.done.toNat + 4 * x.fail.toNat + 8 * min 32 x.bcnt + 512 * x.fcause.toNat)

/-- PTCTL (R600): one pass-through is queued. -/
def PtBox.queue (x : PtBox) (w : Word) : PtBox :=
  { x with queued := some { proto := w.extractLsb' 0 3, blen := w.extractLsb' 3 5, cmd := w.extractLsb' 8 8
                            data := x.ptdata, buf := padTo 0 32 x.buf } }

/-- TCTL, and its legality in itself (Table WR-9, Table WR-12). -/
def TimerSet.word (g : TimerSet) : Word :=
  BitVec.ofNat 16 (g.en.toNat + 2 * g.clksel.toNat + 16 * g.presc.toNat + 256 * g.oneshot.toNat + 512 * g.casc.toNat +
    1024 * g.wall.toNat + 2048 * g.frz.toNat + 4096 * g.outen.toNat + 8192 * g.syncsel.toNat)
def TimerSet.putCtl (g : TimerSet) (n : TimerId) (w : Word) : Option TimerSet :=
  if w.getLsbD 15 || decide (5 ≤ (w.extractLsb' 1 3).toNat) || w.extractLsb' 13 2 == 3 || (n == 0 && w.getLsbD 9) ||
      (decide (4 ≤ n.val) && w.getLsbD 12) then none
  else some { g with en := w.getLsbD 0, clksel := w.extractLsb' 1 3, presc := w.extractLsb' 4 4, oneshot := w.getLsbD 8
                     casc := w.getLsbD 9, wall := w.getLsbD 10, frz := w.getLsbD 11, outen := w.getLsbD 12
                     syncsel := w.extractLsb' 13 2 }

/-- No group of five channels (R279). -/
def groupsOk (v : Vector TimerSet 16) : Bool :=
  (List.range 13).all (fun i => !((List.range 4).all (fun j => (vget v (i + j) {}).casc)))

/-- Capture sources of Table TC-1. -/
def capselOk (w : BitVec 8) : Bool :=
  ([0x00, 0x01, 0x02, 0x03, 0x04, 0x08, 0x09, 0x0A, 0x10, 0x18, 0x11, 0x19, 0x12, 0x1A] : List (BitVec 8)).contains w ||
    inR 0x40 0x9F w.toNat

/-- Port words (Table WR-10). -/
def PortSet.word (g : PortSet) (ofs : Nat) : Word :=
  match ofs with
  | 0 => BitVec.ofNat 16 (g.role.toNat + 4 * g.trysnk.toNat + 8 * g.rplvl.toNat + 32 * g.vconnen.toNat + 64 * g.moisten.toNat +
      128 * g.rcs.toNat)
  | 1 => BitVec.ofNat 16 (g.pden.toNat + 2 * g.srci5.toNat + 128 * g.srci9.toNat + 8192 * g.uncons.toNat)
  | 2 => BitVec.ofNat 16 (g.srci15.toNat + 64 * g.srci20.toNat + 4096 * g.transmax.toNat)
  | 3 => BitVec.ofNat 16 (g.srcpmax.toNat + 64 * g.holdpmax.toNat)
  | 4 => BitVec.ofNat 16 (g.snkmask.toNat + 16 * g.snkimax.toNat)
  | _ => BitVec.ofNat 16 (g.prswen.toNat + 2 * g.vcswen.toNat + 4 * g.frsrxen.toNat + 8 * g.frstxen.toNat + 16 * g.linken.toNat +
      32 * g.frsreq.toNat)

/-- A port word written, the command fields apart (Tables TY-5, PD-4, SW-9). -/
def PortSet.put (g : PortSet) (ofs : Nat) (w : Word) : Option PortSet :=
  let f (lo n : Nat) : Nat := (w.toNat / 2 ^ lo) % 2 ^ n
  let opt (n : Nat) : Bool := n == 0 || inR 10 60 n
  let keep (ok : Bool) (x : PortSet) : Option PortSet := if ok then some x else none
  match ofs with
  | 0 => keep (f 10 6 == 0 && f 3 2 != 0 && f 7 2 != 3)
      { g with role := w.extractLsb' 0 2, trysnk := w.getLsbD 2, rplvl := w.extractLsb' 3 2, vconnen := w.getLsbD 5
               moisten := w.getLsbD 6, rcs := w.extractLsb' 7 2 }
  | 1 => keep (f 14 2 == 0 && inR 10 60 (f 1 6) && opt (f 7 6))
      { g with pden := w.getLsbD 0, srci5 := w.extractLsb' 1 6, srci9 := w.extractLsb' 7 6, uncons := w.getLsbD 13 }
  | 2 => keep (f 14 2 == 0 && opt (f 0 6) && opt (f 6 6))
      { g with srci15 := w.extractLsb' 0 6, srci20 := w.extractLsb' 6 6, transmax := w.extractLsb' 12 2 }
  | 3 => keep (f 12 4 == 0 && inR 5 60 (f 0 6) && inR 5 60 (f 6 6)) { g with srcpmax := w.extractLsb' 0 6, holdpmax := w.extractLsb' 6 6 }
  | 4 => keep (f 10 6 == 0 && w.getLsbD 0 && inR 10 60 (f 4 6)) { g with snkmask := w.extractLsb' 0 4, snkimax := w.extractLsb' 4 6 }
  | 5 => keep (f 9 7 == 0 && f 7 2 != 3)
      { g with prswen := w.getLsbD 0, vcswen := w.getLsbD 1, frsrxen := w.getLsbD 2, frstxen := w.getLsbD 3, linken := w.getLsbD 4
               frsreq := w.extractLsb' 5 2 }
  | _ => none

/-- QSTEP (Table WR-5): the next step of Table RM-3. -/
def Qual.step : Qual → Nat
  | .absent | .identify | .unnumber | .renumber _ => 1
  | .push => 2 | .echo => 3 | .telem => 4 | .exit => 5 | .done => 0

/-- FLAGS of a soft timer (Table WR-8). -/
def SoftTimer.flags (t : SoftTimer) : Word :=
  let k := match t.kind with | .ton => 0 | .tof => 1 | .tp => 2 | .tacc => 3
  BitVec.ofNat 16 (t.base.toNat + 4 * t.wall.toNat + 8 * t.run.toNat + 16 * t.dn.toNat + 32 * t.out.toNat + 64 * t.inp.toNat + 128 * k)
def SoftTimer.setFlags (t : SoftTimer) (w : Word) : SoftTimer :=
  let k : TKind := match (w.extractLsb' 7 2).toNat with | 0 => .ton | 1 => .tof | 2 => .tp | _ => .tacc
  { t with base := w.extractLsb' 0 2, wall := w.getLsbD 2, run := w.getLsbD 3, dn := w.getLsbD 4, out := w.getLsbD 5
           inp := w.getLsbD 6, kind := k }

/-- A 16-bit word of a bit vector, read and written. -/
def wordIn {n : Nat} (v : BitVec n) (i : Nat) : Word := v.extractLsb' (16 * i) 16
def wordSet {n : Nat} (v : BitVec n) (i : Nat) (w : Word) : BitVec n :=
  (v &&& ~~~(BitVec.ofNat n (0xFFFF * 2 ^ (16 * i)))) ||| BitVec.ofNat n (w.toNat * 2 ^ (16 * i))

/-- Numbers with their bounds. -/
def bayNo (n : Nat) : Bay := ⟨n % 96, Nat.mod_lt _ (by decide)⟩
def tileNo (n : Nat) : TileNo := ⟨n % 24, Nat.mod_lt _ (by decide)⟩
def voiceNo (n : Nat) : VoiceId := ⟨n % 5, Nat.mod_lt _ (by decide)⟩
def timerNo (n : Nat) : TimerId := ⟨n % 16, Nat.mod_lt _ (by decide)⟩
def portNo (n : Nat) : PortId := ⟨n % 2, Nat.mod_lt _ (by decide)⟩

end Sys2Proof

namespace Sys2Proof.Machine

/-! ### Bay bank -/

/-- State words 0x10 to 0x35 of a bay (Table WR-2). -/
def State.bayStatus (s : State) (b : Bay) (ofs : Nat) : Word :=
  let v := s.bays[b]
  let r := s.c.bays[b]
  let store (i : Nat) : StoreWord := vget v.store i {}
  if ofs < 0x1A then (store (ofs - 0x10)).val
  else if ofs < 0x1F then
    let j := 2 * (ofs - 0x1A)
    BitVec.ofNat 16 (min 255 (store j).age + 256 * min 255 (store (j + 1)).age)
  else if ofs = 0x1F then v.smbstat
  else if ofs < 0x24 then wordOf v.ident.chem (2 * (ofs - 0x20))
  else if ofs = 0x24 then v.ident.desV
  else if ofs = 0x25 then v.ident.desC
  else if ofs = 0x26 then v.ident.serial
  else if ofs = 0x27 then v.ident.idvalid.setWidth 16
  else if ofs < 0x30 then wordOf v.ident.name (2 * (ofs - 0x28))
  else if ofs = 0x30 then (if r.armedSet then satWord r.vpeak else 0)
  else if ofs = 0x31 then
    let was := if r.held || r.resume || r.interrupted then
        ({ base := r.base : BayRun }).phase else 0
    BitVec.ofNat 16 (min 15 r.platCount + 16 * r.below.toNat + 32 * r.span.isSome.toNat + 256 * was)
  else if ofs = 0x32 then wordOfInt r.slopeC
  else if ofs = 0x33 then (match v.ipulse with | some i => satWord i | none => 0)
  else if ofs = 0x34 then satWord (r.hlTicks / 1000)
  else if ofs = 0x35 then v.reschk.setWidth 16
  else 0

/-- A bay-bank word (R595, Tables WR-2 to WR-4), of the reading context's own copies. -/
def State.bayRead (s : State) (c : CtxId) (b : Bay) (ofs : Nat) : Word :=
  let here := s.bayPresent b
  let x := s.ctxBay[ordIx c][b].pt
  if h : ofs < 16 then s.bayWord b ⟨ofs, h⟩
  else if ofs < 0x36 then (if here then s.bayStatus b ofs else 0)
  else if ofs < 0x4C then s.c.set.bays[b].word ofs
  else if ofs = 0x50 then s.c.lvl[ordIx c][b].word
  else if here = false then 0
  else if ofs = 0x53 then x.ptdata
  else if ofs = 0x54 then x.stat
  else if ofs = 0x55 then x.word
  else if 0x58 ≤ ofs ∧ ofs ≤ 0x67 then wordOf x.buf (2 * (ofs - 0x58))
  else 0

/-- A tile-held setting has changed (R170, R597). -/
def State.tileHeld (s : State) (changed : Bool) : State :=
  if changed then s.setC (fun c => { c with push := { c.push with change := true } }) else s

/-- A settings word of a bay is written (R597, Table WR-3). In word 0x48 a tenant may change POLLPER only. -/
def State.baySet (s : State) (c : CtxId) (b : Bay) (ofs : Nat) (w : Word) : Option State :=
  let g := s.c.set.bays[b]
  let sysOnly := decide (ofs = 0x40 ∨ ofs = 0x49 ∨ ofs = 0x4A ∨ ofs = 0x4B)
  let may := isSys c || (!sysOnly && (ofs != 0x48 || w &&& 0xFFF8 == g.word 0x48 &&& 0xFFF8))
  match g.put ofs w with
  | none => none
  | some x =>
    if may then
      some ((s.setSet (fun y => { y with bays := y.bays.set b x })).tileHeld (x.tileCfg != g.tileCfg))
    else none

def State.setCtxBay (s : State) (c : CtxId) (b : Bay) (f : CtxBay → CtxBay) : State :=
  { s with ctxBay := upd s.ctxBay (ordIx c) (fun v => upd v b f) }

/-- The level orders of a context for a bay (R598, R572). The entry that the source writes can be read again (R274). -/
def State.putLvl (s : State) (c : CtxId) (b : Bay) (w : Word) : Option State :=
  if s.bayPresent b && lvlOk w (isSys c) then
    some ((s.setC (fun x => { x with lvl := upd x.lvl (ordIx c) (fun v => upd v b (fun _ => BayLvl.of w)) })).setCtxBay c b
      (fun x => { x with badLvl := false }))
  else none

/-- Edge orders (R599, R572). A write of either word by the source counts as the rewriting that R274 waits for, though this
one does not write the uncorrectable level word: its old orders stand again (DESIGN CHOICE, log entry 119). -/
def State.putEdge (s : State) (c : CtxId) (b : Bay) (w : Word) : Option State :=
  if s.bayPresent b && edgeOkWord w then
    some (s.setCtxBay c b (fun x => { x with edge := x.edge.put w, badLvl := false }))
  else none

/-- PTCTL (R109, R600). -/
def State.putPt (s : State) (c : CtxId) (b : Bay) (w : Word) : Option State :=
  let x := s.ctxBay[ordIx c][b].pt
  if s.bayPresent b && x.queued.isNone && decide ((w.extractLsb' 0 3).toNat < 6) then
    some (s.setCtxBay c b (fun y => { y with pt := y.pt.queue w }))
  else none

/-- A write of the pass-through mailbox that needs it idle (R600). -/
def State.putBox (s : State) (c : CtxId) (b : Bay) (f : PtBox → PtBox) : Option State :=
  if (s.ctxBay[ordIx c][b].pt.queued).isNone then some (s.setCtxBay c b (fun y => { y with pt := f y.pt })) else none

/-- A bay-bank word written, by a context that may access the bay. -/
def State.bayPut (s : State) (c : CtxId) (b : Bay) (ofs : Nat) (w : Word) : Option State :=
  if ofs < 0x36 ∨ ofs = 0x55 then some s
  else if 0x40 ≤ ofs ∧ ofs < 0x4C then s.baySet c b ofs w
  else if ofs = 0x50 then s.putLvl c b w
  else if ofs = 0x51 then s.putEdge c b w
  else if ofs = 0x52 then s.putPt c b w
  else if ofs = 0x53 then s.putBox c b (fun x => { x with ptdata := w })
  else if ofs = 0x54 then
    (if w &&& 0xF000 = 0 then
      some (s.setCtxBay c b (fun y => { y with pt :=
        { y.pt with done := y.pt.done && !w.getLsbD 1, fail := y.pt.fail && !w.getLsbD 2 } }))
    else none)
  else if 0x58 ≤ ofs ∧ ofs ≤ 0x67 then s.putBox c b (fun x => { x with buf := bufPut x.buf (2 * (ofs - 0x58)) w })
  else none

/-! ### Tile bank -/

/-- A context has a pin (R571). -/
def State.hasPin (s : State) (c : CtxId) (t : TileNo) (k : Fin 4) : Bool := isSys c || s.pinOwner t k == c

/-- The bits of a word that belong to the pins a context owns; `f k` are the bits of pin `k` (R601). -/
def State.pinMask (s : State) (c : CtxId) (t : TileNo) (f : Fin 4 → Nat) : Word :=
  (List.finRange 4).foldl (fun m k => if s.hasPin c t k then m ||| BitVec.ofNat 16 (f k) else m) 0

/-- A tile-bank word (Table WR-5, R601), of the reading context's orders. -/
def State.tileRead (s : State) (c : CtxId) (t : TileNo) (ofs : Nat) : Word :=
  let h := s.hub[t]
  let g := s.c.set.tiles[t]
  let mapped := s.c.map[t].isSome
  let only (w : Word) (f : Fin 4 → Nat) : Word := if isSys c then w else w &&& s.pinMask c t f
  if ofs < 0x0A ∧ mapped = false then 0
  else match ofs with
    | 0x00 =>
      BitVec.ofNat 16 (mapped.toNat + 2 * h.present.toNat + 4 * h.dropped.toNat + 8 * h.safe.toNat + 16 * h.clkhold.toNat +
        32 * h.adcfail.toNat + 64 * h.vinlow.toNat + 128 * h.vinov.toNat + 256 * h.qual.step + 2048 * min 3 h.stale +
        8192 * h.epBad.toNat)
    | 0x05 => h.proto ++ h.rev
    | 0x06 => h.vlog ++ h.vin
    | 0x07 => only (h.tio ++ h.die) (fun k => 0x1100 * 2 ^ k.val)
    | 0x08 => satWord h.dly
    | 0x09 => satWord h.lat
    | 0x10 => only (g.tiocfg.setWidth 16) (fun k => 7 * 8 ^ k.val)
    | 0x11 => only (g.tioown.setWidth 16) (fun k => 7 * 8 ^ k.val)
    | 0x12 => BitVec.ofNat 16 (g.ringseg.toNat + 16 * g.adcboost.toNat)
    | 0x13 => only g.tiosubst (fun k => 0x303 * 4 ^ k.val)
    | 0x20 => only (s.c.tioord[ordIx c][t].setWidth 16) (fun k => 3 * 4 ^ k.val)
    | _ => 0

/-- Tile-bank words that a tenant may read. -/
def tileShared : List Nat := [0x07, 0x10, 0x11, 0x13, 0x20]

/-- The level orders of a context for a tile's pins (R601). -/
def State.putTio (s : State) (c : CtxId) (t : TileNo) (w : Word) : Option State :=
  let ok := w.extractLsb' 8 8 == 0 && (List.finRange 4).all (fun k =>
    let x := w.extractLsb' (2 * k.val) 2
    x != 3 && (x == 0 || s.hasPin c t k))
  if ok then
    some (s.setC (fun x => { x with tioord := upd x.tioord (ordIx c) (fun v => v.set t (w.extractLsb' 0 8)) }))
  else none

/-- A tile-bank word written. -/
def State.tilePut (s : State) (c : CtxId) (t : TileNo) (ofs : Nat) (w : Word) : Option State :=
  let g := s.c.set.tiles[t]
  let put (x : TileSet) : State := s.setSet (fun y => { y with tiles := y.tiles.set t x })
  if ofs = 0x20 then s.putTio c t w
  else if isSys c = false then none
  else if ofs < 0x0A then some s
  else if ofs = 0x10 then
    (if w.extractLsb' 12 4 == 0 && (List.range 4).all (fun k => w.extractLsb' (3 * k) 2 != 3) then
      some ((put { g with tiocfg := w.extractLsb' 0 12 }).tileHeld (w.extractLsb' 0 12 != g.tiocfg)) else none)
  else if ofs = 0x11 then
    (if w.extractLsb' 12 4 == 0 && (List.range 4).all (fun k => decide ((w.extractLsb' (3 * k) 3).toNat ≤ 4)) then
      some (put { g with tioown := w.extractLsb' 0 12 }) else none)
  else if ofs = 0x12 then
    (if w.extractLsb' 5 11 == 0 && w.extractLsb' 0 4 != 0 then
      some ((put { g with ringseg := w.extractLsb' 0 4, adcboost := w.getLsbD 4 }).tileHeld (w.getLsbD 4 != g.adcboost)) else none)
  else if ofs = 0x13 then (if substOk w then some (put { g with tiosubst := w }) else none)
  else none

/-! ### Keeper bank -/

/-- A keeper-bank word (R603). -/
def State.keeperRead (s : State) (ofs : Nat) : Word :=
  let v := s.keep
  let r := s.c.keep
  match ofs with
  | 0x01 => satWord s.keeper.bat
  | 0x03 => satWord v.vrest
  | 0x04 => satWord v.vrage
  | 0x05 => wordOfInt s.keeper.ibat
  | 0x06 => match ntcDecode s.keeper.kntc s.act.keep.ntcb with | .temp t => wordOfInt t | _ => 0x8000
  | 0x07 => satWord (r.qacc / 3600000)
  | 0x08 => satWord (r.tchg / 1000)
  | 0x09 => BitVec.ofNat 16 r.phase
  | 0x0B => BitVec.ofNat 16 r.term.code
  | _ => if 0x41 ≤ ofs ∧ ofs ≤ 0x47 then s.c.set.keep.word ofs else 0

def State.keeperPut (s : State) (ofs : Nat) (w : Word) : Option State :=
  if ofs < 0x10 then some s
  else match s.c.set.keep.putKeeper ofs w with
    | some x => some (s.setSet (fun y => { y with keep := x }))
    | none => none

/-! ### Voice bank and voice image window -/

/-- A voice-bank word (Table WR-7), its wide fields apart. -/
def State.voiceRead (s : State) (v : VoiceId) (ofs : Nat) : Word :=
  let r := s.c.voices[v]
  let x := s.voices[v]
  match ofs with
  | 0x01 => BitVec.ofNat 16 r.clrdata.toNat
  | 0x02 => r.pulselen.setWidth 16
  | 0x03 => BitVec.ofNat 16 (r.state.code + 4 * x.instBusy.toNat + 8 * x.instres.toNat + 64 * r.lastflt.toNat)
  | _ => 0

/-- What VCMD makes of the state, where it is accepted (R317, R322, R323, Table RE-7). -/
def State.voiceCmd (s : State) (c : CtxId) (v : VoiceId) (code : BitVec 3) : Option State :=
  let st := s.c.voices[v].state
  let busy := s.voices[v].instBusy
  let ok := code == 0 || code == 2 || (code == 1 && st != .empty && !busy) || (code == 3 && st != .run && !busy)
  if ok then
    some (s.setVoice v (fun x =>
      if code = 1 then { x with cmdRun := true } else if code = 2 then { x with cmdStop := true }
      else if code = 3 then { x with cmdInst := some c } else x))
  else none

/-- A voice-bank word written. -/
def State.voicePut (s : State) (c : CtxId) (v : VoiceId) (ofs : Nat) (w : Word) : Option State :=
  match ofs with
  | 0x00 => if w.extractLsb' 3 13 = 0 then s.voiceCmd c v (w.extractLsb' 0 3) else none
  | 0x01 => if w.extractLsb' 1 15 = 0 then some (s.setVRun v (fun r => { r with clrdata := w.getLsbD 0 })) else none
  | 0x02 =>
    if w.extractLsb' 8 8 = 0 ∧ w ≠ 0 then some (s.setVRun v (fun r => { r with pulselen := w.extractLsb' 0 8 })) else none
  | _ => if ofs < 0x0A then some s else none

/-- A word of the voice image window (Table WR-8, R605), ACC's upper word apart. Area Q shows the bits that are the
voice's (R312). -/
def State.imageRead (s : State) (v : VoiceId) (ofs : Nat) : Word :=
  let x := s.voices[v]
  let r := s.c.voices[v]
  if ofs < 0x70 then wordIn x.i ofs
  else if ofs < 0x80 then 0
  else if ofs < 0xEC then
    bitsOf 16 ((List.range 16).map (fun j =>
      s.mayPutQ v (16 * (ofs - 0x80) + j) && r.q.getLsbD (16 * (ofs - 0x80) + j)))
  else if ofs < 0x100 then 0
  else if ofs < 0x180 then wordIn r.m (ofs - 0x100)
  else if ofs < 0x1C0 then wordIn r.e (ofs - 0x180)
  else if ofs < 0x200 then 0
  else if ofs < 0x400 then
    let t := vget r.t ((ofs - 0x200) / 4) {}
    match ofs % 4 with
    | 0 => t.pre
    | 1 => wordAt t.acc 0
    | 2 => wordAt t.acc 1
    | _ => t.flags
  else if ofs < 0x600 then
    let k := vget r.c ((ofs - 0x400) / 4) {}
    match ofs % 4 with
    | 0 => k.val
    | 1 => k.pre
    | 2 => BitVec.ofNat 16 (k.uin.toNat + 2 * k.din.toNat)
    | _ => 0
  else if ofs < 0x800 then vget r.w (ofs - 0x600) 0
  else if ofs < 0xC00 then x.prog.k.getD (ofs - 0x800) 0
  else vget x.s (ofs - 0xC00) 0

/-- A debugger in CONTROL with the engine in HALT (R625). -/
def State.dbgImage (s : State) (c : CtxId) : Bool := c == ctxDbg && s.dbgEffect == .control && s.engine == .halt

/-- The debugger's writes of the areas Q, M, E, T and C (R625). -/
def State.imageDebug (s : State) (v : VoiceId) (ofs : Nat) (w : Word) : Option State :=
  let run (f : VoiceRun → VoiceRun) : Option State := some (s.setVRun v f)
  let key := bankKey 5 v.val ofs
  if 0x80 ≤ ofs ∧ ofs < 0xEC then run (fun r => { r with q := wordSet r.q (ofs - 0x80) w })
  else if 0x100 ≤ ofs ∧ ofs < 0x180 then run (fun r => { r with m := wordSet r.m (ofs - 0x100) w })
  else if 0x180 ≤ ofs ∧ ofs < 0x1C0 then run (fun r => { r with e := wordSet r.e (ofs - 0x180) w })
  else if 0x200 ≤ ofs ∧ ofs < 0x400 then
    let n := (ofs - 0x200) / 4
    match ofs % 4 with
    | 0 => some (s.setSoft v n (fun t => { t with pre := w }))
    | 1 =>
      let up (t : SoftTimer) : Nat := match s.ctxs[ctxDbg].staged (key + 1) with | some u => u.toNat | none => (wordAt t.acc 1).toNat
      some ((s.setSoft v n (fun t => { t with acc := w.toNat + 65536 * up t })).setCtx ctxDbg (fun x =>
        { x with stage := x.stage.filter (fun e => e.1 != key + 1) }))
    | 2 => some (s.setCtx ctxDbg (fun x => x.setStage key w))
    | _ => if w.extractLsb' 9 7 = 0 then some (s.setSoft v n (fun t => t.setFlags w)) else none
  else if 0x400 ≤ ofs ∧ ofs < 0x600 then
    let n := (ofs - 0x400) / 4
    match ofs % 4 with
    | 0 => some (s.setCounter v n (fun k => { k with val := w }))
    | 1 => some (s.setCounter v n (fun k => { k with pre := w }))
    | 2 => if w.extractLsb' 2 14 = 0 then some (s.setCounter v n (fun k => { k with uin := w.getLsbD 0, din := w.getLsbD 1 })) else none
    | _ => none
  else none

/-- A write through the voice image window (R606, R625): area W of a voice that does not run. -/
def State.imagePut (s : State) (c : CtxId) (v : VoiceId) (ofs : Nat) (w : Word) : Option State :=
  if 0x600 ≤ ofs ∧ ofs < 0x800 ∧ (s.c.voices[v].state ≠ .run ∨ s.dbgImage c = true) then
    some (s.writeWord v (ofs - 0x600) w)
  else if s.dbgImage c then s.imageDebug v ofs w
  else none

/-! ### Timer channel bank -/

/-- The channel is an upper member of a group (R279). -/
def State.upper (s : State) (n : TimerId) : Bool := s.act.timers[n].casc

/-- A timer-bank word (Table WR-9). How many of the tick's counts a channel that a free clock drives has made when COUNT
is read is free (R277). -/
def State.timerRead (s : State) (c : CtxId) (n : TimerId) (ofs : Nat) : Word :=
  let g := s.c.set.timers[n]
  let t := s.timers[n]
  match ofs with
  | 0x00 => g.word
  | 0x01 => BitVec.ofNat 16 (g.capsel.toNat + 256 * g.edge.toNat + 1024 * g.ie.toNat)
  | 0x02 => g.owner.setWidth 16
  | 0x03 => g.per
  | 0x04 => g.cmp
  | 0x05 => g.phase
  | 0x06 => if s.upper n then t.latches[c] else (s.peek n (Config.freeNat s.free)).c.tcount[n]
  | 0x07 => match t.queue with | x :: _ => x.1 | [] => 0
  | 0x08 =>
    BitVec.ofNat 16 (t.queue.length + 8 * t.wrap.toNat + 16 * t.match_.toNat + 32 * t.done.toNat + 64 * t.capovf.toNat +
      256 * t.lastsrc[c].toNat)
  | _ => 0

/-- What a completed read of a timer-bank word does (R280, R284, R607, R624). -/
def State.timerReadFx (s : State) (c : CtxId) (n : TimerId) (ofs : Nat) : State :=
  if ofs = 0x06 ∧ s.upper n = false then
    let x := s.peek n (Config.freeNat s.free)
    let s := if s.freeRuns n then { s with free := s.free + 1 } else s
    (s.group n).foldl (fun s' m => if m = n then s' else
      s'.setTimer m (fun t => { t with latches := t.latches.set c x.c.tcount[m] })) s
  else if ofs = 0x07 then
    s.setTimer n (fun t => match t.queue with
      | x :: rest => { t with queue := if c = ctxDbg then t.queue else rest, lastsrc := t.lastsrc.set c x.2 }
      | [] => { t with lastsrc := t.lastsrc.set c 0 })
  else s

/-- TCAP's CAPSEL is legal for the channel's owner (R282, Table WR-12). A channel of SYS may name any bay's door, since
R571 lets SYS access every bay (DESIGN CHOICE, log entry 121). -/
def State.capOk (s : State) (n : TimerId) (x : BitVec 8) : Bool :=
  capselOk x && (decide (x.toNat < 0x40) || s.chanOwner n == ctxSYS ||
    s.chanOwner n == ctxOf (s.owner (bayNo (x.toNat - 0x40))))

/-- A timer-bank word written, by a context that may access the channel. -/
def State.timerPut (s : State) (c : CtxId) (n : TimerId) (ofs : Nat) (w : Word) : Option State :=
  let g := s.c.set.timers[n]
  let put (x : TimerSet) : State := s.setSet (fun y => { y with timers := y.timers.set n x })
  match ofs with
  | 0x00 =>
    match g.putCtl n w with
    | some x => if groupsOk (s.c.set.timers.set n x) then some (put x) else none
    | none => none
  | 0x01 =>
    if w.extractLsb' 14 2 == 0 && w.extractLsb' 8 2 != 3 && s.capOk n (w.extractLsb' 0 8) then
      some (put { g with capsel := w.extractLsb' 0 8, edge := w.extractLsb' 8 2, ie := w.extractLsb' 10 4 }) else none
  | 0x02 => if isSys c ∧ w.toNat ≤ 4 then some (put { g with owner := w.extractLsb' 0 3 }) else none
  | 0x03 => some (put { g with per := w })
  | 0x04 => some (put { g with cmp := w })
  | 0x05 => some (put { g with phase := w })
  | 0x06 => some ((((s.setCount n w).setC (fun c => { c with trest := c.trest.set n 0 })).setTimer n (fun t => { t with stopped := false, out := t.out || s.act.timers[n].oneshot })).loosen n)
  | 0x07 => some s
  | 0x08 =>
    some (s.setTimer n (fun t => { t with
      wrap := t.wrap && !w.getLsbD 3, match_ := t.match_ && !w.getLsbD 4, done := t.done && !w.getLsbD 5
      capovf := t.capovf && !w.getLsbD 6 }))
  | _ => none

/-! ### Port bank -/

/-- A port-bank word (Table WR-10). -/
def State.portRead (s : State) (p : PortId) (ofs : Nat) : Word :=
  let q := s.ports[p]
  let d := q.pd
  let con := match d.contract with | some k => k | none => { mv := 0, ma := 0 }
  if ofs < 6 then s.c.set.ports[p].word ofs
  else match ofs with
    | 0x08 =>
      BitVec.ofNat 16 (q.state.code + 8 * q.orient.toNat + 32 * q.partrp.toNat + 128 * q.accign.toNat + 256 * q.wetmask.toNat)
    | 0x09 => satWord q.leak[0]
    | 0x0A => satWord q.leak[1]
    | 0x0B => satWord q.leak[2]
    | 0x0C => satWord q.leak[3]
    | 0x0D => satWord q.vbus
    | 0x0E => satWord q.ibus
    | 0x10 =>
      BitVec.ofNat 16 (d.contract.isSome.toNat + 2 * (q.role == .src).toNat + 4 * d.mismatch.toNat + 8 * min 3 d.hrcnt +
        32 * d.partrev.toNat)
    | 0x11 => satWord con.mv
    | 0x12 => satWord con.ma
    | _ => 0

/-- Port fields that act at once (R496, R527). -/
def State.portAct (s : State) (p : PortId) (x : PortSet) : State :=
  let old := s.act.ports[p]
  State.portReact { s with act := { s.act with ports := s.act.ports.set p x } } p old

/-- A port-bank word written. The words of Table SW-9 take effect at the next measure beat (R554). -/
def State.portPut (s : State) (p : PortId) (ofs : Nat) (w : Word) : Option State :=
  let g := s.c.set.ports[p]
  let swap := w.extractLsb' 7 2
  let d := s.ports[p].pd
  if ofs = 0x08 ∨ (0x09 ≤ ofs ∧ ofs ≤ 0x0E) ∨ (0x10 ≤ ofs ∧ ofs ≤ 0x12) then some s
  else match g.put ofs w with
    | none => none
    | some x =>
      let t := s.setSet (fun y => { y with ports := y.ports.set p x })
      if ofs = 5 then
        (if swap = 0 then some t
         else if d.contract.isSome && d.swap.isNone then some (t.startOwn p (if swap = 1 then s.ports[p].askPr else s.ports[p].askVconn))
         else none)
      else
        let a := t.portAct p { x with prswen := s.act.ports[p].prswen, vcswen := s.act.ports[p].vcswen
                                      frsrxen := s.act.ports[p].frsrxen, frstxen := s.act.ports[p].frstxen
                                      linken := s.act.ports[p].linken, frsreq := s.act.ports[p].frsreq }
        some (if ofs == 0 && w.getLsbD 9 then a.clrlock p else a)

/-! ### Weighbridge window -/

/-- A word of the Weighbridge window (Table WR-11). -/
def State.weighRead (s : State) (ofs : Nat) : Word :=
  let free := s.wb.pool - s.heldAll
  if ofs < 0x10 then
    match ofs with
    | 0 => satWord s.wb.bifW
    | 1 => satWord s.wb.feedW
    | 2 => satWord s.wb.linkW
    | 3 => satWord s.wb.pool
    | 4 => satWord free
    | 5 => satWord s.wb.e
    | 7 => BitVec.ofNat 16 ((match s.wb.claim with | some t => t.val | none => 7) + 16 * s.wb.ptr.val)
    | 8 => satWord s.heldAll
    | _ => 0
  else if ofs < 0x30 then
    let t : Tenant := ⟨(ofs - 0x10) / 8 % 4, Nat.mod_lt _ (by decide)⟩
    match ofs % 8 with
    | 0 => satWord s.wb.share[t]
    | 1 => satWord (s.heldBy t)
    | 2 => satWord s.wb.def_[t].toNat
    | 3 => BitVec.ofNat 16 ((s.baysBy t).filter (fun b => s.bays[b].wb.opened)).length
    | 4 => satWord s.wb.shedrev[t]
    | _ => 0
  else if ofs < 0x40 then 0
  else
    let b := bayNo ((ofs - 0x40) / 6)
    let w := s.bays[b].wb
    if s.bayPresent b = false then 0
    else match (ofs - 0x40) % 6 with
      | 0 => satWord (if w.opened then w.req else 0)
      | 1 => satWord (if w.granted then w.grant else 0)
      | 2 => satWord (if w.granted then w.igr else 0)
      | 3 => BitVec.ofNat 16 (w.age % 256)
      | 4 =>
        BitVec.ofNat 16 (w.opened.toNat + 2 * w.setAside.toNat + 4 * w.entitled.toNat + 8 * w.shrunk.toNat +
          16 * w.granted.toNat + 32 * w.ovrd.toNat)
      | _ => BitVec.ofNat 16 w.gstage

/-- What a tenant may read of it (R609). -/
def State.weighMay (s : State) (c : CtxId) (ofs : Nat) : Bool :=
  isSys c || decide (ofs < 0x10) || (decide (ofs < 0x30) && (ofs - 0x10) / 8 == c.val) ||
    (decide (0x40 ≤ ofs) && s.ownsBay c (bayNo ((ofs - 0x40) / 6)))

/-! ### Any bank but the retention window -/

/-- A context may reach a word of an index (Table HB-1, R594, R601, R607, R609). -/
def State.bankMay (s : State) (c : CtxId) (sel : BitVec 4) (idx ofs : Nat) : Bool :=
  match sel.toNat with
  | 1 => s.ownsBay c (bayNo idx)
  | 2 => isSys c || tileShared.contains ofs
  | 3 => isSys c
  | 4 => mayVoice c (voiceNo idx)
  | 5 => mayVoice c (voiceNo idx)
  | 6 => isSys c || s.chanOwner (timerNo idx) == c
  | 7 => isSys c
  | 8 => s.weighMay c ofs
  | _ => false

/-- A wide field of a bank: its value and the number of the word at the offset (R566, R605). -/
def State.bankWide (s : State) (sel : BitVec 4) (idx ofs : Nat) : Option (Nat × Nat) :=
  match sel.toNat with
  | 2 =>
    if 1 ≤ ofs ∧ ofs ≤ 4 then some (match s.c.map[tileNo idx] with | some u => u.toNat | none => 0, ofs - 1) else none
  | 4 =>
    let v := voiceNo idx
    if ofs = 4 ∨ ofs = 5 then some (s.voices[v].failidx.toNat, ofs - 4)
    else if ofs = 6 ∨ ofs = 7 then some (s.c.voices[v].fltidx.toNat, ofs - 6)
    else if ofs = 8 ∨ ofs = 9 then some (s.voices[v].prog.progid.toNat, ofs - 8)
    else none
  | 5 =>
    if 0x200 ≤ ofs ∧ ofs < 0x400 ∧ (ofs % 4 = 1 ∨ ofs % 4 = 2) then
      some ((vget s.c.voices[voiceNo idx].t ((ofs - 0x200) / 4) {}).acc, ofs % 4 - 1)
    else none
  | _ => none

/-- The word at an offset of a bank, as a context that may reach it reads it. -/
def State.bankWord (s : State) (c : CtxId) (sel : BitVec 4) (idx ofs : Nat) : Word :=
  match s.bankWide sel idx ofs with
  | some (v, i) =>
    if i = 0 then wordAt v 0
    else
      let key := bankKey sel idx ofs
      match s.ctxs[c].staged key with
      | some w => w
      | none => BitVec.ofNat 16 ((assoc s.ctxs[c].latch key).getD 0)
  | none =>
    match sel.toNat with
    | 1 => s.bayRead c (bayNo idx) ofs
    | 2 => s.tileRead c (tileNo idx) ofs
    | 3 => s.keeperRead ofs
    | 4 => s.voiceRead (voiceNo idx) ofs
    | 5 => s.imageRead (voiceNo idx) ofs
    | 6 => s.timerRead c (timerNo idx) ofs
    | 7 => s.portRead (portNo idx) ofs
    | 8 => s.weighRead ofs
    | _ => 0

/-- What a completed read of it does (R280, R284, R566). -/
def State.bankReadFx (s : State) (c : CtxId) (sel : BitVec 4) (idx ofs : Nat) : State :=
  if sel = 6 then s.timerReadFx c (timerNo idx) ofs
  else match s.bankWide sel idx ofs with
    | some (v, 0) =>
      (List.range (if sel = 2 then 3 else 1)).foldl (fun s i => s.setCtx c (fun x =>
        x.setLatch (bankKey sel idx (ofs + i + 1)) (wordAt v (i + 1)).toNat)) s
    | _ => s

/-- A write of a word: the state after it, or none where it is rejected. -/
def State.bankPut (s : State) (c : CtxId) (sel : BitVec 4) (idx ofs : Nat) (w : Word) : Option State :=
  if s.bankMay c sel idx ofs = false ∨ bankSize sel ≤ ofs ∨ w &&& ~~~ bankBits sel ofs ≠ 0 then none
  else match sel.toNat with
    | 1 => s.bayPut c (bayNo idx) ofs w
    | 2 => s.tilePut c (tileNo idx) ofs w
    | 3 => s.keeperPut ofs w
    | 4 => s.voicePut c (voiceNo idx) ofs w
    | 5 => s.imagePut c (voiceNo idx) ofs w
    | 6 => s.timerPut c (timerNo idx) ofs w
    | 7 => s.portPut (portNo idx) ofs w
    | _ => none

/-- A write of a bank word by a context, rejected at WINnDATA's offset where it is not taken (R570). -/
def State.bankWrite (s : State) (c : CtxId) (ofs : Nat) (sel : BitVec 4) (idx ptr : Nat) (w : Word) : State :=
  let o := s.bankPut c sel idx ptr w
  s.ctxWrite c ofs o.isSome (fun s => match o with | some t => t | none => s)

end Sys2Proof.Machine
end

