-- ==== Sys2Proof/Machine/WinOps.lean ====
section
/-! DEFINITION. The windows: their registers, the movement of the pointer, and the retention window with its
buffers (R567 to R575, R378, R379, R610). -/

namespace Sys2Proof

/-- The window after an access (R569). The bank None has nothing to move over. -/
def Win.move (w : Win) : Win :=
  if w.sel = 0 then w
  else if w.inc = 1 then { w with ptr := if w.ptr + 1 < bankSize w.sel then w.ptr + 1 else 0 }
  else if w.inc = 2 then { w with idx := if w.idx.toNat < bankMax w.sel then w.idx + 1 else 0 }
  else w

/-- The word at a byte address of a read buffer (R574, R610). -/
def bufWord (o : Option (Nat × List Byte)) (a : Nat) : Option Word :=
  match o with
  | some (base, l) => if base ≤ a ∧ a + 1 < base + l.length then some (wordOf l (a - base)) else none
  | none => none

/-- The aligned block of a word pointer. -/
def blockOf (ptr : Nat) : Nat := ptr / 128

/-- The byte offset of WINnDATA and the offset of the window's first register. -/
def winBase (n : Fin 2) : Nat := 0x10 + 12 * n.val
def winData (n : Fin 2) : Nat := 0x1A + 12 * n.val

end Sys2Proof

namespace Sys2Proof.Machine

def State.setWin (s : State) (c : CtxId) (n : Fin 2) (f : Win → Win) : State :=
  s.setCtx c (fun x => { x with wins := upd x.wins n f })

/-- A program area is open to a context (Table NV-6). -/
def mayProg (c : CtxId) (v : VoiceId) : Bool := isSys c || (v != voiceSYS && c == voiceCtx v)
/-- A scratch area is open to a context. -/
def mayScratch (c d : CtxId) : Bool := if isSys c then d == ctxSYS else d == c

/-- A context may read a byte address of the retention memory (Table NV-6, R377). -/
def nvMayRead (c : CtxId) (a : Nat) : Bool :=
  match regionOf a with
  | .control | .bankA | .bankB | .coda _ => isSys c
  | .prog v _ => mayProg c v
  | .key | .reserved => false
  | .scratch d => mayScratch c d

/-- A context may write it (Table NV-6, R322, R323, R379). -/
def State.nvMayWrite (s : State) (c : CtxId) (a : Nat) : Bool :=
  match regionOf a with
  | .prog v area =>
    mayProg c v && area == s.nv.stagedArea v && s.c.voices[v].state != .run && !s.voices[v].instBusy &&
      (v != voiceSYS || s.c.engStop)
  | .scratch d => mayScratch c d
  | _ => false

/-- The bytes of a line of a state bank. -/
def bankBytes (n : Nv) (a : Nat) : List Byte :=
  if a < 0x19000 then natBytes 8 (n.bankA.line ((a - 0x1000) / 8)).toNat else natBytes 8 (n.bankB.line ((a - 0x19000) / 8)).toNat

/-- A block of the retention memory as a transfer brings it. Bytes of the control area are free values, as the
spec gives no places to what it holds. -/
def State.fetchBlock (s : State) (base : Nat) : List Byte :=
  match regionOf base with
  | .control => (List.range 256).map (fun i => Config.freeByte (s.free + i))
  | .bankA | .bankB => (List.range 32).flatMap (fun i => bankBytes s.nv (base + 8 * i))
  | _ => Memory.run s.nv.mem base 256

/-- A fetch into the read buffer (R574). -/
def State.winFetch (s : State) (c : CtxId) (n : Fin 2) : State :=
  let base := 256 * blockOf (s.ctxs[c].wins[n]).ptr
  let l := s.fetchBlock base
  { s.setWin c n (fun w => { w with rbuf := some (base, l) }) with free := s.free + 256 }

/-- Words written to the retention memory, high byte first (R610). -/
def putWords (m : Memory) : List (Nat × Word) → Memory
  | [] => m
  | (p, w) :: rest => putWords (m.putRun (2 * p) (wordBytes w)) rest

/-- The lines that a write buffer goes to, in ascending address (R575). -/
def wbufLines (l : List (Nat × Word)) : List Nat :=
  match l with
  | [] => []
  | x :: _ => ((List.range 32).map (fun i => 32 * blockOf x.1 + i)).filter (fun k => l.any (fun y => y.1 / 4 == k))

/-- The words of the first `k` lines of a transfer. -/
def firstLines (l : List (Nat × Word)) (k : Nat) : List (Nat × Word) :=
  l.filter (fun y => ((wbufLines l).take k).contains (y.1 / 4))

/-- A host transfer fails for good at a line (R275). -/
def State.rmerr (s : State) (c : CtxId) : State := s.setCtx c (fun x => { x with rmerr := true })

/-- The write buffer goes to the memory as one transfer (R575); `fail`: the line of it that fails twice, where the
transfer ends with RMERR (R275). Words that may no longer be written are rejected (R379). -/
def State.winFlush (s : State) (c : CtxId) (n : Fin 2) (fail : Option Nat) : State :=
  let l := (s.ctxs[c].wins[n]).wbuf
  if l.isEmpty then s
  else
    let s := s.setWin c n (fun w => { w with wbuf := [] })
    if !l.all (fun x => s.nvMayWrite c (2 * x.1)) then s.reject c (winData n)
    else match fail with
      | some k =>
        if k < (wbufLines l).length then (s.setMem (fun m => putWords m (firstLines l k))).rmerr c
        else s.setMem (fun m => putWords m l)
      | none => s.setMem (fun m => putWords m l)

/-- The pointer leaves its block with the access (R569, R575). -/
def State.winLeaves (s : State) (c : CtxId) (n : Fin 2) : Bool :=
  let w := s.ctxs[c].wins[n]
  blockOf w.move.ptr != blockOf w.ptr

/-- The window moves; a pointer that leaves its block flushes the write buffer (R569, R575). -/
def State.winMove (s : State) (c : CtxId) (n : Fin 2) (fail : Option Nat) : State :=
  let leaves := s.winLeaves c n
  let s := s.setWin c n Win.move
  if leaves then s.winFlush c n fail else s

/-- A read of WINnDATA that needs a fetch (R574, R378). -/
def State.readMisses (s : State) (c : CtxId) (n : Fin 2) : Bool :=
  let w := s.ctxs[c].wins[n]
  s.readAs c (winData n) == .ok && w.sel == 9 && nvMayRead c (2 * w.ptr) && (bufWord w.rbuf (2 * w.ptr)).isNone

/-- A read of WINnDATA in the retention window (R574, R378). Where the fetch has failed, the data is free. -/
def State.nvRead (s : State) (c : CtxId) (n : Fin 2) : State :=
  let a := 2 * (s.ctxs[c].wins[n]).ptr
  if nvMayRead c a = false then s.rejectRead c (winData n)
  else match bufWord (s.ctxs[c].wins[n]).rbuf a with
    | some x => { s with hd := x }
    | none => let f := s.freeWord; { f.2 with hd := f.1 }

/-- A read of WINnDATA completes (R557, R567, R569, R587). -/
def State.readNow (s : State) (c : CtxId) (n : Fin 2) (fail : Option Nat) : State :=
  let w := s.ctxs[c].wins[n]
  match s.readAs c (winData n) with
  | .silent => s
  | .zero => { s with hd := 0 }
  | .refused => (s.rejectRead c (winData n)).winMove c n fail
  | .ok =>
    if w.sel = 0 then { s with hd := 0 }
    else if w.sel = 9 then (s.nvRead c n).winMove c n fail
    else if s.bankMay c w.sel w.idx.toNat w.ptr then
      let x := s.bankWord c w.sel w.idx.toNat w.ptr
      State.winMove { s.bankReadFx c w.sel w.idx.toNat w.ptr with hd := x } c n fail
    else (s.rejectRead c (winData n)).winMove c n fail

/-- A write of WINnDATA in the retention window (R575, R378). -/
def State.nvWrite (s : State) (c : CtxId) (n : Fin 2) (x : Word) : State :=
  let p := (s.ctxs[c].wins[n]).ptr
  if s.nvMayWrite c (2 * p) then
    s.setWin c n (fun w => { w with wbuf := w.wbuf.filter (fun e => e.1 != p) ++ [(p, x)] })
  else s.reject c (winData n)

/-- A write of WINnDATA completes (R567, R569, R570). -/
def State.writeNow (s : State) (c : CtxId) (n : Fin 2) (x : Word) (fail : Option Nat) : State :=
  let w := s.ctxs[c].wins[n]
  if s.busOn = false then s
  else if !(s.running || s.start.recalled) then s.reject c (winData n)
  else if s.mayWrite c = false then (s.reject c (winData n)).winMove c n fail
  else if w.sel = 0 then s
  else if w.sel = 9 then (s.nvWrite c n x).winMove c n fail
  else (s.bankWrite c (winData n) w.sel w.idx.toNat w.ptr x).winMove c n fail

/-- Offset of a window's register from its first, and a write of it once the buffered words have gone (R568, R569,
R574, R575). The retention window does not stand with INC = 0b10. -/
def State.regNow (s : State) (c : CtxId) (n : Fin 2) (r : WinField) (x : Word) (fail : Option Nat) : State :=
  let s := if s.mayWrite c then s.winFlush c n fail else s
  let w := s.ctxs[c].wins[n]
  let put (o : Nat) (ok : Bool) (f : Win → Win) : State := s.ctxWrite c (winBase n + o) ok (fun s => s.setWin c n f)
  match r with
  | .sel => put 0 (decide (x.toNat ≤ 9) && !(x == 9 && w.inc == 2))
      (fun w => { w with sel := x.extractLsb' 0 4, idx := 0, ptr := 0, rbuf := none })
  | .idx => put 2 (decide (x.toNat ≤ bankMax w.sel)) (fun w => { w with idx := x.extractLsb' 0 7 })
  | .ptrl =>
    let p := w.ptr / 65536 * 65536 + x.toNat
    put 4 (decide (p < bankSize w.sel)) (fun w => { w with ptr := p, rbuf := none })
  | .ptrh =>
    let p := x.toNat * 65536 + w.ptr % 65536
    put 6 (decide (x.toNat ≤ 3 ∧ p < bankSize w.sel)) (fun w => { w with ptr := p, rbuf := none })
  | .ctl =>
    let inc := x.extractLsb' 0 2
    put 8 (x &&& 0xFFF8 == 0 && inc != 3 && !(inc == 2 && w.sel == 9)) (fun w => { w with inc := inc })

/-- A cycle at a window completes; `fail`: the line of its write transfer that fails twice. -/
def State.opNow (s : State) (o : HostOp) (fail : Option Nat) : State :=
  match o with
  | .read c n _ => s.readNow c n fail
  | .write c n x => s.writeNow c n x fail
  | .reg c n r x => s.regNow c n r x fail

/-- The cycle writes the buffered words first (R575). -/
def State.opFlushes (s : State) (o : HostOp) : Bool :=
  let full (c : CtxId) (n : Fin 2) : Bool := !(s.ctxs[c].wins[n]).wbuf.isEmpty
  match o with
  | .read c n _ => (s.readAs c (winData n) == .ok || s.readAs c (winData n) == .refused) && s.winLeaves c n && full c n
  | .write c n _ =>
    let w := s.ctxs[c].wins[n]
    (s.running || s.start.recalled) && s.winLeaves c n &&
      (full c n || (s.mayWrite c && w.sel == 9 && s.nvMayWrite c (2 * w.ptr)))
  | .reg c n _ _ => s.mayWrite c && full c n

/-- The cycle waits for a fetch into the read buffer (R574). -/
def State.opFetches (s : State) (o : HostOp) : Bool :=
  match o with | .read c n failed => !failed && s.readMisses c n | _ => false

/-- A cycle at a window: it completes at once, or HWAIT# holds it until its transfer has completed (R574, R575). -/
def State.hostOp (s : State) (o : HostOp) : State :=
  if s.busOn && (s.opFetches o || s.opFlushes o) then
    ({ s with held := some o }).setNv (fun n => { n with port := n.port.ask .host 32 })
  else s.opNow o none

/-- A cycle goes on once its transfer has completed, or has failed twice at a line (R264, R275). A read of the
retention window whose buffer must be written too then waits for that transfer. -/
def State.opResume (s : State) (o : HostOp) (fail : Option Nat) : State :=
  match o with
  | .read c n _ =>
    if s.opFetches o then
      match fail with
      | none => (s.winFetch c n).hostOp o
      | some _ => (s.rmerr c).hostOp (.read c n true)
    else s.opNow o fail
  | _ => s.opNow o fail

/-- The transfer of the cycle that HWAIT# holds is over. -/
def State.transferDone (s : State) (o : HostOp) (fail : Option Nat) : State :=
  ({ s with held := none }.setNv (fun n => { n with port := n.port.release .host })).opResume o fail

/-- A read of WINnDATA (R567, R569, R587). -/
def State.windataRead (s : State) (c : CtxId) (n : Fin 2) : State := s.hostOp (.read c n false)
/-- A write of WINnDATA (R567, R569, R570). -/
def State.windataWrite (s : State) (c : CtxId) (n : Fin 2) (x : Word) : State := s.hostOp (.write c n x)

/-- WINnSEL (R568, R574). -/
def State.winsel (s : State) (c : CtxId) (n : Fin 2) (w : Word) : State := s.hostOp (.reg c n .sel w)

/-- WINnIDX, WINnPTRL and WINnPTRH (R568, R574). -/
def State.winptr (s : State) (c : CtxId) (n : Fin 2) (r : WinReg) (w : Word) : State :=
  s.hostOp (.reg c n (match r with | .idx => .idx | .ptrl => .ptrl | .ptrh => .ptrh) w)

/-- WINnCTL (R569, R575). -/
def State.winctl (s : State) (c : CtxId) (n : Fin 2) (w : Word) : State := s.hostOp (.reg c n .ctl w)

end Sys2Proof.Machine
end

