-- ==== Sys2Proof/Machine/FailExec.lean ====
section
/-! DEFINITION. POWER_FAIL: what each transfer of the retention port leaves when the power fails, and the power-fail
record (chapter 14). -/

namespace Sys2Proof.Machine

/-- The context and window of a held cycle. -/
def heldAt (o : HostOp) : CtxId × Fin 2 :=
  match o with | .read c n _ | .write c n _ | .reg c n _ _ => (c, n)

/-- The words that a held cycle's transfer writes. -/
def State.heldWords (s : State) (o : HostOp) : List (Nat × Word) :=
  let w := s.ctxs[(heldAt o).1].wins[(heldAt o).2]
  match o with
  | .write c _ x =>
    if s.mayWrite c && w.sel == 9 && s.nvMayWrite c (2 * w.ptr) then w.wbuf.filter (fun e => e.1 != w.ptr) ++ [(w.ptr, x)]
    else w.wbuf
  | _ => w.wbuf

/-- The cycle or the debugger's access whose transfer the power failure cuts: the one that holds the port, else the bus's. -/
def State.cutOp (s : State) : Option HostOp := if s.nv.port.holds .debug ∨ s.held = none then s.sec.accOp else s.held

/-- A host transfer that is cut after `k` lines keeps them (R372); with it the next byte address. One whose words may no
longer be written is rejected and moves none (R379). -/
def State.cutHost (s : State) (k : Nat) : Option (CtxId × Nat) × State :=
  match s.cutOp with
  | none => (none, s)
  | some o =>
    let at' := heldAt o
    if State.opFetches { s with held := none } o then (some (at'.1, 256 * blockOf (s.ctxs[at'.1].wins[at'.2]).ptr + 8 * min 31 k), s)
    else
      let l := s.heldWords o
      if !l.all (fun y => s.nvMayWrite at'.1 (2 * y.1)) then (none, s) else
      let lines := wbufLines l
      let j := min k (lines.length - 1)
      (some (at'.1, 8 * (match (lines.drop j).head? with | some a => a | none => 0)),
       s.setMem (fun m => putWords m (firstLines l j)))

/-- A coda record that SNAP or the hub itself is writing is cut (R376): the first result says that there is one. -/
def State.cutSnap (s : State) (x : CutObs) : Bool × State :=
  if s.ownDue then (true, s.cutRecord 0 true s.wd.recAt x.lines)
  else if x.snap && s.wd.coda && !s.wd.snapped && !s.nv.port.asks .journal then
    match s.fetchOp voiceSYS 0x07 with
    | some w => (true, s.cutRecord (w.extractLsb' 0 8) false (s.voices[voiceSYS].cycles / 96) x.lines)
    | none => (false, s)
  else (false, s)

/-- The port has an install's work. -/
def portInstalls (p : RetPort) : Bool := (List.finRange 5).any (fun v => p.asks (.install v))

/-- POWER_FAIL (R371 to R373, R375), which writes nothing in DORMANT and SHIP only: the line in progress completes, what each transfer has written stands, and the
power-fail record names those that were cut. The hub is held in reset. MCOUNT is free before Recall has loaded the
counter (DESIGN CHOICE, log entry 124). -/
def execPowerFail (core : Bool) (x : CutObs) (s : State) : Res :=
  if s.start.stage = .off ∨ s.start.pfail = true then .next s
  else
    let idle := s.start.isDorm || s.latch.ship || s.latch.breset == .cut
    let p := s.nv.port
    let s := if idle then s else s.setNv (fun n => n.cutJournal x.lines)
    let snap := s.cutSnap x
    let host := snap.2.cutHost x.host
    let s := (if idle then s else host.2).setWd (fun w => { w with recDue := false })
    let cut : BitVec 4 := bitsOf 4 [p.asks .journal, snap.1 || p.asks .coda, portInstalls p, host.1.isSome]
    let f := if s.running || s.start.recalled then (s.c.mcount, s) else (let f := s.freeNat; (BitVec.ofNat 32 f.1, f.2))
    let s := f.2
    let rec' : PfRec :=
      { cause := if core then 2 else 1, mcount := f.1, cseq := match s.nv.activeWord with | some w => w.1 | none => 0
        elapsed := s.clk.elapsed, cut := cut
        hostctx := match host.1 with | some h => h.1 | none => 0, hostaddr := match host.1 with | some h => h.2 | none => 0 }
    let s := if idle then s else s.setNv (fun n => { n with pf := some rec'.seal, snap := none })
    let dorm := s.start.isDorm
    let s := if s.powered then s.hubReset 2 else s
    .next (s.setStart (fun y => { y with pfail := true, isDorm := dorm }))

end Sys2Proof.Machine
end

