-- ==== Sys2Proof/Machine/HostOps.lean ====
section
/-! DEFINITION. Any read and any write of a hub register by a context (chapters 22, 23, R624, R625). -/

namespace Sys2Proof.Machine

/-- A read of EVQDATA (R577); the debug context has no queue (R624). -/
def State.evqRead (s : State) (c : CtxId) : State :=
  match s.readAs c 0x06 with
  | .silent => s
  | .zero => { s with hd := 0 }
  | .refused => s.rejectRead c 0x06
  | .ok =>
    if c = ctxDbg then { s with hd := 0 }
    else
      let x := s.ctxs[c].readQueue
      { s.setCtx c (fun _ => x.2) with hd := x.1 }

/-- A read of any register but EVQDATA and WINnDATA, with the latching of R566. -/
def State.plainRead (s : State) (c : CtxId) (ofs : Nat) : State :=
  match s.readAs c ofs with
  | .silent => s
  | .zero => { s with hd := 0 }
  | .refused => s.rejectRead c ofs
  | .ok =>
    let w := s.regWord c ofs
    let s := if regClass (s.page c) ofs = some .sys ∧ s.page c = 1 ∧ (ofs = 0x68 ∨ ofs = 0x6A) then { s with free := s.free + 1 } else s
    let s := match wideAt (s.page c) ofs with | some (f, 0) => s.latchWide c f | _ => s
    { s with hd := w }

/-- Class of a wide field (Tables HR-2, HR-3). -/
def wideClass (f : WideReg) : RegClass :=
  match f with | .acode => .all | .mcount => .sysw | _ => .sys

/-- A read of the lowest word of a wide field, on the page that shows it (R566, R586). -/
def State.wideRead (s : State) (c : CtxId) (f : WideReg) : State :=
  let ofs := f.place.2.1
  match s.readAsClass c (some (wideClass f)) ofs with
  | .silent => s
  | .zero => { s with hd := 0 }
  | .refused => s.rejectRead c ofs
  | .ok => if f = .acode then { s with hd := 0 } else { s.latchWide c f with hd := wordAt (s.wide f) 0 }

/-- A read of any register. -/
def State.hostRead (s : State) (c : CtxId) (ofs : Nat) : State :=
  if ofs = 0x06 then s.evqRead c
  else if ofs = 0x1A then s.windataRead c 0
  else if ofs = 0x26 then s.windataRead c 1
  else s.plainRead c ofs

/-- A write of a fixed register (Tables HR-1, HR-2). -/
def State.fixedWrite (s : State) (c : CtxId) (ofs : Nat) (w : Word) : State :=
  match ofs with
  | 0x04 => s.ctxstat c w
  | 0x0A => s.evmask c w
  | 0x0C => s.evqctl c w
  | 0x0E => s.intctl c w
  | 0x10 => s.winsel c 0 w
  | 0x12 => s.winptr c 0 .idx w
  | 0x14 => s.winptr c 0 .ptrl w
  | 0x16 => s.winptr c 0 .ptrh w
  | 0x18 => s.winctl c 0 w
  | 0x1A => s.windataWrite c 0 w
  | 0x1C => s.winsel c 1 w
  | 0x1E => s.winptr c 1 .idx w
  | 0x20 => s.winptr c 1 .ptrl w
  | 0x22 => s.winptr c 1 .ptrh w
  | 0x24 => s.winctl c 1 w
  | 0x26 => s.windataWrite c 1 w
  | 0x28 => s.huberrWrite c w
  | 0x2A => s.engctl c w
  | 0x34 => let f := s.freeNat; f.2.kick c w (f.1 % (1000 * s.period))
  | 0x36 => s.wdctl c w
  | 0x48 => s.layoutWrite c 0 w
  | 0x4A => s.layoutWrite c 1 w
  | 0x4C => s.layoutWrite c 2 w
  | 0x4E => s.cabbudWrite c w
  | 0x50 => s.reserveWrite c w
  | 0x52 => s.wgtWrite c w
  | 0x54 => s.wbctlWrite c w
  | 0x58 => s.canonWrite c w
  | 0x5A => s.tmrsyncWrite c w
  | 0x5C => s.clkstat c w
  | 0x5E => s.hpageWrite c w
  | _ => s.roWrite c ofs w

/-- The keeper's source inputs as the hub knows them: one is above 4.0 V (R429). KIN of a port lies behind its sink FET. -/
def State.inputUp (s : State) : Bool :=
  (List.finRange 2).any (fun i => s.feeders[i].inqual) || (List.finRange 2).any (fun p => s.ports[p].snkFet && decide (4000 < s.ports[p].vbus))

/-- A write of a paged register (Table HR-3). What SHIPCTL needs of the inputs beyond the hub's own
readings is free. -/
def State.pagedWrite (s : State) (c : CtxId) (ofs : Nat) (w : Word) : State :=
  if isSys c = false then (if s.busOn then s.reject c ofs else s)
  else match (s.page c).toNat, ofs with
    | 0, 0x60 => s.clkctl c w
    | 0, 0x78 => s.ringWrite c w
    | 0, 0x7A => s.membWrite c w
    | 0, 0x7C => s.startWrite c w
    | 1, 0x60 => s.feedWrite c 0 false w
    | 1, 0x62 => s.feedWrite c 0 true w
    | 1, 0x64 => s.feedWrite c 1 false w
    | 1, 0x66 => s.feedWrite c 1 true w
    | 1, 0x6E => s.keepWrite c 0 w
    | 1, 0x70 => s.keepWrite c 1 w
    | 1, 0x72 => s.keepWrite c 2 w
    | 1, 0x7E => let f := s.freeBool; f.2.shipWrite c w (s.inputUp || f.1)
    | 2, 0x60 => s.modeWrite c 0 w
    | 2, 0x62 => s.modeWrite c 1 w
    | 2, 0x64 => s.modeWrite c 2 w
    | 2, 0x66 => s.linkctl c 0 w
    | 2, 0x68 => s.linkctl c 1 w
    | 2, 0x6A => s.linkctl c 2 w
    | 2, 0x6C => s.linkctl c 3 w
    | 3, 0x60 => s.secctl c w
    | 3, 0x62 => s.codactl c w
    | 3, 0x66 => s.rstWrite c w
    | _, _ => s.roWrite c ofs w

/-- A write of any register (R13, R562 to R564, R585). -/
def State.hostWrite (s : State) (c : CtxId) (ofs : Nat) (w : Word) : State :=
  match wideAt (s.page c) ofs with
  | some (f, i) => s.wideWrite c f i w
  | none => if ofs < 0x60 then s.fixedWrite c ofs w else s.pagedWrite c ofs w

/-- A part of the debugger's access, which the cycle on the bus does not hold, nor it that one (R628): it is done, with its
data and REJ, or it runs on for a transfer. HD is not driven. -/
def State.accStep (s : State) (f : State → State) : State :=
  let t := f { s with held := none, hd := s.sec.accData }
  let bus := if t.alive then s.held else none
  match t.held with
  | some o => { t with hd := s.hd, held := bus, nv := { t.nv with port := s.nv.port.ask .debug 32 }
                       sec := { t.sec with accOp := some o, accDone := false } }
  | none => { t with hd := s.hd, held := bus, sec := { t.sec with accData := t.hd, accDone := true } }

/-- The transfer of the debugger's access is over. -/
def State.accTransfer (s : State) (o : HostOp) (fail : Option Nat) : State :=
  let s := s.setNv (fun n => { n with port := n.port.release .debug })
  (s.setSec (fun q => { q with accOp := none })).accStep (fun s => s.opResume o fail)

/-- BUSERR (R560, R561, R581): the first cycle since it was last 0 is recorded; the event is posted. -/
def State.busError (s : State) (ha : BitVec 7) (hctx : BitVec 3) (strobes : Bool) : State :=
  if s.busOn = false then s
  else
    let s := if s.huberr.buserr then s else { s with huberr := { buserr := true, ha := ha, hctx := hctx, strobes := strobes } }
    s.post 0x800B ha.toNat hctx.toNat

end Sys2Proof.Machine
end

