-- ==== Sys2Proof/Machine/HostExec.lean ====
section
/-! DEFINITION. The commands of the host bus: cycles, registers, windows and event queues (chapters 22, 23).
A command that names one register of a page is taken as a cycle with that page selected. -/

namespace Sys2Proof.Machine

/-- A context's cycle is the one that HWAIT# holds. -/
def opHolds (o : HostOp) (c : CtxId) (write : Bool) : Bool :=
  match o with
  | .read d _ _ => d == c && !write
  | .write d _ _ | .reg d _ _ _ => d == c && write

/-- A cycle that ends while HWAIT# is low is abandoned with its transfer, and sets ABORT (R557, R558). -/
def State.abortCycle (s : State) (c : CtxId) (write : Bool) : State :=
  let s' := s.setCtx c (fun x => { x with abort := true })
  match s.held with
  | none => if s.busOn then s' else s
  | some o => if opHolds o c write then ({ s' with held := none }).setNv (fun n => { n with port := n.port.release .host }) else s

/-- HOST_READ_ABORT (R557). -/
def execHostReadAbort (c : CtxId) (s : State) : Res := .next (s.abortCycle c false)

/-- HOST_WRITE_ABORT (R558). -/
def execHostWriteAbort (c : CtxId) (s : State) : Res := .next (s.abortCycle c true)

/-- BOTH_STROBES_LOW (R560). -/
def execBothStrobesLow (ha : BitVec 7) (hctx : BitVec 3) (s : State) : Res := .next (s.busError ha hctx true)

/-- ILLEGAL_CONTEXT (R561): a read returns 0x0000. -/
def execIllegalContext (ha : BitVec 7) (hctx : BitVec 3) (write : Bool) (s : State) : Res :=
  .next (if 5 ≤ hctx.toNat then
      let s := s.busError ha hctx false
      if write || !s.busOn then s else { s with hd := 0 }
    else s)

/-- UNASSIGNED_OFFSET (R562). -/
def execUnassignedOffset (c : CtxId) (ha : BitVec 7) (write : Bool) (s : State) : Res :=
  let ofs := 2 * ha.toNat
  .next (if (regClass (s.page c) ofs).isSome then s
    else if write then s.hostWrite c ofs 0 else s.plainRead c ofs)

/-- REGISTER_WRITE (R585). -/
def execRegisterWrite (c : CtxId) (ha : BitVec 7) (w : Word) (s : State) : Res := .next (s.hostWrite c (2 * ha.toNat) w)

/-- EVQDATA_READ (R577). -/
def execEvqdataRead (c : CtxId) (s : State) : Res := .next (s.evqRead c)

/-- EVQCTL_CLR (R577). -/
def execEvqctlClr (c : CtxId) (s : State) : Res := .next (s.evqctl c 1)

/-- CTXSTAT_CLEAR (R578, R581). -/
def execCtxstatClear (c : CtxId) (w : Word) (s : State) : Res := .next (s.ctxstat c w)

/-- INTCTL_WRITE (R580). -/
def execIntctlWrite (c : CtxId) (w : Word) (s : State) : Res := .next (s.intctl c w)

/-- WINSEL_WRITE (R568). -/
def execWinselWrite (c : CtxId) (n : Fin 2) (w : Word) (s : State) : Res := .next (s.winsel c n w)

/-- WINPTR_WRITE (R568, R574). -/
def execWinptrWrite (c : CtxId) (n : Fin 2) (r : WinReg) (w : Word) (s : State) : Res := .next (s.winptr c n r w)

/-- WINDATA_READ (R567). -/
def execWindataRead (c : CtxId) (n : Fin 2) (s : State) : Res := .next (s.windataRead c n)

/-- WINDATA_WRITE (R570). -/
def execWindataWrite (c : CtxId) (n : Fin 2) (w : Word) (s : State) : Res := .next (s.windataWrite c n w)

/-- WINCTL_FLUSH (R575): FLUSH with INC as it stands. -/
def execWinctlFlush (c : CtxId) (n : Fin 2) (s : State) : Res :=
  .next (s.winctl c n (BitVec.ofNat 16 (4 + (s.ctxs[c].wins[n]).inc.toNat)))

/-- HOST_BLOCK_TRANSFER (R262, R264, R275, R628): the transfer of the held cycle, or of the debugger's access, or a line of it
that fails twice. HOST holds the port for it, after the burst of an install that it waits for. -/
def execHostBlockTransfer (fail : Option (Fin 32)) (s : State) : Res :=
  if s.held.isNone && s.sec.accOp.isNone then .next s
  else
    let s := s.setNv (fun n => { n with port := n.port.turn })
    .next (match s.held, s.sec.accOp with
      | some o, x =>
        if s.nv.port.holds .host then s.transferDone o (fail.map Fin.val)
        else match x with
          | some a => if s.nv.port.holds .debug then s.accTransfer a (fail.map Fin.val) else s
          | none => s
      | none, some a => if s.nv.port.holds .debug then s.accTransfer a (fail.map Fin.val) else s
      | none, none => s)

/-- WIDE_FIELD_LOW_READ (R566). -/
def execWideFieldLowRead (c : CtxId) (f : WideReg) (s : State) : Res := .next (s.wideRead c f)

/-- WIDE_FIELD_LOW_WRITE (R566). -/
def execWideFieldLowWrite (c : CtxId) (f : WideReg) (w : Word) (s : State) : Res := .next (s.wideWrite c f 0 w)

/-- HPAGE_WRITE (R583). -/
def execHpageWrite (c : CtxId) (w : Word) (s : State) : Res := .next (s.hpageWrite c w)

/-- LAYOUT_WRITE (R28, R590). -/
def execLayoutWrite (c : CtxId) (i : Fin 3) (w : Word) (s : State) : Res := .next (s.layoutWrite c i w)

/-- CABBUD_WRITE (R254). -/
def execCabbudWrite (c : CtxId) (w : Word) (s : State) : Res := .next (s.cabbudWrite c w)

/-- RESERVE_WRITE (R254). -/
def execReserveWrite (c : CtxId) (w : Word) (s : State) : Res := .next (s.reserveWrite c w)

/-- TMRSYNC (R281). -/
def execTmrsync (c : CtxId) (w : Word) (s : State) : Res := .next (s.tmrsyncWrite c w)

/-- CTOFS_WRITE (R60, R551). -/
def execCtofsWrite (c : CtxId) (w : BitVec 48) (s : State) : Res := .next (s.ctofsPut c w)

/-- MEMBCTL_ENUM (R157). -/
def execMembctlEnum (c : CtxId) (s : State) : Res := .next (s.sysWrite c 0x7A true State.enumAsk)

end Sys2Proof.Machine
end

