-- ==== Sys2Proof/Machine/OrderExec.lean ====
section
/-! DEFINITION. The commands on words of the banks: bay settings, orders, pass-throughs, captures and the
voice image (chapters 11, 12, 24). Each is taken as an access through window 0 that moves no window; a
rejection names WIN0DATA. -/

namespace Sys2Proof.Machine

/-- A write of a bank word through window 0. -/
def State.word0 (s : State) (c : CtxId) (sel : BitVec 4) (idx ofs : Nat) (w : Word) : State := s.bankWrite c 0x1A sel idx ofs w

/-- BAY_SETTING_WRITE (R597). -/
def execBaySettingWrite (c : CtxId) (b : Bay) (ofs : Nat) (w : Word) (s : State) : Res :=
  .next (if 0x40 ≤ ofs ∧ ofs < 0x4C then s.word0 c 1 b.val ofs w else s)

/-- ORDLVL with some of its fields changed and the others as the context's word holds them (R598). -/
def State.ordLvl (s : State) (c : CtxId) (b : Bay) (f : BayLvl → BayLvl) : State :=
  s.word0 c 1 b.val 0x50 (f s.c.lvl[ordIx c][b]).word

/-- ORDLVL_STOP (R598). -/
def execOrdlvlStop (c : CtxId) (b : Bay) (s : State) : Res := .next (s.ordLvl c b (fun x => { x with modeo := 1 }))
/-- ORDLVL_GO (R598). -/
def execOrdlvlGo (c : CtxId) (b : Bay) (s : State) : Res := .next (s.ordLvl c b (fun x => { x with modeo := 2 }))
/-- ORDLVL_LOCK (R598). -/
def execOrdlvlLock (c : CtxId) (b : Bay) (s : State) : Res := .next (s.ordLvl c b (fun x => { x with locko := 1 }))
/-- ORDLVL_UNLOCK (R598). -/
def execOrdlvlUnlock (c : CtxId) (b : Bay) (s : State) : Res := .next (s.ordLvl c b (fun x => { x with locko := 2 }))
/-- ORDLVL_LAMPA (R598). -/
def execOrdlvlLampa (c : CtxId) (b : Bay) (en : Bool) (val : BitVec 2) (s : State) : Res :=
  .next (s.ordLvl c b (fun x => { x with aen := en, aval := val }))
/-- ORDLVL_LAMPB (R598). -/
def execOrdlvlLampb (c : CtxId) (b : Bay) (en : Bool) (val : BitVec 2) (s : State) : Res :=
  .next (s.ordLvl c b (fun x => { x with ben := en, bval := val }))
/-- ORDLVL_EMREL (R272, R598): reserved in a tenant context. -/
def execOrdlvlEmrel (c : CtxId) (b : Bay) (on : Bool) (s : State) : Res :=
  .next (s.ordLvl c b (fun x => { x with emrel := on }))

/-- ORDEDGE_UNLKP (R599). -/
def execOrdedgeUnlkp (c : CtxId) (b : Bay) (len : BitVec 8) (s : State) : Res :=
  .next (s.word0 c 1 b.val 0x51 (BitVec.ofNat 16 (1 + 2 * len.toNat)))
/-- ORDEDGE_CLRFLT (R599). -/
def execOrdedgeClrflt (c : CtxId) (b : Bay) (s : State) : Res := .next (s.word0 c 1 b.val 0x51 0x0200)
/-- ORDEDGE_END (R220). -/
def execOrdedgeEnd (c : CtxId) (b : Bay) (s : State) : Res := .next (s.word0 c 1 b.val 0x51 0x0400)
/-- ORDEDGE_CONT (R220). -/
def execOrdedgeCont (c : CtxId) (b : Bay) (s : State) : Res := .next (s.word0 c 1 b.val 0x51 0x0800)
/-- ORDEDGE_RESTART (R220). -/
def execOrdedgeRestart (c : CtxId) (b : Bay) (s : State) : Res := .next (s.word0 c 1 b.val 0x51 0x1000)

/-- TIOORD_WRITE (R601). -/
def execTioordWrite (c : CtxId) (t : TileNo) (w : Word) (s : State) : Res := .next (s.word0 c 2 t.val 0x20 w)

/-- A pass-through is queued (R109, R600): its data, then PTCTL. -/
def State.ptQueue (s : State) (c : CtxId) (b : Bay) (proto blen : Nat) (cmd : BitVec 8) (f : PtBox → PtBox) : State :=
  let idle := (s.ctxBay[ordIx c][b].pt.queued).isNone
  s.ctxWrite c 0x1A (s.ownsBay c b && s.bayPresent b && idle) (fun s =>
    s.setCtxBay c b (fun x => { x with pt := (f x.pt).queue (BitVec.ofNat 16 (proto + 8 * blen + 256 * cmd.toNat)) }))

/-- PT_READ_BYTE (R600). -/
def execPtReadByte (c : CtxId) (b : Bay) (cmd : BitVec 8) (s : State) : Res := .next (s.ptQueue c b 0 0 cmd (fun x => x))
/-- PT_WRITE_BYTE (R600). -/
def execPtWriteByte (c : CtxId) (b : Bay) (cmd data : BitVec 8) (s : State) : Res :=
  .next (s.ptQueue c b 1 0 cmd (fun x => { x with ptdata := data.setWidth 16 }))
/-- PT_READ_WORD (R600). -/
def execPtReadWord (c : CtxId) (b : Bay) (cmd : BitVec 8) (s : State) : Res := .next (s.ptQueue c b 2 0 cmd (fun x => x))
/-- PT_WRITE_WORD (R600). -/
def execPtWriteWord (c : CtxId) (b : Bay) (cmd : BitVec 8) (data : Word) (s : State) : Res :=
  .next (s.ptQueue c b 3 0 cmd (fun x => { x with ptdata := data }))
/-- PT_BLOCK_READ (R600). -/
def execPtBlockRead (c : CtxId) (b : Bay) (cmd : BitVec 8) (s : State) : Res := .next (s.ptQueue c b 4 0 cmd (fun x => x))
/-- PT_BLOCK_WRITE (R600): BLEN is the number of bytes less one. -/
def execPtBlockWrite (c : CtxId) (b : Bay) (cmd : BitVec 8) (data : List Byte) (s : State) : Res :=
  .next (s.ptQueue c b 5 ((data.length - 1) % 32) cmd (fun x => { x with buf := padTo 0 32 (data ++ x.buf.drop data.length) }))

/-- CAPQ_READ (R284, R564, R607). -/
def execCapqRead (c : CtxId) (n : TimerId) (s : State) : Res :=
  .next (match s.readAs c 0x1A with
    | .silent => s
    | .zero => { s with hd := 0 }
    | .refused => s.rejectRead c 0x1A
    | .ok =>
      if s.bankMay c 6 n.val 7 then { s.bankReadFx c 6 n.val 7 with hd := s.bankWord c 6 n.val 7 }
      else s.rejectRead c 0x1A)

/-- VOICE_IMAGE_WRITE (R606, R625). -/
def execVoiceImageWrite (c : CtxId) (v : VoiceId) (ofs : Nat) (w : Word) (s : State) : Res := .next (s.word0 c 5 v.val ofs w)

end Sys2Proof.Machine
end

