-- ==== Sys2Proof/Machine/TileExec.lean ====
section
/-! DEFINITION. The meanings of what happens at a tile: its beats and clock, its channels, its I/O and
its supplies (chapters 02, 03, 04). An event that the tile's state does not allow changes nothing. -/

namespace Sys2Proof

/-- What a measure beat does at a tile, received or taken by flywheel (R18, R151, R175, R289). -/
def Tile.measureBeat (t : Tile) (o : TickObs) (fw : Bool) (ticks : Nat) (seq : Option (BitVec 8)) : Tile :=
  let t := (((t.observe o).latchAll fw).tickAll ticks).lateRetries
  { t with mcount := t.mcount + 1, tick := 0, beatfw := fw, cmdok := false, rxCmd := seq
           dly := if t.safe then t.dlyGoal else slew t.dlyGoal t.dly }

/-- The command timeout of R92: three received measure beats in a row without a valid CMD frame since the
one before. -/
def Tile.timeout (t : Tile) : Tile :=
  let n := if t.cmdHeard then 0 else satAdd 3 t.noCmd 1
  let t := { t with noCmd := n, cmdHeard := false }
  if n = 3 then t.enterSafe else t

/-- A received measure beat: the timeout, the period (R154, R175), the number held (Table RM-1). -/
def Tile.hearBeat (t : Tile) (o : TickObs) (ticks : Nat) (seq : Option (BitVec 8)) : Tile :=
  let t := t.timeout
  let per := if t.goodBeats = 0 then t.period else t.tick + 1
  { (t.measureBeat o false ticks seq) with
      period := per, goodBeats := satAdd 2 t.goodBeats 1, numBeat := t.number.isSome, held := t.number.isSome && t.numBeat }

/-- A beat of a tick inside the measure (R175, R288). -/
def Tile.tickBeat (t : Tile) (o : TickObs) (ticks : Nat) : Tile :=
  let t := ((t.observe o).tickAll ticks).lateRetries
  { t with tick := t.tick + 1 }

/-- A stop by the supplies: every buck stops, no attempt counts (Table BT-4). -/
def Tile.stopBucks (t : Tile) : Tile := { t with chans := t.chans.map Chan.stop }

/-- A pulse may start at this tile's position (R67, R88, R92). -/
def Tile.pulseOk (t : Tile) (p : Pos) : Bool := t.buckOk && t.chans[p].mayStart

/-- The channel's scheduled rest is due (R129, R199): its applied MODE is PULSE and no shed holds it OFF. -/
def Chan.restDue (c : Chan) : Bool := c.restIn == some 0 && c.order.mode == 1 && c.shedS.isNone

/-- The measurement window of a rest has closed, `us` microseconds after the last beat (R200). -/
def Chan.windowOver (c : Chan) (us : Nat) : Bool :=
  c.winDue && (match c.winOpen with | some o => decide (o + 4000 ≤ (us : Int)) | none => true)

end Sys2Proof

namespace Sys2Proof.Machine

/-- A tile changes when a condition on it holds. -/
def State.tileIf (s : State) (h : Shelf) (ok : Bool) (f : Tile → Tile) : State :=
  if ok then s.setTile h f else s

/-- A channel of a running tile changes when a condition on it holds. -/
def State.chanIf (s : State) (h : Shelf) (p : Pos) (ok : Chan → Bool) (f : Chan → Chan) : State :=
  s.tileIf h (!s.tiles[h].inReset && ok s.tiles[h].chans[p]) (fun t => t.setChan p f)

/-- A bay master of a running tile changes. -/
def State.masterIf (s : State) (h : Shelf) (p : Pos) (ok : BayMaster → Bool) (f : BayMaster → BayMaster) : State :=
  s.chanIf h p (fun c => ok c.smb) (fun c => { c with smb := f c.smb })

/-- A tile's clock locks: its through latency is set afresh, 28 to 30 RING periods (R46, R123). -/
def State.lockTile (s : State) (h : Shelf) : State :=
  let r := s.freeNat
  r.2.setTile h (fun t => { t with clk := .locked, lat := 1792 + r.1 % 129 })

/-- SEQ of the CMD frame that the hub has sent in this measure. -/
def State.cmdSeq (s : State) : Option (BitVec 8) := s.ring.cmd.map (·.seq)

/-- TILE_MEASURE_BEAT (R18, R92, R175). -/
def execTileMeasureBeat (h : Shelf) (o : TickObs) (s : State) : Res :=
  .next (s.tileIf h (!s.tiles[h].inReset && s.tiles[h].clk == .locked) (fun t => t.hearBeat o s.clk.ticks s.cmdSeq))

/-- TILE_TICK_BEAT (R175, R288). -/
def execTileTickBeat (h : Shelf) (o : TickObs) (s : State) : Res :=
  .next (s.tileIf h (!s.tiles[h].inReset && s.tiles[h].clk != .unlocked) (fun t => t.tickBeat o s.clk.ticks))

/-- TILE_APPLY_CMD (R25, R94, R171): at the beat of tick 1. -/
def execTileApplyCmd (h : Shelf) (s : State) : Res :=
  .next (s.tileIf h (!s.tiles[h].inReset && s.tiles[h].tick == 1) (fun t => t.applyCmd s.clk.ticks))

/-- FLYWHEEL_BEAT (R151): not a measure beat for R92. -/
def execFlywheelBeat (h : Shelf) (o : TickObs) (s : State) : Res :=
  .next (s.tileIf h (!s.tiles[h].inReset && s.tiles[h].clk != .unlocked)
    (fun t => { (t.measureBeat o true s.clk.ticks s.cmdSeq) with goodBeats := 0 }))

/-- BYPASS_OPEN (R154). -/
def execBypassOpen (h : Shelf) (s : State) : Res :=
  .next (s.tileIf h (!s.tiles[h].inReset && s.tiles[h].bypass && s.tiles[h].clk == .locked &&
      decide (2 ≤ s.tiles[h].goodBeats)) (fun t => { t with bypass := false }))

/-- TILE_BEAT_TIMEOUT (R92). -/
def execTileBeatTimeout (h : Shelf) (s : State) : Res :=
  .next (s.tileIf h (!s.tiles[h].inReset) Tile.enterSafe)

/-- TILE_RESET (R89, R90). -/
def execTileReset (h : Shelf) (s : State) : Res := .next (s.setTile h Tile.toReset)

/-- TILE_RESET_RELEASE (R82, R92), with TILEPWR_EN high (R442, R447): LKSAFE is sampled; the tile is unnumbered, in tile SAFE, locked. -/
def execTileResetRelease (h : Shelf) (s : State) : Res :=
  .next (s.tileIf h (s.tiles[h].inReset && s.mode.tilepwr)
    (fun t => { t with inReset := false, lksafe := t.lksafePin, safe := true, number := none
                       chans := t.chans.map (fun c => { c with lockDrv := if t.lksafePin then .full else .off }) }))

/-- TILE_SHED (R91, R135, R141). -/
def execTileShed (h : Shelf) (set : ShedSet) (s : State) : Res :=
  .next (s.tileIf h (!s.tiles[h].inReset) (fun t => t.shed set))

/-- TILE_CLOCK_LOCK (R46). -/
def execTileClockLock (h : Shelf) (s : State) : Res :=
  .next (if !s.tiles[h].inReset && s.tiles[h].clk == .unlocked then s.lockTile h else s)

/-- CLOCK_HOLDOVER_ENTRY (R47, R201): setpoints and levels are kept; a rest in progress yields no measurement. -/
def execClockHoldoverEntry (h : Shelf) (s : State) : Res :=
  .next (s.tileIf h (!s.tiles[h].inReset && s.tiles[h].clk == .locked)
    (fun t => { t with clk := .holdover, phaseOk := false, goodBeats := 0
                       chans := t.chans.map (fun c => { c with winDue := false, winOpen := none }) }))

/-- CLOCK_HOLDOVER_TIMEOUT (R48). -/
def execClockHoldoverTimeout (h : Shelf) (s : State) : Res :=
  .next (s.tileIf h (!s.tiles[h].inReset && s.tiles[h].clk == .holdover) Tile.enterSafe)

/-- TILE_CLOCK_RELOCK (R49): canon phase comes back at the next beat. -/
def execTileClockRelock (h : Shelf) (s : State) : Res :=
  .next (if !s.tiles[h].inReset && s.tiles[h].clk == .holdover then s.lockTile h else s)

/-- PULSE_START (R67), with the settings that R95 lets take effect here. -/
def execPulseStart (h : Shelf) (p : Pos) (vin vout : Nat) (s : State) : Res :=
  .next (s.tileIf h (s.tiles[h].pulseOk p) (fun t => t.startPulse p vin vout))

/-- REST_START (R68, R129, R199), with the current in mA that ramps down. -/
def execRestStart (h : Shelf) (p : Pos) (iout : Nat) (s : State) : Res :=
  .next (s.tileIf h (!s.tiles[h].inReset && !s.tiles[h].safe && s.tiles[h].chans[p].restDue)
    (fun t => t.setChan p (fun c => c.startRest t.active.bays[p].restlen.toNat iout)))

/-- REST_WINDOW_CLOSE (R200, R258), with the ADC's samples since the last beat: the rest means wait for the
next latch. -/
def execRestWindowClose (h : Shelf) (p : Pos) (samples : List (BitVec 14)) (s : State) : Res :=
  .next (s.tileIf h (!s.tiles[h].inReset && s.tiles[h].chans[p].windowOver samples.length) (fun t =>
    let r := t.convert samples
    t.setChan p (fun c =>
      let v := c.winV.join r.winV[p]
      let n := c.winN.join r.winN[p]
      { c with winDue := false, winV := v, winN := n
               restMean := if v.cnt = 0 ∨ n.cnt = 0 then none else some (v.mean, n.mean) })))

/-- OUTPUT_OVERVOLTAGE (R69). -/
def execOutputOvervoltage (h : Shelf) (p : Pos) (s : State) : Res :=
  .next (s.chanIf h p (fun c => c.pulsing) (fun c => { c.stop with ovp := true }))

/-- PLT_EXPIRE (R71), with what the output did since the last beat. -/
def execPltExpire (h : Shelf) (p : Pos) (outs : List OutSample) (s : State) : Res :=
  .next (s.chanIf h p (fun c => (c.seeOuts outs).pltDone) Chan.failAttempt)

/-- OUTPUT_FAST_TRIP (R72). -/
def execOutputFastTrip (h : Shelf) (p : Pos) (s : State) : Res :=
  .next (s.chanIf h p (fun c => c.pulsing) Chan.failAttempt)

/-- ATTEMPT_RETRY (R73): 1.00 s ± 1 % after the failure the attempt starts with the sequence of R67; in a
rest it waits for the rest's end. Where VINLOW, VINOV or THERM holds the channel when it falls due outside a rest,
no attempt starts and none stays due (DESIGN CHOICE, log entry 112). -/
def execAttemptRetry (h : Shelf) (p : Pos) (vin vout : Nat) (s : State) : Res :=
  let c := s.tiles[h].chans[p]
  .next (s.tileIf h (!s.tiles[h].inReset && c.retryWait && c.order.mode == 1 && decide (990 ≤ c.retryTicks)) (fun t =>
    let t := t.setChan p (fun c => { c with retryWait := false, retryDue := c.rest.isSome })
    if t.pulseOk p then t.startPulse p vin vout else t))

/-- ATTEMPT_COUNTER_CLEAR (R75): the pulse has run for 100 ms without the limit condition. -/
def execAttemptCounterClear (h : Shelf) (p : Pos) (outs : List OutSample) (s : State) : Res :=
  .next (s.chanIf h p (fun c => c.pulsing && decide (100000 ≤ (c.seeOuts outs).clean)) (fun c => { c with att := 0 }))

/-- JUNCTION_FOLDBACK (R76). -/
def execJunctionFoldback (h : Shelf) (p : Pos) (tj : Nat) (s : State) : Res :=
  .next (s.chanIf h p (fun _ => true) (fun c => ({ c with tj := tj }).refold))

/-- THERMAL_STOP (R77). -/
def execThermalStop (h : Shelf) (p : Pos) (s : State) : Res :=
  .next (s.chanIf h p (fun _ => true) (fun c => { c.stop with therm := true }))

/-- THERMAL_RECOVER (R77). -/
def execThermalRecover (h : Shelf) (p : Pos) (s : State) : Res :=
  .next (s.chanIf h p (fun c => c.therm) (fun c => { c with therm := false }))

/-- DIE_OVERTEMP (R78, Table BT-7). -/
def execDieOvertemp (h : Shelf) (s : State) : Res :=
  .next (s.tileIf h (!s.tiles[h].inReset) (fun t => { t.enterSafe with dieHot := true }))

/-- ADC_REFERENCE_FAIL (R80): the reference check was out in two ticks in a row. -/
def execAdcReferenceFail (h : Shelf) (s : State) : Res :=
  .next (s.tileIf h (!s.tiles[h].inReset && s.tiles[h].refBad == 2) (fun t => { t.enterSafe with adcfail := true }))

/-- DOOR_EDGE_ACCEPT (R81). -/
def execDoorEdgeAccept (h : Shelf) (p : Pos) (level : Bool) (us : Nat) (s : State) : Res :=
  .next (s.tileIf h (!s.tiles[h].inReset && s.tiles[h].chans[p].door != level)
    (fun t => t.setChan p (fun c =>
      { c with door := level, dcnt := satAdd 3 c.dcnt 1, doorDue := true, doorTick := t.tick, doorUs := us })))

/-- LOCK_HOLD_START (R84). -/
def execLockHoldStart (h : Shelf) (p : Pos) (s : State) : Res :=
  .next (s.chanIf h p (fun c => c.lockDrv == .full && decide (200 ≤ c.lockTicks))
    (fun c => { c with lockDrv := .hold (lkholdPct c.use.lkhold) }))

/-- LOCK_OVERCURRENT (R84). -/
def execLockOvercurrent (h : Shelf) (p : Pos) (s : State) : Res :=
  .next (s.chanIf h p (fun c => c.lockDrv != .off) (fun c => { c with lockDrv := .off, lkshort := true }))

/-- LAMP_OVERCURRENT (R85). -/
def execLampOvercurrent (h : Shelf) (p : Pos) (lampB : Bool) (s : State) : Res :=
  .next (s.chanIf h p (fun c => if lampB then c.lampBOn else c.lampAOn)
    (fun c => if lampB then { c with lampBOn := false, lampfltB := true }
              else { c with lampAOn := false, lampfltA := true }))

/-- UNLOCK_PULSE_END (R86). -/
def execUnlockPulseEnd (h : Shelf) (p : Pos) (s : State) : Res :=
  .next (s.tileIf h (!s.tiles[h].inReset && s.tiles[h].chans[p].pulseLeft == some 0)
    (fun t => t.setChan p (fun c => { (c.setLock t.lksafe false) with pulseLeft := none })))

/-- VIN_UNDERVOLTAGE (R88, Table BT-4). -/
def execVinUndervoltage (h : Shelf) (s : State) : Res :=
  .next (s.tileIf h (!s.tiles[h].inReset) (fun t => { t.stopBucks with vinlow := true }))

/-- VIN_RECOVER (R88). -/
def execVinRecover (h : Shelf) (s : State) : Res :=
  .next (s.tileIf h (!s.tiles[h].inReset) (fun t => { t with vinlow := false }))

/-- VIN_OVERVOLTAGE (R88). -/
def execVinOvervoltage (h : Shelf) (s : State) : Res :=
  .next (s.tileIf h (!s.tiles[h].inReset) (fun t => { t.stopBucks with vinov := true }))

/-- VIN_OV_CLEAR (R88). -/
def execVinOvClear (h : Shelf) (s : State) : Res :=
  .next (s.tileIf h (!s.tiles[h].inReset) (fun t => { t with vinov := false }))

/-- REVPOL_SET (R99, Table PK-7): a probe stops with result 0b11. -/
def execRevpolSet (h : Shelf) (p : Pos) (s : State) : Res :=
  .next (s.chanIf h p (fun _ => true)
    (fun c => { c.stop with revpol := true, probing := false, proberes := if c.probing then 3 else c.proberes }))

/-- REVPOL_CLEAR (R99). -/
def execRevpolClear (h : Shelf) (p : Pos) (s : State) : Res :=
  .next (s.chanIf h p (fun c => c.revpol) (fun c => { c with revpol := false }))

/-- PROBE_END (R101): with the rise time in 0.1 ms, or none when VOUT stayed low for 20 ms. -/
def execProbeEnd (h : Shelf) (p : Pos) (rise : Option Nat) (s : State) : Res :=
  .next (s.chanIf h p (fun c => c.probing)
    (fun c => match rise with
      | some r => { c with probing := false, proberes := 1, probeRise := r, probetDue := true }
      | none => { c with probing := false, proberes := 2 }))

/-- TIO_EDGE_ACCEPT (R87): after `n` equal samples in a row; a debounced input takes eight (R81). -/
def execTioEdgeAccept (h : Shelf) (k : Fin 4) (level : Bool) (n : Nat) (s : State) : Res :=
  .next (s.tileIf h (!s.tiles[h].inReset && s.tiles[h].tioLevel[k] != level &&
      decide ((if tioDebounce s.tiles[h].tioUse k then 8 else 1) ≤ n))
    (fun t => { t with tioLevel := t.tioLevel.set k level, tioEdge := t.tioEdge.set k true }))

/-- LKOPEN_CHANGE (R84): the test current flows while the driver is off. -/
def execLkopenChange (h : Shelf) (p : Pos) (isOpen : Bool) (s : State) : Res :=
  .next (s.chanIf h p (fun c => c.lockDrv == .off) (fun c => { c with lkopen := isOpen }))

/-- The settings of a bay in effect at the tile. -/
def State.useOf (s : State) (h : Shelf) (p : Pos) : BayTileCfg := s.tiles[h].chans[p].use

/-- SMB_POLL_ROUND (R107): once per POLLPER while SMBEN = 1 and IDDONE = 1. -/
def execSmbPollRound (h : Shelf) (p : Pos) (s : State) : Res :=
  let g := s.useOf h p
  .next (s.masterIf h p (fun m => g.smben && m.idDone && m.pollNext.isNone && m.pollTicks == 0)
    (fun m => ({ m with pollNext := some 0, pollTicks := pollMs g.pollper }).pump g.loopen))

/-- SMB_TRANSACTION_END (R107 to R112, R265). -/
def execSmbTransactionEnd (h : Shelf) (p : Pos) (r : SmbEnd) (s : State) : Res :=
  .next (s.masterIf h p (fun _ => true) (fun m => m.txEnd (s.useOf h p).pecen (s.useOf h p).loopen r))

/-- SMB_NACK_RETRY (R108): the 1 ms of waiting transaction `i` has passed. -/
def execSmbNackRetry (h : Shelf) (p : Pos) (i : Nat) (s : State) : Res :=
  .next (s.masterIf h p (fun m => m.waitOf i == some .nack) (fun m => (m.waitPassed i).pump (s.useOf h p).loopen))

/-- SMB_ARBITRATION_LOST (R113, R114, Table PK-5): where the pack's message wins, the slave receives it. -/
def execSmbArbitrationLost (h : Shelf) (p : Pos) (msg : PackMsg) (s : State) : Res :=
  .next (s.masterIf h p
    (fun m => match m.cur with | some j => packWins (m.sends j.tx) msg.bytes | none => false)
    (fun m => (m.lost.receive msg).pump (s.useOf h p).loopen))

/-- SMB_ARBITRATION_RETRY (R115): the bus was free for 50 µs. -/
def execSmbArbitrationRetry (h : Shelf) (p : Pos) (i : Nat) (s : State) : Res :=
  .next (s.masterIf h p (fun m => m.waitOf i == some .bus) (fun m => (m.waitPassed i).pump (s.useOf h p).loopen))

/-- SMB_ALARM_RECEIVE (R110). -/
def execSmbAlarmReceive (h : Shelf) (p : Pos) (msg : PackMsg) (s : State) : Res :=
  .next (s.masterIf h p (fun _ => true) (fun m => m.receive msg))

/-- SMB_CLOCK_TIMEOUT (R117): the transaction is aborted, and is not repeated in this round. -/
def execSmbClockTimeout (h : Shelf) (p : Pos) (s : State) : Res :=
  .next (s.masterIf h p (fun m => m.cur.isSome)
    (fun m => match m.cur with
      | none => m
      | some j => (({ m with cur := none, smbto := true }).giveUp j.tx 4).pump (s.useOf h p).loopen))

/-- SMB_DATA_STUCK (R117): nine clocks and a stop. -/
def execSmbDataStuck (h : Shelf) (p : Pos) (s : State) : Res :=
  .next (s.masterIf h p (fun m => m.cur.isNone)
    (fun m => ({ m with smbstuck := true, recoverDue := true }).pump (s.useOf h p).loopen))

end Sys2Proof.Machine
end

