-- ==== Sys2Proof/Machine/RingExec.lean ====
section
/-! DEFINITION. The commands of the ring: frames in passing at a tile, frames that return to the hub,
service and echo frames, join polls, enumeration (chapters 05, 06). -/

namespace Sys2Proof.Machine

/-- The CMD frame of the measure as it passes shelf `h` (R120, R124). -/
def State.cmdAt (s : State) (h : Shelf) : Option CmdFrame := s.ring.cmd.bind (fun f => f.arrived s.ring.cmdHits h.val)

/-- CMD_FRAME_RECEIVE (R124, R130): the frame has passed the tile; one that does not arrive valid is not
received. -/
def execCmdFrameReceive (h : Shelf) (s : State) : Res :=
  if s.ring.cmd.isNone then .next s
  else .next (s.tileIf h (!s.tiles[h].inReset && s.tiles[h].clk != .unlocked) (fun t =>
    let t := { t with rxCmd := none }
    match s.cmdAt h with
    | some f => t.receiveCmd f
    | none => t))

/-- TYPE of the TEL frame reaches shelf `h` (R136, Table RG-2). -/
def State.telAt (s : State) (h : Shelf) (seq : BitVec 8) : Bool :=
  (asArrived s.ring.telHead h.val [0x02, seq]).head? == some (some 0x02)

/-- Slot `k` of the TEL frame as it passes shelf `h`. -/
def State.slotAt (s : State) (h : Shelf) (k : TileNo) : Passing := slotPassing s.ring.tel[k] s.ring.telHits[k] h.val

/-- TEL_SLOT_WRITE (R137, R155, R174). A slot whose SLOTST arrives as ERR counts as FILLED for R155. In a measure whose
CMD frame is missing (R196) no TEL header follows it, and no tile answers (DESIGN CHOICE, log entry 90). -/
def execTelSlotWrite (h : Shelf) (s : State) : Res :=
  match s.ring.cmd with
  | none => .next s
  | some f =>
    if s.tiles[h].inReset || s.tiles[h].clk == .unlocked || !s.telAt h f.seq then .next s else
      let top := ((List.finRange 24).filter (fun k => decide (k.val < f.ntiles) && s.slotAt h k != .empty)).getLast?
      let s := s.setTile h (fun t => { t with telSeen := true, telTop := top.map (·.val) })
      match s.tiles[h].number with
      | none => .next s
      | some k =>
        if s.tiles[h].bypass || decide (f.ntiles ≤ k.val) then .next s
        else match s.slotAt h k with
          | .err => .next s
          | .filled => .next (s.setTile h Tile.unnumber)
          | .empty => .next (s.setRing (fun r => { r with
              tel := r.tel.set k (some s.tiles[h].fillSlot), telHits := upd r.telHits k (fun l => overwrite l h.val 0) }))

/-- ECHO_FRAME_WRITE (R146). -/
def execEchoFrameWrite (h : Shelf) (s : State) : Res :=
  match s.ring.echo, s.tiles[h].number with
  | some e, some k =>
    let known := (asArrived s.ring.echoHead h.val [0x04, s.ring.echoSeq]).head? == some (some 0x04)
    if s.tiles[h].onRing && decide (k.val < s.ntiles) && known then
      .next (s.setRing (fun r => { r with
        echo := some (e.set k (some s.tiles[h].lat)), echoHits := upd r.echoHits k (fun l => overwrite l h.val 0) }))
    else .next s
  | _, _ => .next s

/-- The join poll for `k` (R155). -/
def State.pollFrame (s : State) (k : TileNo) : SvcFrame :=
  { sseq := s.ring.sseq, tile := k, write := true, addr := 0, len := 1, data := [BitVec.ofNat 8 k.val], status := s.ring.pollStat }

/-- A tile writes STATUS of the join poll in passing: byte 12. -/
def State.pollAnswer (s : State) (h : Shelf) (st : BitVec 8) : State :=
  s.setRing (fun r => { r with pollStat := st, pollHits := overwrite r.pollHits h.val 12 })

/-- A join poll for `k` passes a tile with STATUS `st` (R155, R156). -/
def State.pollAt (s : State) (h : Shelf) (k : TileNo) (st : BitVec 8) : State :=
  let t := s.tiles[h]
  match t.number with
  | none =>
    if st ≠ 0 then s
    else if (match t.telTop with | some n => decide (n < k.val) | none => true) then
      (s.setTile h (fun t => { t with number := some k, numBeat := false, held := false })).pollAnswer h 0x01
    else s.pollAnswer h 0x04
  | some j =>
    if j = k then (if st = 0 then s.pollAnswer h 0x01 else s)
    else if j < k ∧ st = 0x01 then s.pollAnswer h 0x04
    else s

/-- The tile at shelf `h` answers the service frame: it overwrites the bytes from `from_` on. The data of a write
stays the hub's own. -/
def State.answer (s : State) (h : Shelf) (x : SvcRun) (status : BitVec 8) (d : List Byte) (from_ : Nat) : State :=
  s.setRing (fun r => { r with
    svc := some { x with frame := { x.frame with status := status, data := if x.frame.write then x.frame.data else d }, hits := overwrite x.hits h.val from_ } })

/-- A service frame of one direction that the tile at `h` has to answer, as it arrives there (R124, R144): the
frame, and whether the CRCs of its header and of its data check. -/
def State.svcAt (s : State) (h : Shelf) (write : Bool) : Option (SvcRun × SvcFrame × Bool × Bool) :=
  if s.tiles[h].onRing && s.ring.svcLive then
    match s.ring.svc with
    | none => none
    | some x =>
      match x.frame.arrived x.hits h.val with
      | some (f, hc, dc) =>
        if f.write == write && s.tiles[h].number == some f.tile && f.status == 0 then some (x, f, hc, dc) else none
      | none => none
  else none

/-- SVC_WRITE (R144, R145, R155, R156, Table WR-6). -/
def execSvcWrite (h : Shelf) (s : State) : Res :=
  match s.ring.poll with
  | some k =>
    if s.tiles[h].onRing then
      match (s.pollFrame k).arrived s.ring.pollHits h.val with
      | some (f, true, true) => .next (s.pollAt h f.tile f.status)
      | _ => .next s
    else .next s
  | none =>
    match s.svcAt h true with
    | none => .next s
    | some (x, f, hc, dc) =>
      let last := 11 + f.len
      if (hc && dc) = false then .next (s.answer h x 0x03 f.data last)
      else if f.addr ≠ 0 ∧ s.tiles[h].lastSseq = some f.sseq then .next (s.answer h x 0x01 f.data last)
      else match s.tiles[h].svcWrite f.addr.toNat f.data with
        | some t => .next ((s.setTile h (fun _ => { t with lastSseq := some f.sseq })).answer h x 0x01 f.data last)
        | none => .next (s.answer h x 0x02 f.data last)

/-- SVC_READ (R144, Table WR-6): the tile writes the data, the data CRC and STATUS, from byte 9 on. -/
def execSvcRead (h : Shelf) (s : State) : Res :=
  match s.svcAt h false with
  | none => .next s
  | some (x, f, hc, _) =>
    if hc = false then .next (s.answer h x 0x03 [] 9)
    else match s.tiles[h].svcRead f.addr.toNat f.len with
      | some d => .next (s.answer h x 0x01 d 9)
      | none => .next (s.answer h x 0x02 [] 9)

/-- SYMBOL_ERROR (R120): on the segment into shelf `seg`, or on the return segment (32), byte `pos` of an item
arrives as an ERR or another control symbol, or as another byte. -/
def execSymbolError (seg : Fin 33) (what : RingItem) (pos : Nat) (got : Option Byte) (s : State) : Res :=
  let x : Hit := { seg := seg.val, pos := pos, got := got }
  .next (s.setRing (fun r =>
    match what with
    | .cmd => { r with cmdHits := r.cmdHits ++ [x] }
    | .telHead => { r with telHead := r.telHead ++ [x] }
    | .tel k => { r with telHits := upd r.telHits k (· ++ [x]) }
    | .svc => if r.poll.isSome then { r with pollHits := r.pollHits ++ [x] }
              else { r with svc := r.svc.map (fun y => { y with hits := y.hits ++ [x] }) }
    | .echoHead => { r with echoHead := r.echoHead ++ [x] }
    | .echo k => { r with echoHits := upd r.echoHits k (· ++ [x]) }))

/-- CMD_FRAME_RETURN (R131): valid or not, as it arrives over the return segment. -/
def execCmdFrameReturn (s : State) : Res :=
  match s.ring.cmd with
  | none => .next s
  | some f =>
    .next (if s.ring.rptSent then s
           else if (f.arrived s.ring.cmdHits 32).isSome then s.setRing (fun r => { r with cmdBack := true })
           else s.flagRepeat)

/-- CMD_RETURN_TIMEOUT (R131). -/
def execCmdReturnTimeout (s : State) : Res := .next (if s.ring.cmdBack then s else s.flagRepeat)

/-- REPEAT_COPY_SEND (R131): the same SEQ, with RPT, before the beat of tick 1. -/
def execRepeatCopySend (s : State) : Res :=
  match s.ring.cmd with
  | some f =>
    if s.ring.rptDue && !s.ring.rptSent && s.clk.tick == 0 then
      .next ({ s with tiles := s.tiles.map (fun (t : Tile) => t.hearCopy f.seq) }.setRing (fun r =>
        { r with cmd := some { f with rpt := true }, cmdHits := [], rptDue := false, rptSent := true }))
    else .next s
  | none => .next s

/-- The oldest outstanding set has failed: it is sent once more, then SHEDFAIL (R142). In Tacet nothing follows (R455). A resent set does not
count towards the two of R143 (DESIGN CHOICE, log entry 86). -/
def State.shedBad (s : State) : State :=
  match s.ring.sheds with
  | [] => s
  | x :: rest =>
    if !s.ring.running then s.setRing (fun r => { r with sheds := rest })
    else if x.again then (s.setRing (fun r => { r with sheds := rest })).post 0x3003 x.set.d1.toNat x.set.d2.toNat
    else s.setRing (fun r => { r with sheds := rest ++ [{ x with again := true }] })

/-- SHED_SET_RETURN (R142). -/
def execShedSetReturn (got : ShedSet) (s : State) : Res :=
  match s.ring.sheds with
  | [] => .next s
  | x :: rest => .next (if got = x.set then s.setRing (fun r => { r with sheds := rest }) else s.shedBad)

/-- SHED_RETURN_TIMEOUT (R142). -/
def execShedReturnTimeout (s : State) : Res := .next s.shedBad

/-- SVC_SEND (R145, R148): a frame that must be sent again, or the next job. -/
def execSvcSend (s : State) : Res :=
  if !s.caesura || s.ring.svcLive || s.ring.poll.isSome then .next s
  else match s.ring.svc with
    | some x =>
      if x.back && !x.wait then
        let f := { x.frame with status := 0, data := if x.frame.write then x.frame.data else [] }
        .next (s.setRing (fun r => { r with svc := some { x with frame := f, back := false, hits := [] }, svcLive := true }))
      else .next s
    | none =>
      match s.nextJob with
      | none => .next s
      | some j =>
        let f := { s.jobFrame j with sseq := s.ring.sseq + 1 }
        .next (s.setRing (fun r => { r with svc := some { job := j, frame := f }, svcLive := true, sseq := r.sseq + 1 }))

/-- SVC_FRAME_RETURN (R124, R144, R145, R159): a frame that does not arrive valid gives no STATUS. -/
def execSvcFrameReturn (s : State) : Res :=
  match s.ring.poll with
  | some k =>
    .next (s.pollBack k (match (s.pollFrame k).arrived s.ring.pollHits 32 with
      | some (f, true, true) => some f.status
      | _ => none))
  | none =>
    match s.ring.svc with
    | some x =>
      if s.ring.svcLive = false then .next s
      else match x.frame.arrived x.hits 32 with
        | some (f, hc, dc) =>
          .next (s.svcBack { x with frame := { x.frame with data := if x.frame.write then x.frame.data else f.data } } f.status (hc && dc))
        | none => .next (s.svcBack x 0 false)
    | none => .next s

/-- SVC_RETURN_TIMEOUT (R145, R159). -/
def execSvcReturnTimeout (s : State) : Res :=
  match s.ring.poll with
  | some k => .next (s.pollBack k none)
  | none =>
    match s.ring.svc with
    | some x => .next (if s.ring.svcLive then s.svcBack x 0 false else s)
    | none => .next s

/-- A join poll for `k` goes out (R155). -/
def State.sendPoll (s : State) (k : TileNo) : State :=
  s.setRing (fun r => { r with poll := some k, pollStat := 0, pollHits := [] })

/-- JOIN_POLL_SEND (R157, R158, R465). -/
def execJoinPollSend (s : State) : Res :=
  if !s.caesura || s.ring.svcLive || s.ring.poll.isSome then .next s
  else match s.ring.enum_ with
    | some n =>
      if h : n < 24 then
        .next (if s.hub.any (fun x => x.qual == .unnumber) then s else s.sendPoll ⟨n, h⟩)
      else .next s
    | none =>
      match s.ring.mustPoll with
      | k :: rest => .next (if s.inTutti then s else (s.setRing (fun r => { r with mustPoll := rest })).sendPoll k)
      | [] =>
        if s.inTutti && s.act.ring.joinen && !s.ring.polled then
          match s.pollChoice with
          | some k => .next ((s.setRing (fun r => { r with polled := true, lastCand := some k })).sendPoll k)
          | none => .next s
        else .next s

/-- FULL_ENUMERATION (R157, Table RM-6): asked for by MEMBCTL.ENUM or by a Muster without a valid map. -/
def execFullEnumeration (s : State) : Res :=
  if s.running && s.ring.enumDue then
    let s := (List.finRange 24).foldl (fun s t => if s.hub[t].present then s.dropTile t 4 else s) s
    let s := s.setC (fun c => { c with map := Vector.replicate 24 none, mapValid := false })
    let s := { s with hub := s.hub.map TileHub.forEnum }
    .next (s.setRing (fun r =>
      { r with enumDue := false, enum_ := some 0, poll := none, svc := none, svcLive := false, mustPoll := [] }))
  else .next s

/-- ECHO_SEND (R148, R160, R464). -/
def execEchoSend (s : State) : Res :=
  let due := s.c.mcount.toNat % echoEvery s.act.ring.echoper == 0 || s.ring.echoDue ||
    s.hub.any (fun h => h.qual == .echo && !h.stepped)
  .next (if s.caesura && due && s.ring.echo.isNone then
      s.setRing (fun r => { r with
        echo := some (Vector.replicate 24 none), echoHead := [], echoHits := Vector.replicate 24 [], echoSeq := r.echoSeq + 1, echoDue := false })
    else s)

/-- What the entries of the ECHO frame report at the hub (R146). -/
def State.echoEntries (s : State) (e : Vector (Option Nat) 24) : Vector (Option Nat) 24 :=
  Vector.ofFn fun k => echoSeen k e[k] s.ring.echoHits[k]

/-- ECHO_RETURN (R124, R146, R147, R289, R301): with the round trip in 1/64 RING period. A frame whose header
was hit is not received. -/
def execEchoReturn (roundTrip : Nat) (s : State) : Res :=
  match s.ring.echo with
  | none => .next s
  | some e =>
    .next (if s.ring.echoHead.isEmpty then (s.setRing (fun r => { r with echo := none })).echoBack (s.echoEntries e) roundTrip
           else s.echoLost)

/-- REJOIN_TIMER_END (R164, R168): REJOIN ticks after the drop the bays' charge state is discarded. -/
def execRejoinTimerEnd (t : TileNo) (s : State) : Res :=
  .next (if s.hub[t].rejoin && decide (s.hub[t].dropTick + s.act.ring.rejoinT ≤ s.clk.ticks) then
      ((baysOf t).foldl State.emptyBay s).setHub t (fun h => { h with rejoin := false })
    else s)

end Sys2Proof.Machine
end

