-- ==== Sys2Proof/Machine/SecExec.lean ====
section
/-! DEFINITION. The commands of the security unit, the debugger and the test access port (chapter 25). -/

namespace Sys2Proof.Machine

/-- SECCTL_FIELD (R613). -/
def execSecctlField (c : CtxId) (s : State) : Res := .next (s.secctl c 0xF1E1)
/-- SECCTL_SEALED (R613). -/
def execSecctlSealed (c : CtxId) (s : State) : Res := .next (s.secctl c 0x5EA1)
/-- LEVEL_CHANGE_APPLY (R614): at the measure beat after the line is written. -/
def execLevelChangeApply (s : State) : Res := .next (if s.running && s.sec.levelDue then s.levelApply else s)

/-- ACODE_OPEN (R616): a code written by a closed context. -/
def execAcodeOpen (c : CtxId) (code : BitVec 64) (s : State) : Res := .next (s.acode c code)
/-- ACODE_CLOSE (R617): zero written. -/
def execAcodeClose (c : CtxId) (s : State) : Res := .next (s.acode c 0)
/-- ACODE_PENDING (R617). -/
def execAcodePending (c : CtxId) (code : BitVec 64) (s : State) : Res := .next (s.acode c code)
/-- ACODE_COMMIT (R617): the complement of the pending code `code` written. -/
def execAcodeCommit (c : CtxId) (code : BitVec 64) (s : State) : Res := .next (s.acode c (~~~code))
/-- PENDING_CODE_LAPSE (R617): 1.000 s after the code became pending. -/
def execPendingCodeLapse (c : CtxId) (s : State) : Res :=
  .next (if s.reached s.sec.sess[ordIx c].pendTo then s.setSess c (fun x => { x with pending := none, pendTo := none }) else s)
/-- REFUSAL_PERIOD_END (R618). -/
def execRefusalPeriodEnd (c : CtxId) (s : State) : Res :=
  .next (if s.reached s.sec.sess[ordIx c].refuseTo then s.setSess c (fun x => { x with refusing := false, refuseTo := none }) else s)

/-- DBGREQ (R620). -/
def execDbgreq (req : BitVec 2) (s : State) : Res := .next (s.tap .dbgreq true (fun s => s.debugRequest req))
/-- DBGCHAL (R621, R622). -/
def execDbgchal (s : State) : Res := .next (s.tap .dbgchal true State.challenge)
/-- DBGRESP (R621, R622). -/
def execDbgresp (resp : BitVec 64) (s : State) : Res := .next (s.tap .dbgresp true (fun s => s.respond resp))
/-- NONCE_EXPIRE (R621): 10 s after the nonce was returned. -/
def execNonceExpire (s : State) : Res :=
  .next (if s.reached s.sec.nonceTo then s.setSec (fun q => { q with nonce := none, nonceTo := none }) else s)
/-- DBGCHAL_LOCKOUT_END (R622): 1 s after a failure. -/
def execDbgchalLockoutEnd (s : State) : Res :=
  .next (if s.reached s.sec.lockTo then s.setSec (fun q => { q with lockout := false, lockTo := none }) else s)
/-- DBGEND (R623). -/
def execDbgend (s : State) : Res := .next (s.tap .dbgend true State.endSession)
/-- TEST_LOGIC_RESET (R623, R630): IDCODE is selected. -/
def execTestLogicReset (s : State) : Res := .next (s.tap .idcode true State.endSession)

/-- An access through DBGACC (R628): its scan captures what the access before it left, then makes this one. While that
one is BUSY, the scan makes none (DESIGN CHOICE, log entry 130). -/
def State.accRun (s : State) (f : State → State) : State :=
  let t := s.setSec (fun q => { q with dr := q.accWord })
  if s.sec.accOp.isSome then t else (t.setSec (fun q => { q with accRej := false })).accStep f

/-- DBGACC_READ (R624, R628). -/
def execDbgaccRead (ha : BitVec 7) (s : State) : Res :=
  .next (s.tap .dbgacc (s.dbgEffect != .none) (fun s => s.accRun (fun s => s.hostRead ctxDbg (2 * ha.toNat))))
/-- DBGACC_WRITE (R624, R625, R628): rejected in OBSERVE. -/
def execDbgaccWrite (ha : BitVec 7) (w : Word) (s : State) : Res :=
  .next (s.tap .dbgacc (s.dbgEffect != .none) (fun s => s.accRun (fun s => s.hostWrite ctxDbg (2 * ha.toNat) w)))

/-- DBGCTL_HALT (R327, R629). -/
def execDbgctlHalt (s : State) : Res :=
  .next (s.debugControl (fun s => if s.eng.halted then s else s.setEng (fun e => { e with haltReq := true })))
/-- DBGCTL_STEP (R327, R629). -/
def execDbgctlStep (s : State) : Res :=
  .next (s.debugControl (fun s => if s.eng.halted then s.setEng (fun e => { e with stepReq := true }) else s))
/-- DBGCTL_RESUME (R327, R629). -/
def execDbgctlResume (s : State) : Res := .next (s.debugControl State.endHalt)
/-- DBGCTL_BREAKPOINT_WRITE (R625, R629): a voice of 5 to 7 makes the update void. -/
def execDbgctlBreakpointWrite (num : Fin 8) (en : Bool) (voice : BitVec 3) (idx : BitVec 20) (s : State) : Res :=
  .next (s.debugControl (fun s =>
    if 5 ≤ voice.toNat then s
    else s.setSec (fun q => { q with brks := upd q.brks num (fun _ => { en := en, voice := voiceNo voice.toNat, idx := idx }) })))

/-- EXTEST (R630). -/
def execExtest (s : State) : Res := .next (s.tapExternal .extest)
/-- IDCODE (R627). -/
def execIdcode (s : State) : Res := .next (s.tap .idcode true (fun s => s.setSec (fun q => { q with dr := 0x196004E9 })))
/-- SAMPLE_PRELOAD (R627): the boundary is sampled; it drives nothing. -/
def execSamplePreload (s : State) : Res := .next (s.tap .sample true (fun s => s.setSec (fun q => { q with preload := true })))
/-- CLAMP (R630). -/
def execClamp (s : State) : Res := .next (s.tapExternal .clamp)
/-- HIGHZ (R630). -/
def execHighz (s : State) : Res := .next (s.tapExternal .highz)
/-- TMUXSEL (R631, Tables SE-1, SE-3). -/
def execTmuxsel (w : Word) (s : State) : Res :=
  let dev := s.sec.level == .develop
  .next (s.tap .tmuxsel (dev || (s.sec.level == .field && s.dbgEffect != .none)) (fun s => s.setSec (fun q =>
    { q with tmsel0 := tmuxCode dev (w.extractLsb' 0 8), tmsel1 := tmuxCode dev (w.extractLsb' 8 8) })))
/-- SECREAD (R627, Table SE-1). -/
def execSecread (s : State) : Res := .next (s.tap .secread true (fun s => s.setSec (fun q => { q with dr := s.secWord })))
/-- KEYLOAD (R620, Table SE-1): at DEVELOP. -/
def execKeyload (key : BitVec 256) (s : State) : Res :=
  .next (s.tap .keyload (s.sec.level == .develop) (fun s => s.setSec (fun q => { q with key := some key })))
/-- BYPASS (R627). -/
def execBypass (s : State) : Res := .next (s.tap .bypass true (fun s => s))

end Sys2Proof.Machine
end

