-- ==== Sys2Proof/Machine/Dispatch.lean ====
section
/-! DEFINITION. The meaning of each command: one arm per constructor. -/

namespace Sys2Proof.Machine

def exec (i : Instr) (s : State) : Host.Outcome State Fault Refusal :=
  match i with
  | .measureBeat k o => Sys2Proof.Machine.execMeasureBeat k o s
  | .tickBeat o => Sys2Proof.Machine.execTickBeat o s
  | .faceSlot t bad => Sys2Proof.Machine.execFaceSlot t bad s
  | .faceIntakeClose part => Sys2Proof.Machine.execFaceIntakeClose part s
  | .wbStage => Sys2Proof.Machine.execWbStage s
  | .voiceSlotStart v err => Sys2Proof.Machine.execVoiceSlotStart v err s
  | .voiceSlotEnd v => Sys2Proof.Machine.execVoiceSlotEnd v s
  | .softTimerExpire v n => Sys2Proof.Machine.execSoftTimerExpire v n s
  | .loader bad => Sys2Proof.Machine.execLoader bad s
  | .haul => Sys2Proof.Machine.execHaul s
  | .journalCommit fail => Sys2Proof.Machine.execJournalCommit fail s
  | .loaderGuard => Sys2Proof.Machine.execLoaderGuard s
  | .frontGuard => Sys2Proof.Machine.execFrontGuard s
  | .haulGuard => Sys2Proof.Machine.execHaulGuard s
  | .grantPeriodEnd b => Sys2Proof.Machine.execGrantPeriodEnd b s
  | .cmdReturnTimeout => Sys2Proof.Machine.execCmdReturnTimeout s
  | .repeatCopySend => Sys2Proof.Machine.execRepeatCopySend s
  | .shedSetReturn got => Sys2Proof.Machine.execShedSetReturn got s
  | .shedReturnTimeout => Sys2Proof.Machine.execShedReturnTimeout s
  | .svcSend => Sys2Proof.Machine.execSvcSend s
  | .svcFrameReturn => Sys2Proof.Machine.execSvcFrameReturn s
  | .joinPollSend => Sys2Proof.Machine.execJoinPollSend s
  | .fullEnumeration => Sys2Proof.Machine.execFullEnumeration s
  | .echoSend => Sys2Proof.Machine.execEchoSend s
  | .echoReturn roundTrip => Sys2Proof.Machine.execEchoReturn roundTrip s
  | .rejoinTimerEnd t => Sys2Proof.Machine.execRejoinTimerEnd t s
  | .tileMeasureBeat h a => Sys2Proof.Machine.execTileMeasureBeat h a s
  | .tileTickBeat h o => Sys2Proof.Machine.execTileTickBeat h o s
  | .tileApplyCmd h => Sys2Proof.Machine.execTileApplyCmd h s
  | .cmdFrameReceive h => Sys2Proof.Machine.execCmdFrameReceive h s
  | .telSlotWrite h => Sys2Proof.Machine.execTelSlotWrite h s
  | .echoFrameWrite h => Sys2Proof.Machine.execEchoFrameWrite h s
  | .svcWrite h => Sys2Proof.Machine.execSvcWrite h s
  | .svcRead h => Sys2Proof.Machine.execSvcRead h s
  | .symbolError seg what pos got => Sys2Proof.Machine.execSymbolError seg what pos got s
  | .flywheelBeat h a => Sys2Proof.Machine.execFlywheelBeat h a s
  | .bypassOpen h => Sys2Proof.Machine.execBypassOpen h s
  | .tileBeatTimeout h => Sys2Proof.Machine.execTileBeatTimeout h s
  | .tileReset h => Sys2Proof.Machine.execTileReset h s
  | .tileResetRelease h => Sys2Proof.Machine.execTileResetRelease h s
  | .tileShed h set => Sys2Proof.Machine.execTileShed h set s
  | .tileClockLock h => Sys2Proof.Machine.execTileClockLock h s
  | .clockHoldoverEntry h => Sys2Proof.Machine.execClockHoldoverEntry h s
  | .clockHoldoverTimeout h => Sys2Proof.Machine.execClockHoldoverTimeout h s
  | .tileClockRelock h => Sys2Proof.Machine.execTileClockRelock h s
  | .pulseStart h p vin vout => Sys2Proof.Machine.execPulseStart h p vin vout s
  | .restStart h p iout => Sys2Proof.Machine.execRestStart h p iout s
  | .restWindowClose h p samples => Sys2Proof.Machine.execRestWindowClose h p samples s
  | .outputOvervoltage h p => Sys2Proof.Machine.execOutputOvervoltage h p s
  | .pltExpire h p outs => Sys2Proof.Machine.execPltExpire h p outs s
  | .outputFastTrip h p => Sys2Proof.Machine.execOutputFastTrip h p s
  | .attemptRetry h p vin vout => Sys2Proof.Machine.execAttemptRetry h p vin vout s
  | .attemptCounterClear h p outs => Sys2Proof.Machine.execAttemptCounterClear h p outs s
  | .junctionFoldback h p tj => Sys2Proof.Machine.execJunctionFoldback h p tj s
  | .thermalStop h p => Sys2Proof.Machine.execThermalStop h p s
  | .thermalRecover h p => Sys2Proof.Machine.execThermalRecover h p s
  | .dieOvertemp h => Sys2Proof.Machine.execDieOvertemp h s
  | .adcReferenceFail h => Sys2Proof.Machine.execAdcReferenceFail h s
  | .doorEdgeAccept h p level us => Sys2Proof.Machine.execDoorEdgeAccept h p level us s
  | .lockHoldStart h p => Sys2Proof.Machine.execLockHoldStart h p s
  | .lockOvercurrent h p => Sys2Proof.Machine.execLockOvercurrent h p s
  | .lampOvercurrent h p lampB => Sys2Proof.Machine.execLampOvercurrent h p lampB s
  | .unlockPulseEnd h p => Sys2Proof.Machine.execUnlockPulseEnd h p s
  | .vinUndervoltage h => Sys2Proof.Machine.execVinUndervoltage h s
  | .vinRecover h => Sys2Proof.Machine.execVinRecover h s
  | .vinOvervoltage h => Sys2Proof.Machine.execVinOvervoltage h s
  | .vinOvClear h => Sys2Proof.Machine.execVinOvClear h s
  | .revpolSet h p => Sys2Proof.Machine.execRevpolSet h p s
  | .revpolClear h p => Sys2Proof.Machine.execRevpolClear h p s
  | .probeEnd h p rise => Sys2Proof.Machine.execProbeEnd h p rise s
  | .reprobeTimer b => Sys2Proof.Machine.execReprobeTimer b s
  | .smbPollRound h p => Sys2Proof.Machine.execSmbPollRound h p s
  | .smbTransactionEnd h p r => Sys2Proof.Machine.execSmbTransactionEnd h p r s
  | .smbNackRetry h p pt => Sys2Proof.Machine.execSmbNackRetry h p pt s
  | .smbArbitrationLost h p msg => Sys2Proof.Machine.execSmbArbitrationLost h p msg s
  | .smbArbitrationRetry h p pt => Sys2Proof.Machine.execSmbArbitrationRetry h p pt s
  | .smbAlarmReceive h p msg => Sys2Proof.Machine.execSmbAlarmReceive h p msg s
  | .smbClockTimeout h p => Sys2Proof.Machine.execSmbClockTimeout h p s
  | .smbDataStuck h p => Sys2Proof.Machine.execSmbDataStuck h p s
  | .pretimeExpire b => Sys2Proof.Machine.execPretimeExpire b s
  | .chargeTimerExpire b => Sys2Proof.Machine.execChargeTimerExpire b s
  | .litimerExpire b => Sys2Proof.Machine.execLitimerExpire b s
  | .topoffEnd b => Sys2Proof.Machine.execTopoffEnd b s
  | .maintInterval b => Sys2Proof.Machine.execMaintInterval b s
  | .hostlateExpire b => Sys2Proof.Machine.execHostlateExpire b s
  | .norestExpire b => Sys2Proof.Machine.execNorestExpire b s
  | .keeperTaperEnd => Sys2Proof.Machine.execKeeperTaperEnd s
  | .timerWrap n => Sys2Proof.Machine.execTimerWrap n s
  | .timerMatch n => Sys2Proof.Machine.execTimerMatch n s
  | .timerOneshotDone n => Sys2Proof.Machine.execTimerOneshotDone n s
  | .timerCapture n count rising => Sys2Proof.Machine.execTimerCapture n count rising s
  | .vcmdRun c v => Sys2Proof.Machine.execVcmdRun c v s
  | .vcmdStop c v => Sys2Proof.Machine.execVcmdStop c v s
  | .vcmdInstall c v => Sys2Proof.Machine.execVcmdInstall c v s
  | .voiceCommandApply v => Sys2Proof.Machine.execVoiceCommandApply v s
  | .installVerifyDone v badWord wordFails => Sys2Proof.Machine.execInstallVerifyDone v badWord wordFails s
  | .engctlRun c => Sys2Proof.Machine.execEngctlRun c s
  | .engctlStop c => Sys2Proof.Machine.execEngctlStop c s
  | .engctlGack c => Sys2Proof.Machine.execEngctlGack c s
  | .engineCommandApply => Sys2Proof.Machine.execEngineCommandApply s
  | .haltEntry => Sys2Proof.Machine.execHaltEntry s
  | .xNop v => Sys2Proof.Machine.execXNop v s
  | .fin v => Sys2Proof.Machine.execFin v s
  | .xTrue v => Sys2Proof.Machine.execXTrue v s
  | .xFalse v => Sys2Proof.Machine.execXFalse v s
  | .inv v => Sys2Proof.Machine.execInv v s
  | .xJoin v => Sys2Proof.Machine.execXJoin v s
  | .snap v fail => Sys2Proof.Machine.execSnap v fail s
  | .raise v => Sys2Proof.Machine.execRaise v s
  | .xGet v => Sys2Proof.Machine.execXGet v s
  | .getn v => Sys2Proof.Machine.execGetn v s
  | .xAnd v => Sys2Proof.Machine.execXAnd v s
  | .andn v => Sys2Proof.Machine.execAndn v s
  | .xOr v => Sys2Proof.Machine.execXOr v s
  | .orn v => Sys2Proof.Machine.execOrn v s
  | .xXor v => Sys2Proof.Machine.execXXor v s
  | .xorn v => Sys2Proof.Machine.execXorn v s
  | .xPut v => Sys2Proof.Machine.execXPut v s
  | .putn v => Sys2Proof.Machine.execPutn v s
  | .latch v => Sys2Proof.Machine.execLatch v s
  | .unlatch v => Sys2Proof.Machine.execUnlatch v s
  | .rise v => Sys2Proof.Machine.execRise v s
  | .fall v => Sys2Proof.Machine.execFall v s
  | .brAnd v => Sys2Proof.Machine.execBrAnd v s
  | .brAndn v => Sys2Proof.Machine.execBrAndn v s
  | .brOr v => Sys2Proof.Machine.execBrOr v s
  | .brOrn v => Sys2Proof.Machine.execBrOrn v s
  | .brXor v => Sys2Proof.Machine.execBrXor v s
  | .brXorn v => Sys2Proof.Machine.execBrXorn v s
  | .goto v => Sys2Proof.Machine.execGoto v s
  | .gotot v => Sys2Proof.Machine.execGotot v s
  | .gotof v => Sys2Proof.Machine.execGotof v s
  | .wget v => Sys2Proof.Machine.execWget v s
  | .wimm v => Sys2Proof.Machine.execWimm v s
  | .wput v => Sys2Proof.Machine.execWput v s
  | .wadd v => Sys2Proof.Machine.execWadd v s
  | .wsub v => Sys2Proof.Machine.execWsub v s
  | .wand v => Sys2Proof.Machine.execWand v s
  | .wor v => Sys2Proof.Machine.execWor v s
  | .wxor v => Sys2Proof.Machine.execWxor v s
  | .weq v => Sys2Proof.Machine.execWeq v s
  | .wne v => Sys2Proof.Machine.execWne v s
  | .wgt v => Sys2Proof.Machine.execWgt v s
  | .wge v => Sys2Proof.Machine.execWge v s
  | .wlt v => Sys2Proof.Machine.execWlt v s
  | .wle v => Sys2Proof.Machine.execWle v s
  | .wsgt v => Sys2Proof.Machine.execWsgt v s
  | .wslt v => Sys2Proof.Machine.execWslt v s
  | .w2x v => Sys2Proof.Machine.execW2x v s
  | .x2w v => Sys2Proof.Machine.execX2w v s
  | .ton v => Sys2Proof.Machine.execTon v s
  | .tof v => Sys2Proof.Machine.execTof v s
  | .tp v => Sys2Proof.Machine.execTp v s
  | .tacc v => Sys2Proof.Machine.execTacc v s
  | .tclr v => Sys2Proof.Machine.execTclr v s
  | .tpre v => Sys2Proof.Machine.execTpre v s
  | .cup v => Sys2Proof.Machine.execCup v s
  | .cdn v => Sys2Proof.Machine.execCdn v s
  | .cclr v => Sys2Proof.Machine.execCclr v s
  | .cpre v => Sys2Proof.Machine.execCpre v s
  | .undefinedOpcode v => Sys2Proof.Machine.execUndefinedOpcode v s
  | .watchdogExpire us => Sys2Proof.Machine.execWatchdogExpire us s
  | .codaBudgetEnd => Sys2Proof.Machine.execCodaBudgetEnd s
  | .hardTimerEnd => Sys2Proof.Machine.execHardTimerEnd s
  | .watchdogClockStop => Sys2Proof.Machine.execWatchdogClockStop s
  | .wdctlWrite c w => Sys2Proof.Machine.execWdctlWrite c w s
  | .wdkick c w us => Sys2Proof.Machine.execWdkick c w us s
  | .xtalQualify => Sys2Proof.Machine.execXtalQualify s
  | .xtalEdgeLoss => Sys2Proof.Machine.execXtalEdgeLoss s
  | .slewLock => Sys2Proof.Machine.execSlewLock s
  | .pllUnlock => Sys2Proof.Machine.execPllUnlock s
  | .lfCalibrationStart presleep => Sys2Proof.Machine.execLfCalibrationStart presleep s
  | .lfCalibrationDone count => Sys2Proof.Machine.execLfCalibrationDone count s
  | .clkctlRetry c => Sys2Proof.Machine.execClkctlRetry c s
  | .srcselWrite c w => Sys2Proof.Machine.execSrcselWrite c w s
  | .feedInputQualify f => Sys2Proof.Machine.execFeedInputQualify f s
  | .feedInputLost f => Sys2Proof.Machine.execFeedInputLost f s
  | .feederRampStart f => Sys2Proof.Machine.execFeederRampStart f s
  | .feederRampDone f outs => Sys2Proof.Machine.execFeederRampDone f outs s
  | .feederRampTimeout f outs => Sys2Proof.Machine.execFeederRampTimeout f outs s
  | .feederPltExpire f outs => Sys2Proof.Machine.execFeederPltExpire f outs s
  | .feederFastTrip f vsns => Sys2Proof.Machine.execFeederFastTrip f vsns s
  | .feederRetryEnd f => Sys2Proof.Machine.execFeederRetryEnd f s
  | .feederCounterClear f outs => Sys2Proof.Machine.execFeederCounterClear f outs s
  | .feederReverseBlock f => Sys2Proof.Machine.execFeederReverseBlock f s
  | .feederReverseClear f => Sys2Proof.Machine.execFeederReverseClear f s
  | .feedctlClrlo c f => Sys2Proof.Machine.execFeedctlClrlo c f s
  | .holdoverExit f => Sys2Proof.Machine.execHoldoverExit f s
  | .keeperSourceQualify src => Sys2Proof.Machine.execKeeperSourceQualify src s
  | .keeperSourceLost src => Sys2Proof.Machine.execKeeperSourceLost src s
  | .kholdExpire src => Sys2Proof.Machine.execKholdExpire src s
  | .keeperSwitchClose => Sys2Proof.Machine.execKeeperSwitchClose s
  | .batteryDetection kntcA kntcB bat => Sys2Proof.Machine.execBatteryDetection kntcA kntcB bat s
  | .batteryProbeEnd bat => Sys2Proof.Machine.execBatteryProbeEnd bat s
  | .batteryReachVclose => Sys2Proof.Machine.execBatteryReachVclose s
  | .batteryRedetect => Sys2Proof.Machine.execBatteryRedetect s
  | .batteryOvercurrent ma => Sys2Proof.Machine.execBatteryOvercurrent ma s
  | .latchBatRise => Sys2Proof.Machine.execLatchBatRise s
  | .buttonPress => Sys2Proof.Machine.execButtonPress s
  | .buttonRelease len => Sys2Proof.Machine.execButtonRelease len s
  | .buttonResetHold => Sys2Proof.Machine.execButtonResetHold s
  | .buttonResetCut => Sys2Proof.Machine.execButtonResetCut s
  | .buttonResetRelease => Sys2Proof.Machine.execButtonResetRelease s
  | .shipctl c w inputUp => Sys2Proof.Machine.execShipctl c w inputUp s
  | .shipExit => Sys2Proof.Machine.execShipExit s
  | .keeperHot => Sys2Proof.Machine.execKeeperHot s
  | .keeperCool => Sys2Proof.Machine.execKeeperCool s
  | .startupRegulator => Sys2Proof.Machine.execStartupRegulator s
  | .modectlDormreq c => Sys2Proof.Machine.execModectlDormreq c s
  | .holddormExpire => Sys2Proof.Machine.execHolddormExpire s
  | .lowNodeTrigger => Sys2Proof.Machine.execLowNodeTrigger s
  | .dormantRootStop => Sys2Proof.Machine.execDormantRootStop s
  | .dormantWake cause lf => Sys2Proof.Machine.execDormantWake cause lf s
  | .wakeTimerExpire => Sys2Proof.Machine.execWakeTimerExpire s
  | .powerFail core cut => Sys2Proof.Machine.execPowerFail core cut s
  | .powerOnReset profile lockdef => Sys2Proof.Machine.execPowerOnReset profile lockdef s
  | .brownout => Sys2Proof.Machine.execBrownout s
  | .resetHoldEnd lf => Sys2Proof.Machine.execResetHoldEnd lf s
  | .ccTerminationRestore => Sys2Proof.Machine.execCcTerminationRestore s
  | .tacetEnd slow bat => Sys2Proof.Machine.execTacetEnd slow bat s
  | .recallEnd o => Sys2Proof.Machine.execRecallEnd o s
  | .musterStart slow => Sys2Proof.Machine.execMusterStart slow s
  | .mustmaxExpire => Sys2Proof.Machine.execMustmaxExpire s
  | .rstctl c w => Sys2Proof.Machine.execRstctl c w s
  | .drpToggle p => Sys2Proof.Machine.execDrpToggle p s
  | .ccAttachDetect p src orient rp => Sys2Proof.Machine.execCcAttachDetect p src orient rp s
  | .attachSrc p orient ra leaks => Sys2Proof.Machine.execAttachSrc p orient ra leaks s
  | .attachSnk p orient rp => Sys2Proof.Machine.execAttachSnk p orient rp s
  | .trySnkTimer p o => Sys2Proof.Machine.execTrySnkTimer p o s
  | .vbusonTimeout p => Sys2Proof.Machine.execVbusonTimeout p s
  | .sourceDetach p mv => Sys2Proof.Machine.execSourceDetach p mv s
  | .dischargeDone p => Sys2Proof.Machine.execDischargeDone p s
  | .vbusoffTimeout p => Sys2Proof.Machine.execVbusoffTimeout p s
  | .sourceOvercurrent p ma => Sys2Proof.Machine.execSourceOvercurrent p ma s
  | .vconnOvercurrent p => Sys2Proof.Machine.execVconnOvercurrent p s
  | .sinkDetach p gone => Sys2Proof.Machine.execSinkDetach p gone s
  | .sinkOvervoltage p mv => Sys2Proof.Machine.execSinkOvervoltage p mv s
  | .accessoryIgnore p present => Sys2Proof.Machine.execAccessoryIgnore p present s
  | .recoveryEnd p => Sys2Proof.Machine.execRecoveryEnd p s
  | .moistureScanDone p leaks => Sys2Proof.Machine.execMoistureScanDone p leaks s
  | .wetScanTimer p => Sys2Proof.Machine.execWetScanTimer p s
  | .deadBatteryVbus p mv => Sys2Proof.Machine.execDeadBatteryVbus p mv s
  | .clrlock c p => Sys2Proof.Machine.execClrlock c p s
  | .sourceCapabilities p m pdos => Sys2Proof.Machine.execSourceCapabilities p m pdos s
  | .request p m pos op max mismatch => Sys2Proof.Machine.execRequest p m pos op max mismatch s
  | .accept p m => Sys2Proof.Machine.execAccept p m s
  | .reject p m => Sys2Proof.Machine.execReject p m s
  | .psRdy p m vbus => Sys2Proof.Machine.execPsRdy p m vbus s
  | .wait p m => Sys2Proof.Machine.execWait p m s
  | .ping p m => Sys2Proof.Machine.execPing p m s
  | .getSourceCap p m => Sys2Proof.Machine.execGetSourceCap p m s
  | .getSinkCap p m => Sys2Proof.Machine.execGetSinkCap p m s
  | .softReset p m => Sys2Proof.Machine.execSoftReset p m s
  | .notSupported p m => Sys2Proof.Machine.execNotSupported p m s
  | .goodcrc p m => Sys2Proof.Machine.execGoodcrc p m s
  | .prSwap p m => Sys2Proof.Machine.execPrSwap p m s
  | .frSwap p m => Sys2Proof.Machine.execFrSwap p m s
  | .vconnSwap p m vconnPin => Sys2Proof.Machine.execVconnSwap p m vconnPin s
  | .discoverIdentity p m => Sys2Proof.Machine.execDiscoverIdentity p m s
  | .discoverSvids p m => Sys2Proof.Machine.execDiscoverSvids p m s
  | .discoverModes p m svid => Sys2Proof.Machine.execDiscoverModes p m svid s
  | .enterMode p m svid pos => Sys2Proof.Machine.execEnterMode p m svid pos s
  | .exitMode p m svid pos => Sys2Proof.Machine.execExitMode p m svid pos s
  | .attention p m svid cmd => Sys2Proof.Machine.execAttention p m svid cmd s
  | .discoveryResponse p m cmd r => Sys2Proof.Machine.execDiscoveryResponse p m cmd r s
  | .getSourceCapExtended p m => Sys2Proof.Machine.execGetSourceCapExtended p m s
  | .getSinkCapExtended p m => Sys2Proof.Machine.execGetSinkCapExtended p m s
  | .getStatus p m temp => Sys2Proof.Machine.execGetStatus p m temp s
  | .getManufacturerInfo p m => Sys2Proof.Machine.execGetManufacturerInfo p m s
  | .getRevision p m => Sys2Proof.Machine.execGetRevision p m s
  | .bistCarrierMode p m => Sys2Proof.Machine.execBistCarrierMode p m s
  | .bistTestData p m => Sys2Proof.Machine.execBistTestData p m s
  | .unsupportedMessage p m x => Sys2Proof.Machine.execUnsupportedMessage p m x s
  | .chunkRequest p m n => Sys2Proof.Machine.execChunkRequest p m n s
  | .hardReset p => Sys2Proof.Machine.execHardReset p s
  | .goodcrcTimeout p => Sys2Proof.Machine.execGoodcrcTimeout p s
  | .sinktxngWaitEnd p => Sys2Proof.Machine.execSinktxngWaitEnd p s
  | .sourceCapTimer p => Sys2Proof.Machine.execSourceCapTimer p s
  | .senderResponseTimeout p => Sys2Proof.Machine.execSenderResponseTimeout p s
  | .sourceTransitionWait p => Sys2Proof.Machine.execSourceTransitionWait p s
  | .sourceVbusSettled p => Sys2Proof.Machine.execSourceVbusSettled p s
  | .sourceTransitionTimeout p => Sys2Proof.Machine.execSourceTransitionTimeout p s
  | .sinkTransitionTimeout p => Sys2Proof.Machine.execSinkTransitionTimeout p s
  | .sinkWaitCapTimeout p => Sys2Proof.Machine.execSinkWaitCapTimeout p s
  | .vbusUndervoltage p => Sys2Proof.Machine.execVbusUndervoltage p s
  | .hardResetSourceOff p => Sys2Proof.Machine.execHardResetSourceOff p s
  | .hardResetSourceRestore p => Sys2Proof.Machine.execHardResetSourceRestore p s
  | .hardResetSinkTimeout p vbus => Sys2Proof.Machine.execHardResetSinkTimeout p vbus s
  | .waitResend p => Sys2Proof.Machine.execWaitResend p s
  | .chunkTimeout p => Sys2Proof.Machine.execChunkTimeout p s
  | .capabilityChange p => Sys2Proof.Machine.execCapabilityChange p s
  | .swapcmdPrSwap c p => Sys2Proof.Machine.execSwapcmdPrSwap c p s
  | .swapcmdVconnSwap c p => Sys2Proof.Machine.execSwapcmdVconnSwap c p s
  | .prSwapSourceOff p => Sys2Proof.Machine.execPrSwapSourceOff p s
  | .swapTimeout p => Sys2Proof.Machine.execSwapTimeout p s
  | .frsSignalDetect p us => Sys2Proof.Machine.execFrsSignalDetect p us s
  | .frsVbusLow p => Sys2Proof.Machine.execFrsVbusLow p s
  | .frsSignalEnd p => Sys2Proof.Machine.execFrsSignalEnd p s
  | .borrowBackPrSwap p => Sys2Proof.Machine.execBorrowBackPrSwap p s
  | .discoveryStart p => Sys2Proof.Machine.execDiscoveryStart p s
  | .discoveryTimeout p => Sys2Proof.Machine.execDiscoveryTimeout p s
  | .hello seq x => Sys2Proof.Machine.execHello seq x s
  | .status seq hold demand linkbud lepoch => Sys2Proof.Machine.execStatus seq hold demand linkbud lepoch s
  | .split seq ll lf => Sys2Proof.Machine.execSplit seq ll lf s
  | .ack seq res => Sys2Proof.Machine.execAck seq res s
  | .time seq ms => Sys2Proof.Machine.execTime seq ms s
  | .statusSend => Sys2Proof.Machine.execStatusSend s
  | .timeSend => Sys2Proof.Machine.execTimeSend s
  | .peerAckTimeout split => Sys2Proof.Machine.execPeerAckTimeout split s
  | .peerSilence => Sys2Proof.Machine.execPeerSilence s
  | .linkctlForget c => Sys2Proof.Machine.execLinkctlForget c s
  | .linkctlWrite c k w => Sys2Proof.Machine.execLinkctlWrite c k w s
  | .hostReadAbort c => Sys2Proof.Machine.execHostReadAbort c s
  | .hostWriteAbort c => Sys2Proof.Machine.execHostWriteAbort c s
  | .bothStrobesLow ha hctx => Sys2Proof.Machine.execBothStrobesLow ha hctx s
  | .illegalContext ha hctx write => Sys2Proof.Machine.execIllegalContext ha hctx write s
  | .unassignedOffset c ha write => Sys2Proof.Machine.execUnassignedOffset c ha write s
  | .registerWrite c ha w => Sys2Proof.Machine.execRegisterWrite c ha w s
  | .evqdataRead c => Sys2Proof.Machine.execEvqdataRead c s
  | .evqctlClr c => Sys2Proof.Machine.execEvqctlClr c s
  | .ctxstatClear c w => Sys2Proof.Machine.execCtxstatClear c w s
  | .intctlWrite c w => Sys2Proof.Machine.execIntctlWrite c w s
  | .winselWrite c n w => Sys2Proof.Machine.execWinselWrite c n w s
  | .winptrWrite c n r w => Sys2Proof.Machine.execWinptrWrite c n r w s
  | .windataRead c n => Sys2Proof.Machine.execWindataRead c n s
  | .windataWrite c n w => Sys2Proof.Machine.execWindataWrite c n w s
  | .winctlFlush c n => Sys2Proof.Machine.execWinctlFlush c n s
  | .hostBlockTransfer fail => Sys2Proof.Machine.execHostBlockTransfer fail s
  | .wideFieldLowRead c f => Sys2Proof.Machine.execWideFieldLowRead c f s
  | .wideFieldLowWrite c f w => Sys2Proof.Machine.execWideFieldLowWrite c f w s
  | .hpageWrite c w => Sys2Proof.Machine.execHpageWrite c w s
  | .layoutWrite c n w => Sys2Proof.Machine.execLayoutWrite c n w s
  | .cabbudWrite c w => Sys2Proof.Machine.execCabbudWrite c w s
  | .reserveWrite c w => Sys2Proof.Machine.execReserveWrite c w s
  | .tmrsync c w => Sys2Proof.Machine.execTmrsync c w s
  | .ctofsWrite c w => Sys2Proof.Machine.execCtofsWrite c w s
  | .membctlEnum c => Sys2Proof.Machine.execMembctlEnum c s
  | .baySettingWrite c b ofs w => Sys2Proof.Machine.execBaySettingWrite c b ofs w s
  | .ordlvlStop c b => Sys2Proof.Machine.execOrdlvlStop c b s
  | .ordlvlGo c b => Sys2Proof.Machine.execOrdlvlGo c b s
  | .ordlvlLock c b => Sys2Proof.Machine.execOrdlvlLock c b s
  | .ordlvlUnlock c b => Sys2Proof.Machine.execOrdlvlUnlock c b s
  | .ordlvlLampa c b en val => Sys2Proof.Machine.execOrdlvlLampa c b en val s
  | .ordlvlLampb c b en val => Sys2Proof.Machine.execOrdlvlLampb c b en val s
  | .ordlvlEmrel c b on => Sys2Proof.Machine.execOrdlvlEmrel c b on s
  | .ordedgeUnlkp c b len => Sys2Proof.Machine.execOrdedgeUnlkp c b len s
  | .ordedgeClrflt c b => Sys2Proof.Machine.execOrdedgeClrflt c b s
  | .ordedgeEnd c b => Sys2Proof.Machine.execOrdedgeEnd c b s
  | .ordedgeCont c b => Sys2Proof.Machine.execOrdedgeCont c b s
  | .ordedgeRestart c b => Sys2Proof.Machine.execOrdedgeRestart c b s
  | .tioordWrite c t w => Sys2Proof.Machine.execTioordWrite c t w s
  | .ptReadByte c b cmd => Sys2Proof.Machine.execPtReadByte c b cmd s
  | .ptWriteByte c b cmd data => Sys2Proof.Machine.execPtWriteByte c b cmd data s
  | .ptReadWord c b cmd => Sys2Proof.Machine.execPtReadWord c b cmd s
  | .ptWriteWord c b cmd data => Sys2Proof.Machine.execPtWriteWord c b cmd data s
  | .ptBlockRead c b cmd => Sys2Proof.Machine.execPtBlockRead c b cmd s
  | .ptBlockWrite c b cmd data => Sys2Proof.Machine.execPtBlockWrite c b cmd data s
  | .capqRead c n => Sys2Proof.Machine.execCapqRead c n s
  | .voiceImageWrite c v ofs w => Sys2Proof.Machine.execVoiceImageWrite c v ofs w s
  | .secctlField c => Sys2Proof.Machine.execSecctlField c s
  | .secctlSealed c => Sys2Proof.Machine.execSecctlSealed c s
  | .levelChangeApply => Sys2Proof.Machine.execLevelChangeApply s
  | .acodeOpen c code => Sys2Proof.Machine.execAcodeOpen c code s
  | .acodeClose c => Sys2Proof.Machine.execAcodeClose c s
  | .acodePending c code => Sys2Proof.Machine.execAcodePending c code s
  | .acodeCommit c code => Sys2Proof.Machine.execAcodeCommit c code s
  | .pendingCodeLapse c => Sys2Proof.Machine.execPendingCodeLapse c s
  | .refusalPeriodEnd c => Sys2Proof.Machine.execRefusalPeriodEnd c s
  | .dbgreq req => Sys2Proof.Machine.execDbgreq req s
  | .dbgchal => Sys2Proof.Machine.execDbgchal s
  | .dbgresp resp => Sys2Proof.Machine.execDbgresp resp s
  | .nonceExpire => Sys2Proof.Machine.execNonceExpire s
  | .dbgchalLockoutEnd => Sys2Proof.Machine.execDbgchalLockoutEnd s
  | .dbgend => Sys2Proof.Machine.execDbgend s
  | .testLogicReset => Sys2Proof.Machine.execTestLogicReset s
  | .dbgaccRead ha => Sys2Proof.Machine.execDbgaccRead ha s
  | .dbgaccWrite ha w => Sys2Proof.Machine.execDbgaccWrite ha w s
  | .dbgctlHalt => Sys2Proof.Machine.execDbgctlHalt s
  | .dbgctlStep => Sys2Proof.Machine.execDbgctlStep s
  | .dbgctlResume => Sys2Proof.Machine.execDbgctlResume s
  | .dbgctlBreakpointWrite num en voice idx => Sys2Proof.Machine.execDbgctlBreakpointWrite num en voice idx s
  | .extest => Sys2Proof.Machine.execExtest s
  | .idcode => Sys2Proof.Machine.execIdcode s
  | .samplePreload => Sys2Proof.Machine.execSamplePreload s
  | .clamp => Sys2Proof.Machine.execClamp s
  | .highz => Sys2Proof.Machine.execHighz s
  | .tmuxsel w => Sys2Proof.Machine.execTmuxsel w s
  | .secread => Sys2Proof.Machine.execSecread s
  | .keyload key => Sys2Proof.Machine.execKeyload key s
  | .bypass => Sys2Proof.Machine.execBypass s
  | .cmdFrameReturn => Sys2Proof.Machine.execCmdFrameReturn s
  | .svcReturnTimeout => Sys2Proof.Machine.execSvcReturnTimeout s
  | .tioEdgeAccept h k level n => Sys2Proof.Machine.execTioEdgeAccept h k level n s
  | .lkopenChange h p isOpen => Sys2Proof.Machine.execLkopenChange h p isOpen s
  | .bistCarrierEnd p => Sys2Proof.Machine.execBistCarrierEnd p s
  | .sinkTxOk p => Sys2Proof.Machine.execSinkTxOk p s

end Sys2Proof.Machine
end

