-- ==== Sys2Proof/Safety.lean ====
section
/-! DEFINITION. The terms that claims use: a command's answer, what a command leaves as it was, and the
states that the spec names. -/

namespace Sys2Proof

/-- A channel is off as R65 says. -/
def Chan.isOff (c : Chan) : Prop := c.pulsing = false ∧ c.isocl = false

/-- A channel of a tile in tile SAFE (R93): off, locked, its unlock pulse cut short, its lamps off. -/
def Chan.inSafe (c : Chan) : Prop :=
  c.isOff ∧ c.order.mode = 0 ∧ c.unlocked = false ∧ c.pulseLeft = none ∧ c.lampAOn = false ∧ c.lampBOn = false

/-- A tile is as R93 says of tile SAFE; every TIO pin is an input. -/
def Tile.inSafe (t : Tile) : Prop :=
  t.safe = true ∧ (∀ p : Pos, t.chans[p].inSafe) ∧ ∀ k : Fin 4, t.tioDrive[k] = false

/-- No exchange runs, none is held, and no message waits for its GoodCRC. -/
def PdSt.idle (d : PdSt) : Prop :=
  d.exch = .idle ∧ d.await = false ∧ d.own = [] ∧ d.chunkIn = none ∧ d.ownEx = false ∧ d.ngWait = false ∧ d.rpNg = false ∧ d.swap = none

/-- What the receipt of an SOP packet leaves in the port: the MessageID is stored and acknowledged. -/
def PdSt.got (d : PdSt) (m : PdHdr) : PdSt :=
  { d with sops := d.sops.set 0 { d.sops[0] with rx := some m.id }, gcrc := some (0, m.id) }

/-- The port has put a message on the wire on SOP, and awaits its GoodCRC. -/
def PdSt.sending (d : PdSt) (m : PdMsg) : PdSt :=
  { d with out := some { sop := 0, id := d.sops[0].tx, msg := m }, await := true, sent := 1 }

/-- The port's waiting message has been acknowledged: its MessageID counter moves on (R504). -/
def PdSt.past (d : PdSt) : PdSt :=
  { d with sops := d.sops.set 0 { d.sops[0] with tx := d.sops[0].tx + 1 }, await := false }

end Sys2Proof

namespace Sys2Proof.Machine

/-- The command `i` answers a next state, and it has the property. -/
def Answers (i : Instr) (s : State) (P : State → Prop) : Prop := ∃ t, exec i s = .next t ∧ P t

/-- Nothing changes but one tile. -/
def OnlyTile (h : Shelf) (s t : State) : Prop :=
  t = { s with tiles := t.tiles } ∧ ∀ k : Shelf, k ≠ h → t.tiles[k] = s.tiles[k]

/-- The channel at a tile's position. -/
def State.chan (s : State) (h : Shelf) (p : Pos) : Chan := s.tiles[h].chans[p]

/-- Nothing changes but one channel of one tile. -/
def OnlyChan (h : Shelf) (p : Pos) (s t : State) : Prop :=
  OnlyTile h s t ∧ t.tiles[h] = { s.tiles[h] with chans := t.tiles[h].chans } ∧
  ∀ q : Pos, q ≠ p → t.chan h q = s.chan h q

/-- Nothing changes but one bay master, and its state has the property. -/
def MasterTo (h : Shelf) (p : Pos) (s t : State) (P : BayMaster → Prop) : Prop :=
  OnlyChan h p s t ∧ t.chan h p = { s.chan h p with smb := (t.chan h p).smb } ∧ P (t.chan h p).smb

/-- Voice `v` executes the instruction word `w` now, and the `n` cycles of it fit into what the voice has. -/
def State.executes (s : State) (v : VoiceId) (w : BitVec 32) (n : Nat) : Prop :=
  s.runs v = true ∧ s.voices[v].prog.code[s.voices[v].pc]? = some w ∧ s.voices[v].cycles + n ≤ s.budget v

/-- The voice may go on at an instruction: its program has it, and no breakpoint stops the voice
there and no word of it is uncorrectable. -/
def State.goesOn (s : State) (v : VoiceId) (pc : Nat) : Prop :=
  pc < s.voices[v].prog.code.length ∧ (∀ e, s.voices[v].memErr = some e → e.idx ≠ pc) ∧
    (s.voices[v].entry = some .coda ∨ s.brkAt v pc = none)

/-- The host bus serves the writes of a context: Recall has ended and the context is open. -/
def State.serves (s : State) (c : CtxId) : Prop := s.busOn = true ∧ s.mayWrite c = true

/-- It serves those of a context that has the rights of SYS. -/
def State.servesSys (s : State) (c : CtxId) : Prop := s.serves c ∧ isSys c = true

/-- A rejected write of the register at `ofs`: REJ is set, and REJINFO holds the first rejected access. -/
def Rejected (c : CtxId) (ofs : Nat) (s t : State) : Prop :=
  t = { s with ctxs := t.ctxs, sec := t.sec } ∧ t.sec = { s.sec with accRej := t.sec.accRej } ∧
  (∀ d : CtxId, d ≠ c → t.ctxs[d] = s.ctxs[d]) ∧
  t.ctxs[c] = { s.ctxs[c] with rej := true, rejinfo := if s.ctxs[c].rej = true then s.ctxs[c].rejinfo
                                                       else some (BitVec.ofNat 8 (ofs / 2 % 128 + 128)) }

/-- A reset of the hub from a stage in which it runs: the stage, the cause, and what the reset leaves (R450 to
R454, R388, R614). Of the banks a journal in progress may have changed the inactive one, and a record of the hub's own a coda slot. -/
def ResetBy (cause : BitVec 4) (s t : State) : Prop :=
  t.start.stage = .held ∧ t.start.cause = cause ∧ t.start.recalled = false ∧ t.c = {} ∧ t.pending = s.pending ∧
  (s.wd.recDue = false → t.nv.mem = s.nv.mem) ∧ t.nv.bank s.nv.onB = s.nv.bank s.nv.onB ∧ t.nv.inst = s.nv.inst ∧
  (s.nv.port.asks .journal = false → t.nv.bankA = s.nv.bankA ∧ t.nv.bankB = s.nv.bankB ∧ t.nv.onB = s.nv.onB) ∧
  t.tiles = s.tiles ∧ t.wd.en = s.wd.en ∧ t.wd.per = s.wd.per ∧ t.wd.trap = false ∧ t.sec.codes = s.sec.codes ∧
  t.sec.admin = s.sec.admin ∧ t.sec.key = s.sec.key ∧ ∀ v : VoiceId, (t.voices[v]).active = false

/-- An event that reaches a context's queue. -/
def Posted (c : CtxId) (code a0 a1 : Word) (s t : State) : Prop :=
  t.ctxs[c] = (s.ctxs[c]).push ⟨code, a0, a1, s.c.mcount.setWidth 16⟩

/-- Of the retention memory, a coda slot begins as a record of chapter 15 does: MAGIC, FORMAT, the tag, CODASEQ. -/
def CodaHead (m : Memory) (k : Fin 4) (tag : Byte) (seq : BitVec 32) : Prop :=
  m.word (codaBase k) = 0xC0DA ∧ m.get (codaBase k + 2) = 0x01 ∧ m.get (codaBase k + 3) = tag ∧
  m.word32 (codaBase k + 4) = seq

/-- Nothing changes but one port. -/
def OnlyPort (p : PortId) (s t : State) : Prop := t = { s with ports := t.ports } ∧ ∀ q : PortId, q ≠ p → t.ports[q] = s.ports[q]

/-- Nothing changes but one port, and an event is posted to SYS. -/
def PortEvent (p : PortId) (code a1 : Word) (s t : State) : Prop :=
  t = { s with ports := t.ports, ctxs := t.ctxs, sysLog := t.sysLog } ∧ (∀ q : PortId, q ≠ p → t.ports[q] = s.ports[q]) ∧
  Posted ctxSYS code (BitVec.ofNat 16 p.val) a1 s t

/-- The port feeds no keeper and carries no Cabinet Link, and no channel captures its events. -/
def State.calm (s : State) (p : PortId) : Prop :=
  s.keeper.qual[p.val + 2] = false ∧ (s.link.active = false ∨ s.link.port ≠ p) ∧
  ∀ (n : TimerId) (k : Fin 3), (s.act.timers[n]).capsel ≠ portSrc p k

/-- The port takes an SOP packet with a MessageID that is not the stored one (R498, R504, R507). -/
def State.takes (s : State) (p : PortId) (m : PdHdr) : Prop :=
  let q := s.ports[p]
  q.pd.on = true ∧ (q.state = .source ∨ q.state = .sink) ∧ q.leaving = false ∧ q.pd.bist = .none ∧ m.sop = 0 ∧
  q.pd.seen = true ∧ q.pd.hr = .none ∧ q.pd.sops[0].rx ≠ some m.id

/-- Nothing changes but one port, and events of it are posted to SYS, each with its code and argument. -/
def PortEvents (p : PortId) (l : List (Word × Word)) (s t : State) : Prop :=
  t = { s with ports := t.ports, ctxs := t.ctxs, sysLog := t.sysLog } ∧ (∀ q : PortId, q ≠ p → t.ports[q] = s.ports[q]) ∧
  t.ctxs[ctxSYS] = l.foldl (fun x e => x.push ⟨e.1, BitVec.ofNat 16 p.val, e.2, s.c.mcount.setWidth 16⟩) s.ctxs[ctxSYS]

/-- The port has sent a Hard Reset, and its steps begin (R525, R526). -/
def HardSent (p : PortId) (s t : State) : Prop :=
  let q := s.ports[p]
  let src := q.state == .source
  let d : PdSt := q.pd.hardReset (if src then .srcWait else .snkWait)
  let e : PdSt := { d with hrcnt := q.pd.hrcnt + 1, out := some { msg := .hardReset } }
  t.ports[p] = { q with term := if src then .rp (s.act.ports[p]).rplvl else q.term, pd := e }

/-- What every step keeps: the retention memory is in its canonical form, and an event queue holds at most 32
entries, with a read position inside an entry (R576 to R578). -/
def State.sound (s : State) : Prop :=
  Memory.wf s.nv.mem = true ∧ ∀ c : CtxId, (s.ctxs[c]).queue.length ≤ 32 ∧ (s.ctxs[c]).pos ≤ 3

end Sys2Proof.Machine
end

