-- ==== Sys2Proof/Certificates/Slice0/Obligations.lean ====
section
/-! DEFINITION. The statements for the provers. -/

section
open Sys2Proof Sys2Proof.Machine

/-- A step runs the command at the front of the queue on the state with the queue's rest. -/
def Obligations.StepRunsFrontCommand : Prop :=
  ∀ (s : State) (i : Instr) (rest : List Instr),
    s.pending = i :: rest → step s = exec i { s with pending := rest }

/-- R80, R92, R93: what puts a tile into tile SAFE, and what holds there. Its door inputs, its bay masters, its
telemetry, its number and its settings stay as they were. -/
def Obligations.TileEntersTileSafe : Prop :=
  ∀ (s : State) (h : Shelf), s.tiles[h].inReset = false →
    let enters (i : Instr) (bad : Bool) : Prop := Answers i s (fun t =>
      OnlyTile h s t ∧ t.tiles[h].inSafe ∧
      t.tiles[h] = { s.tiles[h] with safe := true, adcfail := bad, chans := t.tiles[h].chans, tioIn := true,
                                     tioOut := t.tiles[h].tioOut, tioDrive := t.tiles[h].tioDrive } ∧
      ∀ p : Pos, (t.chan h p).door = (s.chan h p).door ∧ (t.chan h p).smb = (s.chan h p).smb)
    enters (.tileBeatTimeout h) s.tiles[h].adcfail ∧
    enters (.dieOvertemp h) s.tiles[h].adcfail ∧
    (s.tiles[h].refBad = 2 → enters (.adcReferenceFail h) true) ∧
    (s.tiles[h].clk = .holdover → enters (.clockHoldoverTimeout h) s.tiles[h].adcfail)

/-- R46, R47, R49, R154: a tile's clock recovery, and its ring bypass. -/
def Obligations.TileClockRecovery : Prop :=
  ∀ (s : State) (h : Shelf), s.tiles[h].inReset = false →
    let locks (i : Instr) : Prop := Answers i s (fun t =>
      t = { s with tiles := t.tiles, free := t.free } ∧ (∀ k : Shelf, k ≠ h → t.tiles[k] = s.tiles[k]) ∧
      t.tiles[h] = { s.tiles[h] with clk := .locked, lat := t.tiles[h].lat } ∧
      1792 ≤ t.tiles[h].lat ∧ t.tiles[h].lat ≤ 1920)
    (s.tiles[h].clk = .unlocked → locks (.tileClockLock h)) ∧
    (s.tiles[h].clk = .holdover → locks (.tileClockRelock h)) ∧
    (s.tiles[h].clk = .locked → Answers (.clockHoldoverEntry h) s (fun t =>
      OnlyTile h s t ∧
      t.tiles[h] = { s.tiles[h] with clk := .holdover, phaseOk := false, goodBeats := 0
                                     chans := t.tiles[h].chans } ∧
      ∀ p, t.chan h p = { s.chan h p with winDue := false, winOpen := none })) ∧
    (s.tiles[h].clk = .locked ∧ s.tiles[h].bypass = true ∧ 2 ≤ s.tiles[h].goodBeats →
      Answers (.bypassOpen h) s (fun t =>
        OnlyTile h s t ∧ t.tiles[h] = { s.tiles[h] with bypass := false }))

/-- R18, R79, R92, R151, R175: the beats of a tile. A received measure beat and a flywheel beat latch the telemetry,
with the means of the tick that ends, and count the measure; only the first counts towards the command timeout of
R92, for which a valid CMD frame heard since the last received beat is enough. -/
def Obligations.TileBeatsCountAndLatch : Prop :=
  ∀ (s : State) (h : Shelf) (o : TickObs), s.tiles[h].inReset = false →
    let means (u : Tile) : TileAdc := (u.convert o.samples).means u.adc
    let latched (t : State) (u : Tile) (fw : Bool) : Prop :=
      t.tiles[h].mcount = s.tiles[h].mcount + 1 ∧ t.tiles[h].tick = 0 ∧ t.tiles[h].adc = means u ∧
      t.tiles[h].number = s.tiles[h].number ∧ t.tiles[h].beatfw = fw ∧ t.tiles[h].latch.beatfw = fw ∧
      ∀ p : Pos, t.tiles[h].latch.bays[p].door = (s.chan h p).door ∧
        t.tiles[h].latch.bays[p].iout = (means u).bays[p].iout ∧
        t.tiles[h].latch.bays[p].edgeack = (s.chan h p).edgeSeq
    (s.tiles[h].clk = .locked → Answers (.tileMeasureBeat h o) s (fun t =>
      OnlyTile h s t ∧ latched t s.tiles[h].timeout false ∧
      t.tiles[h].noCmd = (if s.tiles[h].cmdHeard then 0 else min 3 (s.tiles[h].noCmd + 1)) ∧
      (s.tiles[h].cmdHeard = false ∧ s.tiles[h].noCmd = 2 → t.tiles[h].inSafe))) ∧
    (s.tiles[h].clk ≠ .unlocked → Answers (.flywheelBeat h o) s (fun t =>
      OnlyTile h s t ∧ latched t s.tiles[h] true ∧
      t.tiles[h].noCmd = s.tiles[h].noCmd ∧ t.tiles[h].cmdHeard = s.tiles[h].cmdHeard ∧
      t.tiles[h].safe = s.tiles[h].safe ∧ t.tiles[h].goodBeats = 0)) ∧
    (s.tiles[h].clk ≠ .unlocked → Answers (.tileTickBeat h o) s (fun t =>
      OnlyTile h s t ∧ t.tiles[h].tick = s.tiles[h].tick + 1 ∧ t.tiles[h].mcount = s.tiles[h].mcount ∧
      t.tiles[h].adc = means s.tiles[h] ∧ t.tiles[h].latch = s.tiles[h].latch ∧ t.tiles[h].safe = s.tiles[h].safe))

/-- R25, R66, R86, R94, R134: a numbered tile applies its block of the accepted CMD frame at the beat of tick 1. A
record with a reserved encoding is discarded with CMDREJ, in tile SAFE too; an UNLOCK PULSE is applied once per edge
sequence number, and SAFEXIT ends tile SAFE. -/
def Obligations.TileAppliesCmdFrame : Prop :=
  ∀ (s : State) (h : Shelf) (f : CmdFrame) (k : TileNo), s.tiles[h].inReset = false →
    (s.tiles[h].accepted = none ∨ s.tiles[h].tick ≠ 1 → exec (.tileApplyCmd h) s = .next s) ∧
    (s.tiles[h].accepted = some f → s.tiles[h].tick = 1 → s.tiles[h].number = some k → k.val < f.ntiles →
     (f.blocks[k].tflags.setWidth 7 : BitVec 7) = 0 → f.epoch = s.tiles[h].epoch → s.tiles[h].pendEpoch ≠ some f.epoch →
      (s.tiles[h].safe = false → Answers (.tileApplyCmd h) s (fun t =>
        OnlyTile h s t ∧ t.tiles[h].accepted = none ∧ t.tiles[h].mcount = f.mcount ∧ t.tiles[h].safe = false ∧
        ∀ p : Pos, let r := f.blocks[k].recs[p]
          if r.reserved s.tiles[h].period then t.chan h p = { s.chan h p with cmdrej := true }
          else (t.chan h p).order = r ∧ (t.chan h p).edgeSeq = r.edgeseq ∧ (t.chan h p).cmdrej = false ∧
            (r.mode = 0 → (t.chan h p).isOff) ∧
            (r.lock = 0 → (t.chan h p).unlocked = false ∧ (t.chan h p).pulseLeft = none) ∧
            (r.lock = 1 → (t.chan h p).unlocked = true ∧ (t.chan h p).pulseLeft = none) ∧
            (r.lock = 2 → r.edgeseq = (s.chan h p).edgeSeq →
              (t.chan h p).unlocked = (s.chan h p).unlocked ∧ (t.chan h p).pulseLeft = (s.chan h p).pulseLeft) ∧
            (r.lock = 2 → r.edgeseq ≠ (s.chan h p).edgeSeq →
              (t.chan h p).unlocked = true ∧ (t.chan h p).pulseLeft = some r.lkpulse.toNat))) ∧
      (s.tiles[h].safe = true → s.tiles[h].adcfail = false → s.tiles[h].dieHot = false ∨ s.tiles[h].adc.die < 180 * 64 →
        Answers (.tileApplyCmd h) s (fun t =>
          OnlyTile h s t ∧ t.tiles[h].safe = !f.blocks[k].tflags.getLsbD 7)) ∧
      (s.tiles[h].safe = true → f.blocks[k].tflags.getLsbD 7 = false → Answers (.tileApplyCmd h) s (fun t =>
        OnlyTile h s t ∧ t.tiles[h].safe = true ∧ ∀ p : Pos, t.chan h p = { s.chan h p with
          cmdrej := f.blocks[k].recs[p].reserved s.tiles[h].period })))

/-- R75, R82, R90, R92, R153, R171: a tile in reset, and its release. -/
def Obligations.TileResetAndRelease : Prop :=
  ∀ (s : State) (h : Shelf),
    Answers (.tileReset h) s (fun t =>
      OnlyTile h s t ∧ t.tiles[h].inReset = true ∧ t.tiles[h].bypass = true ∧ t.tiles[h].number = none ∧
      t.tiles[h].epoch = 0 ∧ t.tiles[h].active = {} ∧ t.tiles[h].staged = {} ∧
      t.tiles[h].uid = s.tiles[h].uid ∧ t.tiles[h].lksafePin = s.tiles[h].lksafePin ∧
      ∀ p : Pos, (t.chan h p).isOff ∧ (t.chan h p).att = 0) ∧
    (s.tiles[h].inReset = true → s.mode.tilepwr = true → Answers (.tileResetRelease h) s (fun t =>
      OnlyTile h s t ∧ t.tiles[h].inReset = false ∧ t.tiles[h].safe = true ∧ t.tiles[h].number = none ∧
      t.tiles[h].lksafe = s.tiles[h].lksafePin ∧ t.tiles[h].bypass = s.tiles[h].bypass ∧
      ∀ p : Pos, t.chan h p = { s.chan h p with lockDrv := if s.tiles[h].lksafePin then .full else .off })) ∧
    (s.mode.tilepwr = false → exec (.tileResetRelease h) s = .next s)

/-- R91, R140, R141: a tile acts on a valid SHED set for the bays that it names, and on no other. A shed is not a
failed attempt. -/
def Obligations.ShedStopsNamedBays : Prop :=
  ∀ (s : State) (h : Shelf) (x : ShedSet), s.tiles[h].inReset = false →
    Answers (.tileShed h x) s (fun t =>
      OnlyTile h s t ∧ t.tiles[h] = { s.tiles[h] with chans := t.tiles[h].chans } ∧
      ∀ p : Pos,
        if x.valid = true ∧ (x.d1 = 0xFF ∨ ∃ k : TileNo, s.tiles[h].number = some k ∧ x.d1.toNat = k.val ∧
            (x.d2.extractLsb' 4 4).getLsbD p.val = true)
        then (t.chan h p).isOff ∧ (t.chan h p).shedS.isSome = true ∧ (t.chan h p).att = (s.chan h p).att ∧
          (t.chan h p).order = (s.chan h p).order ∧ (t.chan h p).retryWait = false
        else t.chan h p = s.chan h p)

/-- R67, R68, R95, R200, R258: a pulse start and a rest of one channel. The settings of Table BT-5 take effect at the
pulse start, and the rest's means are those of the samples that its window has taken. -/
def Obligations.PulseAndRestOfChannel : Prop :=
  ∀ (s : State) (h : Shelf) (p : Pos) (vin vout iout : Nat) (x : List (BitVec 14)), s.tiles[h].inReset = false →
    let c := s.chan h p
    let g := s.tiles[h].active
    let r := s.tiles[h].convert x
    let v := c.winV.join r.winV[p]
    let n := c.winN.join r.winN[p]
    let starts (P : Chan → Prop) : Prop := Answers (.pulseStart h p vin vout) s (fun t => OnlyTile h s t ∧
      t.tiles[h] = { s.tiles[h] with chans := t.tiles[h].chans, tioUse := g.tiocfg, tioOut := t.tiles[h].tioOut,
                                     tioDrive := t.tiles[h].tioDrive } ∧
      (∀ q : Pos, q ≠ p → t.chan h q = s.chan h q) ∧
      (t.chan h p).use.ramp = g.bays[p].ramp ∧ (t.chan h p).use.plt = g.bays[p].plt ∧
      (t.chan h p).use.lkhold = g.bays[p].lkhold ∧ P (t.chan h p))
    ((s.tiles[h].safe = false ∧ s.tiles[h].vinlow = false ∧ s.tiles[h].vinov = false ∧ c.mayStart = true) →
      (vout < 160 → starts (fun d => d.isOff ∧ d.preshort = true ∧ d.att = min 3 (c.att + 1) ∧
        (c.att = 2 → d.oclock = true))) ∧
      (160 ≤ vout → starts (fun d => d.pulsing = true ∧ d.isocl = true ∧ d.preshort = false ∧
        d.vStart = vout ∧ d.att = c.att ∧ d.plt = 0 ∧ d.limitMa = 0))) ∧
    (s.tiles[h].safe = false ∧ c.restIn = some 0 ∧ c.order.mode = 1 ∧ c.shedS = none →
      Answers (.restStart h p iout) s (fun t => OnlyChan h p s t ∧
        (t.chan h p).isOff ∧ (t.chan h p).rest = some g.bays[p].restlen.toNat ∧
        (t.chan h p).winDue = true ∧ (t.chan h p).winOpen = some (rampDown iout + 12000) ∧
        (t.chan h p).restIn = none ∧ (t.chan h p).att = c.att)) ∧
    (c.winDue = true ∧ (∀ o, c.winOpen = some o → o + 4000 ≤ (x.length : Int)) →
      Answers (.restWindowClose h p x) s (fun t => OnlyChan h p s t ∧
        t.chan h p = { c with winDue := false, winV := v, winN := n,
                              restMean := if v.cnt = 0 ∨ n.cnt = 0 then none else some (v.mean, n.mean) }))

/-- R69 to R77: a channel's protections, its limit condition, its attempt counter, and the foldback limit. -/
def Obligations.ChannelProtections : Prop :=
  ∀ (s : State) (h : Shelf) (p : Pos) (tj vin vout : Nat) (o : OutSample) (l : List OutSample),
    s.tiles[h].inReset = false →
    let c := s.chan h p
    let off := { c with pulsing := false, isocl := false, dropout := false, plt := 0, pltGap := 0, clean := 0 }
    let fails (i : Instr) : Prop := Answers i s (fun t => OnlyChan h p s t ∧
      t.chan h p = { off with att := min 3 (c.att + 1), oclock := c.oclock || min 3 (c.att + 1) == 3,
                              retryWait := decide (c.att + 1 < 3) && c.order.mode == 1, retryTicks := 0 })
    let limit := min 21000 (5 * (10 * c.order.iset.toNat) + 1000) ≤ 4 * o.peak ∨ 2 * o.vout < c.vStart ∨
      (o.vout < 160 ∧ 50 ≤ min o.iout (min c.isetLim (min (20 * c.order.iset.toNat) (c.rampI + o.us * 2 ^ c.use.ramp.toNat) / 2)))
    (c.pulsing = true →
      Answers (.outputOvervoltage h p) s (fun t => OnlyChan h p s t ∧ t.chan h p = { off with ovp := true }) ∧
      fails (.outputFastTrip h p) ∧
      (limit ∧ 500 * c.use.plt.toNat ≤ c.plt + o.us → fails (.pltExpire h p [o])) ∧
      (¬ limit ∧ 0 < c.use.plt.toNat ∧ 100 ≤ o.us → exec (.pltExpire h p [o]) s = .next s) ∧
      (¬ limit ∧ 100000 ≤ c.clean + o.us → Answers (.attemptCounterClear h p [o]) s (fun t =>
        OnlyChan h p s t ∧ t.chan h p = { c with att := 0 }))) ∧
    ((c.seeOuts l).pltDone = true → fails (.pltExpire h p l)) ∧
    (c.retryWait = true ∧ c.order.mode = 1 ∧ 990 ≤ c.retryTicks →
      (c.rest.isSome = true → Answers (.attemptRetry h p vin vout) s (fun t => OnlyChan h p s t ∧
        t.chan h p = { c with retryWait := false, retryDue := true })) ∧
      (c.rest = none ∧ s.tiles[h].buckOk = true ∧ ({ c with retryWait := false } : Chan).mayStart = true ∧ 160 ≤ vout →
        Answers (.attemptRetry h p vin vout) s (fun t => OnlyTile h s t ∧ (t.chan h p).pulsing = true ∧
          (t.chan h p).att = c.att ∧ (t.chan h p).retryWait = false ∧ ∀ q : Pos, q ≠ p → t.chan h q = s.chan h q))) ∧
    Answers (.thermalStop h p) s (fun t => OnlyChan h p s t ∧ t.chan h p = { off with therm := true }) ∧
    (c.therm = true → Answers (.thermalRecover h p) s (fun t => OnlyChan h p s t ∧
      t.chan h p = { c with therm := false })) ∧
    Answers (.junctionFoldback h p tj) s (fun t => OnlyChan h p s t ∧
      (tj ≤ 175 * 64 → (t.chan h p).isetLim = 10 * c.order.iset.toNat ∧ (t.chan h p).fold = false) ∧
      (190 * 64 ≤ tj → (t.chan h p).isetLim = 0) ∧
      (t.chan h p).isetLim ≤ 10 * c.order.iset.toNat ∧
      ((t.chan h p).fold = true ↔ (t.chan h p).isetLim < 10 * c.order.iset.toNat))

/-- R81, R84, R85, R86, R99, R101: a bay's door, lock, lamps, reverse polarity and probe. -/
def Obligations.BayInputsAndDrivers : Prop :=
  ∀ (s : State) (h : Shelf) (p : Pos) (b : Bool) (us r : Nat), s.tiles[h].inReset = false →
    let c := s.chan h p
    (c.door ≠ b → Answers (.doorEdgeAccept h p b us) s (fun t => OnlyChan h p s t ∧
      t.chan h p = { c with door := b, dcnt := min 3 (c.dcnt + 1), doorDue := true, doorTick := s.tiles[h].tick,
                              doorUs := us })) ∧
    (c.lockDrv = .full ∧ 200 ≤ c.lockTicks → Answers (.lockHoldStart h p) s (fun t => OnlyChan h p s t ∧
      t.chan h p = { c with lockDrv := .hold (lkholdPct c.use.lkhold) })) ∧
    (c.lockDrv ≠ .off → Answers (.lockOvercurrent h p) s (fun t => OnlyChan h p s t ∧
      t.chan h p = { c with lockDrv := .off, lkshort := true })) ∧
    (c.lockDrv = .off → Answers (.lkopenChange h p b) s (fun t => OnlyChan h p s t ∧
      t.chan h p = { c with lkopen := b })) ∧
    (c.lampAOn = true → Answers (.lampOvercurrent h p false) s (fun t => OnlyChan h p s t ∧
      t.chan h p = { c with lampAOn := false, lampfltA := true })) ∧
    (c.lampBOn = true → Answers (.lampOvercurrent h p true) s (fun t => OnlyChan h p s t ∧
      t.chan h p = { c with lampBOn := false, lampfltB := true })) ∧
    (c.pulseLeft = some 0 → Answers (.unlockPulseEnd h p) s (fun t => OnlyChan h p s t ∧
      (t.chan h p).unlocked = false ∧ (t.chan h p).pulseLeft = none ∧ (t.chan h p).order = c.order ∧
      (t.chan h p).pulsing = c.pulsing)) ∧
    Answers (.revpolSet h p) s (fun t => OnlyChan h p s t ∧ (t.chan h p).isOff ∧ (t.chan h p).revpol = true ∧
      (t.chan h p).probing = false ∧ (c.probing = true → (t.chan h p).proberes = 3) ∧ (t.chan h p).att = c.att) ∧
    (c.revpol = true → Answers (.revpolClear h p) s (fun t => OnlyChan h p s t ∧
      t.chan h p = { c with revpol := false })) ∧
    (c.probing = true →
      Answers (.probeEnd h p none) s (fun t => OnlyChan h p s t ∧
        t.chan h p = { c with probing := false, proberes := 2 }) ∧
      Answers (.probeEnd h p (some r)) s (fun t => OnlyChan h p s t ∧
        t.chan h p = { c with probing := false, proberes := 1, probeRise := r, probetDue := true }))

/-- R87, R88: VIN stops and releases the bucks of a tile and leaves its attempt counters; a TIO edge is kept for
the next latch, and a debounced pin takes it after eight samples. -/
def Obligations.TileSupplyAndTio : Prop :=
  ∀ (s : State) (h : Shelf) (k : Fin 4) (lev : Bool) (n : Nat), s.tiles[h].inReset = false →
    let stops (i : Instr) (low ov : Bool) : Prop := Answers i s (fun t => OnlyTile h s t ∧
      t.tiles[h] = { s.tiles[h] with vinlow := low, vinov := ov, chans := t.tiles[h].chans } ∧
      ∀ p : Pos, t.chan h p =
        { s.chan h p with pulsing := false, isocl := false, dropout := false, plt := 0, pltGap := 0, clean := 0 })
    stops (.vinUndervoltage h) true s.tiles[h].vinov ∧ stops (.vinOvervoltage h) s.tiles[h].vinlow true ∧
    Answers (.vinRecover h) s (fun t => OnlyTile h s t ∧ t.tiles[h] = { s.tiles[h] with vinlow := false }) ∧
    Answers (.vinOvClear h) s (fun t => OnlyTile h s t ∧ t.tiles[h] = { s.tiles[h] with vinov := false }) ∧
    (s.tiles[h].tioLevel[k] ≠ lev ∧ (if s.tiles[h].tioUse.getLsbD (3 * k.val + 2) then 8 else 1) ≤ n →
      Answers (.tioEdgeAccept h k lev n) s (fun t => OnlyTile h s t ∧
      t.tiles[h] = { s.tiles[h] with tioLevel := s.tiles[h].tioLevel.set k lev,
                                     tioEdge := s.tiles[h].tioEdge.set k true }))

/-- R107, R108, R110, R111, R113, R114, R115, R117, R265: what a bay master does when it is idle, when a poll read
ends, when a transaction fails or loses arbitration, and when a pack sends an alarm. A loopback lost to arbitration
counts neither as a pass nor as a failure, and a third loopback failure in a row sets SMBFLT. With PECEN = 1 a wrong
PEC counts as a NACK; the PEC itself is the model's from SMBus (PRESUMED, log entry 81). -/
def Obligations.BayMasterTransactions : Prop :=
  ∀ (s : State) (h : Shelf) (p : Pos) (i : Fin 7) (k : Nat) (w : Word) (j : SmbJob) (msg : PackMsg) (pec : Byte),
    s.tiles[h].inReset = false →
    let m := (s.chan h p).smb
    let g := (s.chan h p).use
    let free := m.recoverDue = false ∧ m.readAfter = false ∧ m.mailbox = none ∧ m.identNext = none ∧ m.identOn = false
    let leads (c : Instr) (P : BayMaster → Prop) : Prop := Answers c s (fun t => MasterTo h p s t P)
    (g.smben = true ∧ m.idDone = true ∧ m.pollNext = none ∧ m.pollTicks = 0 ∧ m.cur = none ∧ m.waiting = [] ∧ free →
      leads (.smbPollRound h p) (fun n => n = { m with
        pollNext := some 1, pollTicks := 125 * 2 ^ g.pollper.toNat, cur := some { tx := .poll 0 } })) ∧
    (m.cur = some j ∧ j.tx = .poll i →
      (g.pecen = false → leads (.smbTransactionEnd h p (.ok w [] pec)) (fun n =>
        n.words[i] = w ∧ n.wordNew[i] = true ∧ n.nackRun = 0 ∧ n.nack3 = false ∧ n.ident = m.ident ∧
        n.mailbox = m.mailbox ∧
        (free ∧ m.waiting = [] → ∀ a : Fin 7, m.pollNext = some ⟨a.val, by omega⟩ →
          n.cur = some { tx := .poll a } ∧ n.pollNext = some ⟨a.val + 1, by omega⟩))) ∧
      (∀ r, r = .nack ∨ (r = .ok w [] pec ∧ g.pecen = true ∧
          crc8 [0x16, pollCode i, 0x17, w.extractLsb' 0 8, w.extractLsb' 8 8] ≠ pec) →
        (j.nackTried = false → leads (.smbTransactionEnd h p r) (fun n =>
          ({ j with nackTried := true }, SmbWait.nack) ∈ n.waiting ∧ n.words = m.words ∧ n.nackRun = m.nackRun)) ∧
        (j.nackTried = true → leads (.smbTransactionEnd h p r) (fun n =>
          n.nackRun = min 3 (m.nackRun + 1) ∧ n.words = m.words ∧ (m.nackRun = 2 → n.nack3 = true)))) ∧
      (packWins [0x16] msg.bytes = true →
        (j.arbTries < 3 → leads (.smbArbitrationLost h p msg) (fun n =>
          ({ j with arbTries := j.arbTries + 1 }, SmbWait.bus) ∈ n.waiting ∧ n.words = m.words ∧ n.arbloss = m.arbloss)) ∧
        (3 ≤ j.arbTries → leads (.smbArbitrationLost h p msg) (fun n =>
          n.arbloss = min 15 (m.arbloss + 1) ∧ n.words = m.words ∧ ∀ x ∈ n.waiting, x ∈ m.waiting)) ∧
        (msg = .hostNotify 0x16 w none → leads (.smbArbitrationLost h p msg) (fun n =>
          n.alarms[(0 : Fin 3)] = w ∧ n.alarmNew[(0 : Fin 3)] = true))) ∧
      leads (.smbClockTimeout h p) (fun n => n.smbto = true ∧ n.words = m.words ∧ ∀ x ∈ n.waiting, x ∈ m.waiting)) ∧
    (m.cur = some j ∧ j.tx = .loopback →
      (packWins ([0x10, 0x16] ++ [m.words[(0 : Fin 7)].extractLsb' 0 8, m.words[(0 : Fin 7)].extractLsb' 8 8]) msg.bytes = true →
        leads (.smbArbitrationLost h p msg) (fun n =>
          n.lbFails = m.lbFails ∧ n.lbPasses = m.lbPasses ∧ n.smbflt = m.smbflt ∧ ∀ x ∈ n.waiting, x ∈ m.waiting)) ∧
      leads (.smbTransactionEnd h p (.ok w [] pec)) (fun n =>
        n.lbPasses = min 3 (m.lbPasses + 1) ∧ n.lbFails = 0 ∧ (m.lbPasses = 2 → n.smbflt = false)) ∧
      leads (.smbTransactionEnd h p .loopDiffers) (fun n =>
        n.lbFails = min 3 (m.lbFails + 1) ∧ n.lbPasses = 0 ∧ (m.lbFails = 2 → n.smbflt = true) ∧
        (m.lbFails < 2 → n.smbflt = m.smbflt) ∧ (m.recoverDue = false → n.cur = some { tx := .statusAfterLoop }))) ∧
    (m.waitOf k = some .nack → leads (.smbNackRetry h p k) (fun n => n.words = m.words ∧ n.nackRun = m.nackRun)) ∧
    (m.waitOf k = some .bus → leads (.smbArbitrationRetry h p k) (fun n => n.words = m.words ∧ n.nackRun = m.nackRun)) ∧
    (free ∧ m.cur = none →
      (m.waiting = [(j, .nack)] → leads (.smbNackRetry h p 0) (fun n => n = { m with waiting := [], cur := some j })) ∧
      (m.waiting = [(j, .bus)] → leads (.smbArbitrationRetry h p 0) (fun n => n = { m with waiting := [], cur := some j }))) ∧
    leads (.smbAlarmReceive h p (.hostNotify 0x16 w none)) (fun n =>
      n.alarms[(0 : Fin 3)] = w ∧ n.alarmNew[(0 : Fin 3)] = true ∧ n.almcnt = min 15 (m.almcnt + 1) ∧ n.cur = m.cur) ∧
    (m.cur = none → leads (.smbDataStuck h p) (fun n =>
      n.smbstuck = true ∧ n.cur = some { tx := .recovery } ∧ n.words = m.words))

/-- R92, R120, R124, R125, R130, R131, R135: the CMD frame on the ring. A tile that no damage reaches accepts the first
valid copy and changes nothing on a further one; a copy that arrives with an ERR is not received. The hub notes the
returned copy, or makes the repeat copy due, and sends that once, before the beat of tick 1. -/
def Obligations.CmdFrameOnTheRing : Prop :=
  ∀ (s : State) (h : Shelf) (f : CmdFrame) (seg : Fin 33) (pos : Nat) (got : Option Byte), s.ring.cmd = some f →
    (s.tiles[h].inReset = false ∧ s.tiles[h].clk ≠ .unlocked →
      ((∀ x ∈ s.ring.cmdHits, h.val < x.seg) →
        (s.tiles[h].cmdok = false → Answers (.cmdFrameReceive h) s (fun t => OnlyTile h s t ∧
          t.tiles[h] = { s.tiles[h] with rxCmd := none, cmdHeard := true, accepted := some f, ackseq := f.seq,
                                         cmdok := true })) ∧
        (s.tiles[h].cmdok = true → Answers (.cmdFrameReceive h) s (fun t => OnlyTile h s t ∧
          t.tiles[h] = { s.tiles[h] with rxCmd := none, cmdHeard := true }))) ∧
      (s.ring.cmdHits = [⟨seg.val, pos, none⟩] ∧ seg.val ≤ h.val ∧ pos < f.bytes.length →
        Answers (.cmdFrameReceive h) s (fun t => OnlyTile h s t ∧
          t.tiles[h] = { s.tiles[h] with rxCmd := none }))) ∧
    Answers (.symbolError seg .cmd pos got) s (fun t =>
      t = { s with ring := { s.ring with cmdHits := s.ring.cmdHits ++ [⟨seg.val, pos, got⟩] } }) ∧
    (s.ring.rptSent = false →
      (s.ring.cmdHits = [] → Answers .cmdFrameReturn s (fun t =>
        t = { s with ring := { s.ring with cmdBack := true } })) ∧
      (s.act.ring.rpten = true ∧ s.ring.cmdHits = [⟨seg.val, pos, none⟩] ∧ pos < f.bytes.length →
        Answers .cmdFrameReturn s (fun t => t = { s with ring := { s.ring with rptDue := true } })) ∧
      (s.act.ring.rpten = true ∧ s.ring.cmdBack = false → Answers .cmdReturnTimeout s (fun t =>
        t = { s with ring := { s.ring with rptDue := true } })) ∧
      (s.ring.rptDue = true ∧ s.clk.tick = 0 → Answers .repeatCopySend s (fun t =>
        t = { s with tiles := t.tiles, ring := { s.ring with cmd := some { f with rpt := true }, cmdHits := [],
                                                             rptDue := false, rptSent := true } } ∧
        ∀ j : Shelf, t.tiles[j] = (if s.tiles[j].inReset = false ∧ s.tiles[j].clk ≠ .unlocked then
          { s.tiles[j] with rxCmd := some f.seq } else s.tiles[j]))))

/-- R93, R137, R146, R174: what a numbered tile writes into the TEL frame and into the ECHO frame. A tile whose slot
is already filled becomes unnumbered; in tile SAFE the slot carries SAFE = 1. -/
def Obligations.TileFillsSlotAndEcho : Prop :=
  ∀ (s : State) (h : Shelf) (f : CmdFrame) (k : TileNo) (e : Vector (Option Nat) 24),
    s.tiles[h].inReset = false → s.tiles[h].clk ≠ .unlocked → s.tiles[h].bypass = false →
    s.tiles[h].number = some k →
    (s.ring.cmd = some f ∧ k.val < f.ntiles ∧ s.ring.telHead = [] ∧ s.ring.telHits[k] = [] →
      (s.ring.tel[k] = none → Answers (.telSlotWrite h) s (fun t =>
        t = { s with tiles := t.tiles, ring := t.ring } ∧ t.ring = { s.ring with tel := t.ring.tel } ∧
        (∀ j : Shelf, j ≠ h → t.tiles[j] = s.tiles[j]) ∧
        t.tiles[h] = { s.tiles[h] with telSeen := true, telTop := t.tiles[h].telTop } ∧
        (∀ j : TileNo, j ≠ k → t.ring.tel[j] = s.ring.tel[j]) ∧
        ∃ x, t.ring.tel[k] = some x ∧ x.tileno = k.val ∧ (s.tiles[h].safe = true → x.safe = true) ∧
          (s.tiles[h].safe = false → x.safe = s.tiles[h].latch.safe) ∧ x.cmdok = s.tiles[h].cmdok ∧
          x.ackseq = s.tiles[h].ackseq ∧ x.epochlo = s.tiles[h].latch.epochlo ∧
          x.bays = s.tiles[h].latch.bays ∧ x.beatfw = s.tiles[h].latch.beatfw)) ∧
      (s.ring.tel[k] ≠ none → Answers (.telSlotWrite h) s (fun t => OnlyTile h s t ∧
        t.tiles[h].number = none ∧ t.tiles[h].inSafe))) ∧
    (s.ring.echo = some e ∧ k.val < s.ntiles ∧ s.ring.echoHead = [] ∧ s.ring.echoHits[k] = [] →
      Answers (.echoFrameWrite h) s (fun t =>
        t = { s with ring := { s.ring with echo := some (e.set k (some s.tiles[h].lat)) } }))

/-- R124, R144, R145, R155, R156, R171: a tile's answers to service frames and to join polls. A write with the SSEQ that
the tile completed last does not write again; a frame whose address arrives wrong, so that its header CRC fails, is
answered 0x03 (the answer the spec gives a failed CRC; that it holds for the header's is DEDUCED, log entry 92). -/
def Obligations.TileAnswersServiceFrames : Prop :=
  ∀ (s : State) (h : Shelf) (x : SvcRun) (k : TileNo) (a b : Byte) (seg : Fin 32),
    s.tiles[h].inReset = false → s.tiles[h].clk ≠ .unlocked → s.tiles[h].bypass = false →
    let answered (i : Instr) (st : BitVec 8) (d : List Byte) : Prop := Answers i s (fun t =>
      t = { s with ring := { s.ring with svc := some { x with
        frame := { x.frame with status := st, data := d }, hits := [] } } })
    (s.ring.poll = none ∧ s.ring.svc = some x ∧ s.ring.svcLive = true ∧ s.tiles[h].number = some x.frame.tile ∧
      x.frame.status = 0 ∧ x.hits = [] →
      (x.frame.write = true →
        (x.frame.addr ≠ 0 ∧ s.tiles[h].lastSseq = some x.frame.sseq →
          answered (.svcWrite h) 0x01 x.frame.data) ∧
        (x.frame.addr = 0x0002 ∧ x.frame.data = [a, b] ∧ s.tiles[h].lastSseq ≠ some x.frame.sseq →
          Answers (.svcWrite h) s (fun t =>
            t.tiles[h] = { s.tiles[h] with pendEpoch := some (a ++ b), lastSseq := some x.frame.sseq } ∧
            (∀ j : Shelf, j ≠ h → t.tiles[j] = s.tiles[j]) ∧
            t.ring.svc = some { x with frame := { x.frame with status := 0x01 } } ∧
            t = { s with tiles := t.tiles, ring := { s.ring with svc := t.ring.svc } })) ∧
        (x.frame.addr = 0x0003 ∧ s.tiles[h].lastSseq ≠ some x.frame.sseq →
          answered (.svcWrite h) 0x02 x.frame.data)) ∧
      (x.frame.write = false ∧ x.frame.addr = 0x0004 ∧ x.frame.len = 2 →
        answered (.svcRead h) 0x01 [s.tiles[h].epoch.extractLsb' 8 8, s.tiles[h].epoch.extractLsb' 0 8])) ∧
    (s.ring.poll = none ∧ s.ring.svc = some x ∧ s.ring.svcLive = true ∧ s.tiles[h].number = some x.frame.tile ∧
      x.frame = { sseq := 1, tile := 0, write := true, addr := 0x0020, len := 2, data := [0x12, 0x34], status := 0 } ∧
      x.hits = [⟨seg.val, 5, some 0x21⟩] ∧ seg.val ≤ h.val →
      Answers (.svcWrite h) s (fun t => t = { s with ring := { s.ring with svc := t.ring.svc } } ∧
        ∃ y, t.ring.svc = some y ∧ y.frame.status = 0x03 ∧ y.frame.data = [0x12, 0x34])) ∧
    (s.ring.poll = some k ∧ s.ring.pollHits = [] ∧ s.ring.pollStat = 0 ∧ s.tiles[h].number = none →
      ((∀ n, s.tiles[h].telTop = some n → n < k.val) → Answers (.svcWrite h) s (fun t =>
        t = { s with tiles := t.tiles, ring := { s.ring with pollStat := 0x01 } } ∧
        (∀ j : Shelf, j ≠ h → t.tiles[j] = s.tiles[j]) ∧
        t.tiles[h] = { s.tiles[h] with number := some k, numBeat := false, held := false })) ∧
      ((∃ n, s.tiles[h].telTop = some n ∧ k.val ≤ n) → Answers (.svcWrite h) s (fun t =>
        t = { s with ring := { s.ring with pollStat := 0x04 } })))

/-- R142, R455: a SHED set that comes back right is no longer outstanding; one that does not is sent once more, and then
SHEDFAIL is posted. In Tacet, where the ring does not run yet, nothing follows (DEDUCED from R455, log entry 93). -/
def Obligations.ShedSetsAreWatched : Prop :=
  ∀ (s : State) (x : ShedOut) (rest : List ShedOut) (got : ShedSet), s.ring.sheds = x :: rest →
    (got = x.set → Answers (.shedSetReturn got) s (fun t => t = { s with ring := { s.ring with sheds := rest } })) ∧
    ∀ i, i = .shedReturnTimeout ∨ (i = .shedSetReturn got ∧ got ≠ x.set) →
      (s.ring.running = true ∧ x.again = false → Answers i s (fun t =>
        t = { s with ring := { s.ring with sheds := rest ++ [{ set := x.set, again := true }] } })) ∧
      (s.ring.running = true ∧ x.again = true → Answers i s (fun t =>
        t = State.post { s with ring := { s.ring with sheds := rest } } 0x3003 x.set.d1.toNat x.set.d2.toNat)) ∧
      (s.ring.running = false → Answers i s (fun t => t = { s with ring := { s.ring with sheds := rest } }))

/-- R144, R145, R148: the hub's service frames. A job's frame goes out in the caesura with the next SSEQ; a frame
without an answer, or damaged, is sent again with the same SSEQ at most three times, not before the next measure beat. -/
def Obligations.HubServiceFrames : Prop :=
  ∀ (s : State) (x : SvcRun) (t0 : TileNo) (pos : Nat), s.ring.poll = none →
    (s.running = true ∧ s.pipe.haulDone = true ∧ s.nv.snap = none ∧ s.ring.svcLive = false →
      (∀ j, s.ring.svc = none → s.nextJob = some j → Answers .svcSend s (fun t =>
        t = { s with ring := { s.ring with svc := t.ring.svc, svcLive := true, sseq := s.ring.sseq + 1 } } ∧
        ∃ y, t.ring.svc = some y ∧ y.job = j ∧ y.frame.sseq = s.ring.sseq + 1 ∧ y.frame.status = 0)) ∧
      (s.ring.svc = some x ∧ x.back = true ∧ x.wait = false → Answers .svcSend s (fun t =>
        t = { s with ring := { s.ring with svc := t.ring.svc, svcLive := true } } ∧
        ∃ y, t.ring.svc = some y ∧ y.job = x.job ∧ y.frame.sseq = x.frame.sseq ∧ y.tries = x.tries))) ∧
    (s.ring.svc = some x ∧ s.ring.svcLive = true ∧ x.job = .dly t0 →
      (x.frame.status = 0x01 ∧ x.hits = [] → Answers .svcFrameReturn s (fun t =>
        t.ring = { s.ring with svc := none, svcLive := false } ∧ t.hub[t0].dlyDue = false ∧
        t = { s with ring := t.ring, hub := t.hub } ∧ ∀ j : TileNo, j ≠ t0 → t.hub[j] = s.hub[j])) ∧
      (∀ i, i = .svcReturnTimeout ∨ i = .svcFrameReturn ∧
          ((x.hits = [] ∧ (x.frame.status = 0x00 ∨ x.frame.status = 0x03)) ∨
            (x.hits = [⟨32, pos, none⟩] ∧ pos < x.frame.bytes.length)) →
        (x.tries < 4 → Answers i s (fun t =>
          t = { s with ring := { s.ring with svcLive := false, svc := t.ring.svc } } ∧
          ∃ y, t.ring.svc = some y ∧ y.job = x.job ∧ y.frame.sseq = x.frame.sseq ∧ y.back = true ∧ y.wait = true ∧
            y.tries = x.tries + 1)) ∧
        (4 ≤ x.tries → Answers i s (fun t => t.ring.svc = none ∧ t.ring.svcLive = false ∧
          t.ctxs = (s.post 0x4007 x.frame.tile.val x.frame.sseq.toNat).ctxs))))

/-- R146, R148, R155, R157, R158, R160, R164, R168: the ECHO frame, the join poll of Muster, the full enumeration and
the end of a rejoin timer. An ECHO frame that returns, or that is lost with its header, is on the ring no more; one
that returns right brings the latency of each number below NTILES. -/
def Obligations.RingMembershipCommands : Prop :=
  ∀ (s : State) (k : TileNo) (rest : List TileNo) (trip lat : Nat) (e : Vector (Option Nat) 24),
    (s.running = true ∧ s.pipe.haulDone = true ∧ s.nv.snap = none →
      (s.ring.echo = none ∧ (s.ring.echoDue = true ∨ s.c.mcount.toNat % (16 * 4 ^ s.act.ring.echoper.toNat) = 0) →
        Answers .echoSend s (fun t => t = { s with ring := { s.ring with
          echo := some (Vector.replicate 24 none), echoHead := [], echoHits := Vector.replicate 24 [],
          echoSeq := s.ring.echoSeq + 1, echoDue := false } })) ∧
      (s.ring.svcLive = false ∧ s.ring.poll = none ∧ s.ring.enum_ = none ∧ s.ring.mustPoll = k :: rest ∧
        s.start.stage = .muster → Answers .joinPollSend s (fun t => t = { s with ring := { s.ring with
          mustPoll := rest, poll := some k, pollStat := 0, pollHits := [] } }))) ∧
    (s.ring.echo = some e → Answers (.echoReturn trip) s (fun t =>
      t.ring.echo = none ∧ t.ring.firstEcho = false ∧ t.tiles = s.tiles ∧ t.c.map = s.c.map ∧ t.c.voices = s.c.voices ∧
      t.nv = s.nv ∧ t.ring.cmd = s.ring.cmd ∧
      (s.ring.echoHead = [] ∧ s.ring.echoHits[k] = [] ∧ e[k] = some lat ∧ k.val < s.ntiles → t.hub[k].lat = lat) ∧
      (s.ring.echoHead ≠ [] → t.hub[k].lat = s.hub[k].lat))) ∧
    (s.running = true ∧ s.ring.enumDue = true → Answers .fullEnumeration s (fun t =>
      t.c.map = Vector.replicate 24 none ∧ t.c.mapValid = false ∧ t.ring.enumDue = false ∧ t.ring.enum_ = some 0 ∧
      (∀ j : TileNo, t.hub[j].qual = .unnumber ∧ t.hub[j].present = false) ∧ t.c.voices = s.c.voices ∧
      t.c.set = s.c.set ∧ t.nv = s.nv)) ∧
    (s.hub[k].rejoin = true ∧ s.hub[k].dropTick + 100 * s.act.ring.rejoin.toNat ≤ s.clk.ticks →
      Answers (.rejoinTimerEnd k) s (fun t =>
      t.hub[k].rejoin = false ∧ (∀ p : Pos, t.c.bays[bayOf k p].pack = .empty ∧ t.c.bays[bayOf k p].base = .none) ∧
      (∀ j : TileNo, j ≠ k → t.hub[j] = s.hub[j] ∧ ∀ p : Pos, t.c.bays[bayOf j p] = s.c.bays[bayOf j p]) ∧
      t.c.voices = s.c.voices ∧ t.c.set = s.c.set ∧ t.nv = s.nv ∧ t.tiles = s.tiles))

/-- R17, R19, R20, R44, R45, R176, R361: the hub's beats. A measure beat comes at the end of the last tick, when the
measure's stages are over; it counts the measure, opens Face's intake and sends the frame that Haul has built. A tick
beat counts a tick, with its 32 SLOW periods, and no measure. No beat comes before a watchdog event that is due. -/
def Obligations.HubBeats : Prop :=
  ∀ (s : State) (k : KeepAdc) (o : HubTick), s.running = true → s.wdQuiet = true →
    (s.mode.dorm ≠ .ports ∧ s.wd.trap = false ∧
      ((s.start.stage = .muster ∧ s.start.meas = 0 ∧ s.pipe.haulDone = false) ∨ (s.clk.tick + 1 = s.period ∧
        s.pipe.ldDone = true ∧ s.pipe.haulDone = true ∧ s.eng.haltDue = false ∧ s.nv.snap = none)) → Answers (.measureBeat k o) s (fun t =>
      t.c.mcount = s.c.mcount + 1 ∧ t.clk.tick = 0 ∧ t.clk.beatTick = t.clk.ticks ∧
      t.pipe.closed = false ∧ t.pipe.wbDone = false ∧ t.pipe.ldDone = false ∧ t.pipe.haulDone = false ∧
      t.ring.tel = Vector.replicate 24 none ∧ t.ring.rptSent = false ∧
      (∀ f, s.ring.built = some f → ∃ g, t.ring.cmd = some g ∧ g.seq = f.seq ∧ g.rpt = false ∧ g.blocks = f.blocks ∧
        g.mcount = (s.c.mcount + 1).setWidth 16) ∧
      (s.ring.built = none → t.ring.cmd = none) ∧
      t.keeper.bat = k.bat ∧ t.keeper.iout ≤ 2625 ∧
      (s.keeper.buck = false → t.keeper.vkeep = k.vkeep ∧ t.keeper.iin = 0 ∧ t.keeper.iout = 0) ∧
      (∀ i : Fin 4, codeSrc s.keeper.src = some i → i.val < 2 → s.act.power = s.c.set.power →
        t.keeper.iin ≤ s.act.power.kilimf.toNat * 50 * 105 / 100 + 20) ∧
      (∀ p : PortId, (t.ports[p]).vbus = k.vbus[p] ∧ (t.ports[p]).ibus = k.ibus[p]) ∧ t.c.voices.map (·.m) = s.c.voices.map (·.m) ∧ t.tiles = s.tiles)) ∧
    (s.clk.tick + 1 < s.period ∧ (s.start.stage = .tutti ∨ s.start.meas ≠ 0) → Answers (.tickBeat o) s (fun t =>
      t.clk.tick = s.clk.tick + 1 ∧ t.clk.ticks = s.clk.ticks + 1 ∧ t.clk.elapsed = s.clk.elapsed + 32 ∧
      t.c.mcount = s.c.mcount ∧
      (s.wd.counting = true ∧ s.eng.halted = false → t.wd.count = s.wd.count + 32) ∧
      (0 < s.act.wb.canonper.toNat →
        t.c.canoncnt = (s.c.canoncnt + 1) % (10 * s.act.wb.canonper.toNat)) ∧
      (o.grants = [] → t.bays = s.bays) ∧
      t.c.bays = s.c.bays ∧ t.ring = s.ring ∧ t.tiles = s.tiles ∧ (s.wd.recDue = false → t.nv = s.nv)))

/-- R139, R163, R164, R172, R177, R178, R183: Face takes the slots in the order of their numbers, each once in a
measure, and closes its intake. A VALID slot puts the stale count to 0 and gives the record of its number and its bays
what it carries; a BAD one calls for the repeat copy; a slot that has arrived only in part at the close is BAD. -/
def Obligations.FaceTakesSlots : Prop :=
  ∀ (s : State) (n : TileNo) (x : TelSlot) (seg : Nat) (pos : Fin 54) (bad : BitVec 4) (part : Option (Fin 24)),
    s.running = true → s.pipe.closed = false → s.wd.trap = false → s.clk.tick = 0 →
    (n.val < s.ntiles ∧ (∀ k : TileNo, s.hub[k].cls = .pending ↔ n ≤ k) →
      (s.ring.tel[n] = some x ∧ (s.ring.telHits[n] = [⟨seg, pos.val, none⟩] ∧ seg ≤ 32 ∨
          s.ring.telHits[n] = [] ∧ x.tileno ≠ n.val) → Answers (.faceSlot n bad) s (fun t =>
        t.hub[n] = { s.hub[n] with cls := .bad } ∧ (∀ j : TileNo, j ≠ n → t.hub[j] = s.hub[j]) ∧
        (s.act.ring.rpten = true ∧ s.ring.rptSent = false ∧ s.ring.cmd ≠ none → t.ring.rptDue = true) ∧
        t = { s with hub := t.hub, ring := { s.ring with rptDue := t.ring.rptDue } })) ∧
      (s.ring.telHits[n] = [] →
        (s.ring.tel[n] = none → Answers (.faceSlot n bad) s (fun t =>
          t = { s with hub := t.hub } ∧ t.hub[n] = { s.hub[n] with cls := .empty } ∧
          ∀ j : TileNo, j ≠ n → t.hub[j] = s.hub[j])) ∧
        (s.ring.tel[n] = some x ∧ x.tileno = n.val →
          Answers (.faceSlot n bad) s (fun t =>
            t.hub[n].cls = .valid ∧ t.hub[n].safe = x.safe ∧ t.hub[n].adcfail = x.adcfail ∧
            t.hub[n].vin = x.vin ∧ t.hub[n].vlog = x.vlog ∧ t.hub[n].die = x.die ∧ t.hub[n].tio = x.tio ∧
            (∀ j : TileNo, j ≠ n → t.hub[j] = s.hub[j]) ∧ t.tiles = s.tiles ∧ t.nv.mem = s.nv.mem ∧
            t.c.mcount = s.c.mcount ∧ t.c.voices = s.c.voices ∧
            (∀ b : Bay, tileOf b ≠ n → t.bays[b] = s.bays[b] ∧ t.c.bays[b] = s.c.bays[b]) ∧
            (x.safe = false → t.hub[n].stale = 0) ∧
            (s.hub[n].qual = .done ∧ x.safe = false ∧ bad = 0 → ∀ p : Pos,
              (t.bays[bayOf n p]).tilest = 0 ∧ (t.bays[bayOf n p]).door = (x.bays[p]).door ∧
              (t.bays[bayOf n p]).flags = (x.bays[p]).flags))) ∧
        (s.ring.tel[n] = some x ∧ x.tileno = n.val ∧ s.hub[n].qual = .push ∧ x.adcfail = false ∧ x.cmdok = true →
          Answers (.faceSlot n bad) s (fun t =>
            t = { s with hub := t.hub, bays := t.bays, c := { s.c with bays := t.c.bays } } ∧
            t.hub[n].qual = .push ∧ t.hub[n].stale = 0)))) ∧
    Answers (.faceIntakeClose part) s (fun t => t.pipe.closed = true ∧ t.c.mcount = s.c.mcount ∧
      t.c.voices = s.c.voices ∧ t.tiles = s.tiles ∧ t.nv = s.nv ∧ (∀ j : TileNo, t.hub[j].cls ≠ .pending) ∧
      (part = some n ∧ s.hub[n].cls = .pending ∧ n.val < s.ntiles ∧ s.act.ring.rpten = true ∧
        s.ring.rptSent = false ∧ s.ring.cmd ≠ none → t.hub[n].cls = .bad ∧ t.ring.rptDue = true))

/-- R21, R23, R24, R32, R177, R187 to R190, R242, R361, R463, R609: the stages of a measure follow one another. The
Weighbridge acts in Tutti alone; the Loader comes when the slots of the voices are over and ends with the snapshot of
the state that it leaves, and Haul ends with the frame for the next measure. -/
def Obligations.PipelineStages : Prop :=
  ∀ (s : State), s.running = true → s.wd.trap = false →
    (s.pipe.closed = true ∧ s.pipe.wbDone = false ∧ s.pipe.ldDone = false ∧ s.start.stage = .muster →
      Answers .wbStage s (fun t => t = { s with pipe := { s.pipe with wbDone := true } })) ∧
    (s.pipe.closed = true ∧ s.pipe.wbDone = false ∧ s.pipe.ldDone = false ∧ s.start.stage = .tutti ∧
      (∀ b : Bay, (s.bays[b]).wb.bad = false) → Answers .wbStage s (fun t =>
      t.pipe = { s.pipe with wbDone := true } ∧ t.act.wb.wgt = s.c.set.wb.wgt ∧
      t.act.wb.reserve = s.c.set.wb.reserve ∧ t.wb.pool = t.poolNow ∧ t.wb.share = sharesOf t.poolNow t.act.wb.wgt ∧
      t.wb.bifW = t.bif ∧ t.wb.feedW = t.feedbud ∧ t.wb.linkW = t.linkbud ∧
      t.wb.ptr = s.wb.ptr + 1 ∧ t = { s with pipe := t.pipe, wb := t.wb, bays := t.bays, act := t.act })) ∧
    (s.pipe.closed = true ∧ s.pipe.wbDone = true ∧ s.pipe.ldDone = false ∧ s.eng.slot = none ∧ s.eng.next = none ∧
      s.eng.haltDue = false →
      Answers (.loader []) s (fun t => t.pipe.ldDone = true ∧ t.pipe.stage = .haul ∧ t.nv.snap = some t.c ∧
        t.nv.mem = s.nv.mem ∧ t.c.mcount = s.c.mcount ∧ t.tiles = s.tiles)) ∧
    (s.pipe.ldDone = true ∧ s.pipe.haulDone = false → Answers .haul s (fun t =>
      t.pipe = { s.pipe with haulDone := true, stage := .journal } ∧
      t.ring = { s.ring with built := t.ring.built } ∧
      t = { s with pipe := t.pipe, ring := t.ring, nv := { s.nv with port := t.nv.port } } ∧
      (s.nv.snap ≠ none → t.nv.port.asks .journal = true) ∧ (s.nv.snap = none → t.nv.port = s.nv.port) ∧
      ∃ f, t.ring.built = some f ∧ f.seq = s.ring.seq + 1 ∧ f.rpt = false ∧ f.ntiles = s.ntiles))

/-- R357 to R359, R362, R363, R366, R380: the journal. A commit writes the inactive bank, every line of which then is the
snapshot's, with the next CSEQ and the digest in its commit word, and changes which bank is active; the bank that was
active keeps its words. More stale lines than fit defer the journal, and a line failure leaves the inactive slot void. -/
def Obligations.JournalCommitsOrDefers : Prop :=
  ∀ (s : State) (c : Committed) (f : JLine), s.running = true → s.pipe.haulDone = true →
    s.nv.snap = some c → s.latch.breset ≠ .preparing → s.latch.shipDue = false → s.start.rstDue = false →
    s.mode.dorm ≠ .journal → s.c.push.due = false → s.wd.recDue = false →
    let stale := s.nv.staleLines c
    ((∀ i : Nat, i ∈ stale ↔ i < 12288 ∧ ((s.nv.bank (!s.nv.onB)).line i ≠
        ({ c with cseq := s.nv.nextSeq } : Committed).line i ∨ i ∈ (s.nv.bank (!s.nv.onB)).bad))) ∧
    (stale.length ≤ s.nv.room → Answers (.journalCommit none) s (fun t =>
      t.nv.onB = (!s.nv.onB) ∧ t.nv.bank s.nv.onB = s.nv.bank s.nv.onB ∧
      t.nv.activeWord = some (s.nv.nextSeq, c.mcount) ∧ t.nv.active.img = { c with cseq := s.nv.nextSeq } ∧
      (∀ i : Nat, t.nv.active.line i = t.nv.active.img.line i) ∧ t.nv.active.bad = [] ∧
      t.nv.active.slot[0] = t.nv.active.digest ++ c.mcount ∧
      t.nv.layout = c.set.layout ∧ t.nv.fullAt = true ∧
      t.nv.snap = none ∧ t.nv.cage = 0 ∧ t.nv.mem = s.nv.mem ∧
      t = { s with nv := t.nv, pipe := { s.pipe with stage := .caesura }, c := { s.c with cseq := s.nv.nextSeq }
                   clk := { s.clk with unknown := false, outErr := 0 } })) ∧
    (s.nv.room < stale.length ∧ s.nv.defer = true → Answers (.journalCommit none) s (fun t =>
      t.nv.onB = s.nv.onB ∧ t.nv.active = s.nv.active ∧ t.nv.defer = true ∧ t.nv.word (!s.nv.onB) = none ∧
      t.nv.snap = none ∧ t = { s with nv := t.nv, pipe := { s.pipe with stage := .caesura } })) ∧
    ((f = .void ∧ (s.nv.bank (!s.nv.onB)).isVoid = false) ∨ (∃ i, f = .data i ∧ i.val ∈ stale.take s.nv.room) ∨
        (f = .word ∧ stale.length ≤ s.nv.room) → Answers (.journalCommit (some f)) s (fun t =>
      t.nv.onB = s.nv.onB ∧ t.nv.active = s.nv.active ∧ t.nv.word (!s.nv.onB) = none ∧
      (∀ i, f = .data i → i.val ∈ (t.nv.bank (!s.nv.onB)).bad) ∧
      t.nv.failRun = s.nv.failRun + 1 ∧ t.nv.nocommit = decide (3 ≤ s.nv.failRun + 1) ∧ t.c = s.c)) ∧
    (s.nv.failing c f = none → exec (.journalCommit (some f)) s = exec (.journalCommit none) s)

/-- R194 to R196, R320, R361, R386: the guards, each at its point of the measure. A guard that no measure before has raised
puts the engine to STOP with cause GUARD, sheds every bay, ends every grant and holds every record, and the engine does
not trap; where the hold already stands, it traps. The Loader's and the front's guard end the Loader. -/
def Obligations.GuardsHoldTheCabinet : Prop :=
  ∀ (s : State), s.running = true → s.wd.trap = false →
    let holds (i : Instr) (cause : BitVec 2) : Prop :=
      (s.c.guard = false → Answers i s (fun t =>
        t.c.engStop = true ∧ t.c.guard = true ∧ t.eng.cause = cause ∧ t.eng.thisOver = true ∧ t.wd.trap = false ∧
        (s.pipe.closed = true ∨ (∀ k : TileNo, s.ring.shedCnt[k] < 2) →
          t.ring.sheds = s.ring.sheds ++ [{ set := shedAll }]) ∧
        (t.ctxs[ctxSYS]).queue = ((s.post 0x2004 cause.toNat 0).ctxs[ctxSYS]).queue ∧
        (∀ b : Bay, (t.bays[b]).wb = (s.bays[b]).wb.endGrant) ∧ t.nv.mem = s.nv.mem ∧ t.c.voices = s.c.voices ∧
        (cause ≠ 3 → t.pipe.ldDone = true ∧ t.nv.snap = some t.c) ∧
        (cause = 3 → t.pipe.haulDone = true ∧ t.ring.built = none))) ∧
      (s.c.guard = true → Answers i s (fun t => t.wd.trap = true ∧ t.wd.cause = 3 ∧ t.wd.counting = false ∧
        (∀ pc, (s.voices[voiceSYS]).prog.coda = some pc → pc < (s.voices[voiceSYS]).prog.code.length →
          (s.voices[voiceSYS]).memErr = none → t.wd.coda = true) ∧
        ((s.voices[voiceSYS]).prog.coda = none → t.wd.coda = false ∧ t.wd.recDue = true)))
    (s.pipe.ldDone = false ∧ s.clk.tick + 1 = s.period → holds .loaderGuard 1) ∧
    (s.pipe.wbDone = false ∧ s.pipe.ldDone = false ∧ s.clk.tick = 1 → holds .frontGuard 2) ∧
    (s.pipe.haulDone = false ∧ s.clk.tick + 1 = s.period → holds .haulGuard 3)

/-- R207, R209, R210, R215, R218, R219, R222, R227, R239, R102: the timers of charging, for a live bay in no safety order.
An end that Table CP-3 gives FAULTHOLD stops the bay with its cause in TERM. A next probe comes 10 s after the last. -/
def Obligations.ChargeTimersEndCharges : Prop :=
  ∀ (s : State) (b : Bay), s.running = true →
    let r := s.c.bays[b]
    let onlyRun (t : State) : Prop := t = { s with c := { s.c with bays := t.c.bays } } ∧
      ∀ j : Bay, j ≠ b → t.c.bays[j] = s.c.bays[j]
    let faults (i : Instr) (x : Term) : Prop := Answers i s (fun t => onlyRun t ∧
      t.c.bays[b] = { r with term := x, below := false, faultHold := true })
    (s.bayPresent b = true ∧ (s.bays[b]).tilest = 0 ∧ (s.bays[b]).safety = .none ∧ (s.bays[b]).badWord = false ∧
        (s.bays[b]).temp.isSome = true ∧ (s.bayEnv b).charge = true ∧
        r.pack = .ready ∧ r.held = false ∧ r.resume = false ∧ r.interrupted = false →
      (r.base = .prechg ∧ 1800000 ≤ r.preTicks → faults (.pretimeExpire b) .pretime) ∧
      ((r.chem = .liion ∨ r.chem = .lifepo4) ∧ r.base = .cv ∧ s.act.bays[b].tmaxT r.chem ≤ r.tchg →
        faults (.litimerExpire b) .litimer) ∧
      (r.base = .cc ∧ 8 * s.act.bays[b].pperT ≤ r.norest → faults (.norestExpire b) .norest) ∧
      ((r.chem = .nimh ∨ r.chem = .nicd) ∧ r.base = .cc ∧ s.act.bays[b].tmaxT r.chem ≤ r.tchg →
        Answers (.chargeTimerExpire b) s (fun t => onlyRun t ∧ (t.c.bays[b]).term = .timer ∧
          (t.c.bays[b]).base = (if s.act.bays[b].topT r.chem = 0 then
            (if s.act.bays[b].maintT r.chem = 0 then .done else .maint) else .topoff) ∧ (t.c.bays[b]).held = false)) ∧
      (r.base = .topoff ∧ s.act.bays[b].topT r.chem ≤ r.topTicks →
        Answers (.topoffEnd b) s (fun t => onlyRun t ∧
          (t.c.bays[b]).base = (if s.act.bays[b].maintT r.chem = 0 then .done else .maint))) ∧
      (r.base = .maint ∧ s.act.bays[b].maintT r.chem ≠ 0 ∧ s.act.bays[b].maintT r.chem ≤ r.maintTicks ∧
        r.tempSusp = false → Answers (.maintInterval b) s (fun t => onlyRun t ∧ (t.c.bays[b]).maintPulse = true ∧
          (t.c.bays[b]).maintTicks = r.maintTicks - s.act.bays[b].maintT r.chem ∧
          (t.c.bays[b]).maintLeft = s.act.bays[b].pperT)) ∧
      (r.hlRun = true ∧ s.act.bays[b].hlT ≤ r.hlTicks →
        Answers (.hostlateExpire b) s (fun t => onlyRun t ∧
          t.c.bays[b] = { r with below := false, hostLate := true }))) ∧
    (s.c.keep.base = .cv ∧ 300000 ≤ s.c.keep.taper → Answers .keeperTaperEnd s (fun t =>
      t = { s with c := { s.c with keep := { s.c.keep with base := .done } } })) ∧
    (r.pack = .shorted ∧ (s.bays[b]).probeT + 10000 ≤ s.clk.ticks → Answers (.reprobeTimer b) s (fun t => t = { s with bays := t.bays } ∧
      t.bays[b] = { s.bays[b] with reprobe := true } ∧ ∀ j : Bay, j ≠ b → t.bays[j] = s.bays[j])) ∧
    ((s.bays[b]).wb.granted = true ∧ (s.bays[b]).wb.gend = .running ∧
      (s.bays[b]).wb.gtick + s.act.bays[b].pperT ≤ s.clk.ticks → Answers (.grantPeriodEnd b) s (fun t =>
        t = { s with bays := t.bays } ∧ (∀ j : Bay, j ≠ b → t.bays[j] = s.bays[j]) ∧
        t.bays[b] = { s.bays[b] with wb := { (s.bays[b]).wb with gend := .passed } }))

/-- R231: the guaranteed shares. Each is the floor of its part of the pool plus at most one sett, the setts that the
floors leave go one each to T0, T1, T2 and T3 in that order, and the shares add up to the pool. -/
def Obligations.SharesAddUpToThePool : Prop :=
  ∀ (pool : Nat) (w : Vector (BitVec 4) 4),
    let tot := w[0].toNat + w[1].toNat + w[2].toNat + w[3].toNat
    let floor (t : Tenant) : Nat := pool * w[t].toNat / tot
    let left := pool - (floor 0 + floor 1 + floor 2 + floor 3)
    0 < tot →
      (∀ t : Tenant, (sharesOf pool w)[t] = floor t + (if t.val < left then 1 else 0)) ∧
      (sharesOf pool w)[0] + (sharesOf pool w)[1] + (sharesOf pool w)[2] + (sharesOf pool w)[3] = pool

/-- R243, R244: a tenant's entitled set and phase 1 each take a queue in its order up to the first request that does
not fit, and what they take stays within the share and within the pool. -/
def Obligations.GrantsStayWithinPool : Prop :=
  ∀ (bs : Vector BayVol 96) (limit held : Nat) (q : List Bay), held ≤ limit →
    let sum (l : List Bay) : Nat := (l.map (fun b => bs[b].wb.req)).sum
    let takes (f : List Bay) : Prop :=
      f <+: q ∧ held + sum f ≤ limit ∧ ∀ b rest, q = f ++ b :: rest → limit < held + sum f + bs[b].wb.req
    takes (entitledPart bs limit held q) ∧ takes (phase1 bs limit held q)

/-- R332, R333, R337, R338, R340, R348, R349: the Refrain instructions without an operand from an area. Each takes its
cycles of Table RI-1, changes the register that the table names and nothing else, and the voice goes on at the next
instruction or at the target. -/
def Obligations.RefrainRegisterInstructions : Prop :=
  ∀ (s : State) (v : VoiceId) (w : BitVec 32),
    let x := s.voices[v]
    let goes (i : Instr) (op : BitVec 8) (n pc : Nat) (y : VoiceVol) : Prop :=
      opOf w = op → s.executes v w n → s.goesOn v pc →
        exec i s = .next { s with voices := s.voices.set v { y with cycles := x.cycles + n, pc := pc } }
    let here (i : Instr) (op : BitVec 8) (n : Nat) (y : VoiceVol) : Prop := goes i op n (x.pc + 1) y
    let goal := (idxField w).toNat
    here (.xNop v) 0x01 1 x ∧ here (.xTrue v) 0x03 1 { x with rlo := true } ∧
    here (.xFalse v) 0x04 1 { x with rlo := false } ∧ here (.inv v) 0x05 1 { x with rlo := !x.rlo } ∧
    here (.wimm v) 0x41 1 { x with wacc := w.extractLsb' 0 16 } ∧
    here (.w2x v) 0x50 1 { x with xr := x.wacc } ∧ here (.x2w v) 0x51 1 { x with wacc := x.xr } ∧
    (∀ fail, x.entry ≠ some .coda → here (.snap v fail) 0x07 2 { x with rlo := false }) ∧
    (x.rlo = false ∨ x.entry = some .coda → here (.raise v) 0x08 4 x) ∧
    (x.rlo = true → x.entry ≠ some .coda → x.raised.length < 4 →
      here (.raise v) 0x08 4 { x with raised := x.raised ++ [{ code := w.extractLsb' 0 8 }] }) ∧
    goes (.goto v) 0x30 3 goal x ∧
    (x.rlo = true → goes (.gotot v) 0x31 3 goal x) ∧ (x.rlo = false → goes (.gotof v) 0x32 3 goal x) ∧
    (goal < x.prog.code.length →
      (x.rlo = false → here (.gotot v) 0x31 1 x) ∧ (x.rlo = true → here (.gotof v) 0x32 1 x))

/-- R334, R335, R337, R341: the Refrain instructions that read a bit or a word. RLO or WACC becomes what Table RI-1
says of it and of the operand, and nothing else changes; an operand in B, T or C takes a third cycle, an indexed one a
cycle more. -/
def Obligations.RefrainReadingInstructions : Prop :=
  ∀ (s : State) (v : VoiceId) (w : BitVec 32) (a : Area) (i : Nat),
    let x := s.voices[v]
    let n := (if a = .b ∨ a = .t ∨ a = .c then 3 else 2) + (if xFlag w = true then 1 else 0)
    let reads (l : List Area) (c : Instr) (op : BitVec 8) (y : VoiceVol) : Prop :=
      opOf w = op → operand w x.xr x.prog.k.length l = .ok (a, i) → s.executes v w n → s.goesOn v (x.pc + 1) →
        exec c s = .next { s with voices := s.voices.set v { y with cycles := x.cycles + n, pc := x.pc + 1 } }
    let bit (c : Instr) (op : BitVec 8) (f : Bool → Bool → Bool) : Prop :=
      reads [.i, .q, .m, .e, .t, .c] c op { x with rlo := f x.rlo (s.readBit v a i) }
    let word (c : Instr) (op : BitVec 8) (f : Word → Word → Word) : Prop :=
      reads [.w, .k, .b, .s, .t, .c] c op { x with wacc := f x.wacc (s.readWord v a i) }
    let cmp (c : Instr) (op : BitVec 8) (f : Word → Word → Prop) : Prop := ∀ r : Bool,
      (r = true ↔ f x.wacc (s.readWord v a i)) → reads [.w, .k, .b, .s, .t, .c] c op { x with rlo := r }
    bit (.xGet v) 0x10 (fun _ b => b) ∧ bit (.getn v) 0x11 (fun _ b => !b) ∧
    bit (.xAnd v) 0x12 (fun r b => r && b) ∧ bit (.andn v) 0x13 (fun r b => r && !b) ∧
    bit (.xOr v) 0x14 (fun r b => r || b) ∧ bit (.orn v) 0x15 (fun r b => r || !b) ∧
    bit (.xXor v) 0x16 (fun r b => r ^^ b) ∧ bit (.xorn v) 0x17 (fun r b => r ^^ !b) ∧
    word (.wget v) 0x40 (fun _ m => m) ∧
    word (.wadd v) 0x43 (fun a m => BitVec.ofNat 16 ((a.toNat + m.toNat) % 65536)) ∧
    word (.wsub v) 0x44 (fun a m => BitVec.ofInt 16 ((a.toNat : Int) - m.toNat)) ∧
    word (.wand v) 0x45 (fun a m => a &&& m) ∧ word (.wor v) 0x46 (fun a m => a ||| m) ∧
    word (.wxor v) 0x47 (fun a m => a ^^^ m) ∧
    cmp (.weq v) 0x48 (fun a m => a = m) ∧ cmp (.wne v) 0x49 (fun a m => a ≠ m) ∧
    cmp (.wgt v) 0x4A (fun a m => m.toNat < a.toNat) ∧ cmp (.wge v) 0x4B (fun a m => m.toNat ≤ a.toNat) ∧
    cmp (.wlt v) 0x4C (fun a m => a.toNat < m.toNat) ∧ cmp (.wle v) 0x4D (fun a m => a.toNat ≤ m.toNat) ∧
    cmp (.wsgt v) 0x4E (fun a m => m.toInt < a.toInt) ∧ cmp (.wslt v) 0x4F (fun a m => a.toInt < m.toInt)

/-- R336, R337, R342, Table RI-1: the Refrain instructions that write a bit or a word. The addressed bit of M or E, or
word of W, takes the value of the table, and every other one keeps its value; a Q bit that the voice may not write
keeps its value too. Only RISE and FALL change RLO. -/
def Obligations.RefrainWritingInstructions : Prop :=
  ∀ (s : State) (v : VoiceId) (w : BitVec 32) (a : Area) (i : Nat),
    let x := s.voices[v]
    let r := s.c.voices[v]
    let ix := if xFlag w = true then 1 else 0
    let writes (l : List Area) (c : Instr) (op : BitVec 8) (n : Nat) (P : State → Prop) : Prop :=
      opOf w = op → operand w x.xr x.prog.k.length l = .ok (a, i) → s.executes v w (n + ix) → s.goesOn v (x.pc + 1) →
        Answers c s (fun t => t = { s with voices := t.voices, c := { s.c with voices := t.c.voices } } ∧
          (∀ u : VoiceId, u ≠ v → t.voices[u] = s.voices[u] ∧ t.c.voices[u] = s.c.voices[u]) ∧
          t.voices[v] = { x with cycles := x.cycles + (n + ix), pc := x.pc + 1, rlo := t.voices[v].rlo
                                 qw := t.voices[v].qw } ∧ P t)
    let puts (c : Instr) (op : BitVec 8) (f : Bool → Bool → Bool) : Prop :=
      writes [.q, .m] c op 2 (fun t => t.voices[v].rlo = x.rlo ∧
        t.c.voices[v] = { r with m := (t.c.voices[v]).m } ∧
        (∀ j < 2048, (t.c.voices[v]).m.getLsbD j =
          if a = .m ∧ j = i then f x.rlo (r.m.getLsbD i) else r.m.getLsbD j) ∧
        (∀ j < 1728, t.voices[v].qw.getLsbD j =
          if a = .q ∧ j = i ∧ s.mayPutQ v i = true then f x.rlo (x.qw.getLsbD i) else x.qw.getLsbD j))
    let edge (c : Instr) (op : BitVec 8) (f : Bool → Bool → Bool) : Prop :=
      writes [.e] c op 3 (fun t => t.voices[v].rlo = f x.rlo (r.e.getLsbD i) ∧ t.voices[v].qw = x.qw ∧
        t.c.voices[v] = { r with e := (t.c.voices[v]).e } ∧
        ∀ j < 1024, (t.c.voices[v]).e.getLsbD j = if j = i then x.rlo else r.e.getLsbD j)
    puts (.xPut v) 0x18 (fun r _ => r) ∧ puts (.putn v) 0x19 (fun r _ => !r) ∧
    puts (.latch v) 0x1A (fun r b => r || b) ∧ puts (.unlatch v) 0x1B (fun r b => b && !r) ∧
    edge (.rise v) 0x1C (fun r e => r && !e) ∧ edge (.fall v) 0x1D (fun r e => e && !r) ∧
    writes [.w] (.wput v) 0x42 2 (fun t => t.voices[v].rlo = x.rlo ∧ t.voices[v].qw = x.qw ∧
      t.c.voices[v] = { r with w := (t.c.voices[v]).w } ∧
      ∀ j : Fin 512, (t.c.voices[v]).w[j] = if j.val = i then x.wacc else r.w[j])

/-- R339, R350: the branch stack. A branch opcode pushes RLO with its operation and leaves RLO; JOIN removes the top
entry and sets RLO to the operation of the two; the ninth push is an overflow, a JOIN of an empty stack an underflow;
FIN ends an entry without a fault, whatever is still open. -/
def Obligations.RefrainBranchStack : Prop :=
  ∀ (s : State) (v : VoiceId) (w : BitVec 32),
    let x := s.voices[v]
    let goes (i : Instr) (y : VoiceVol) : Prop := exec i s = .next { s with voices := s.voices.set v y }
    let pair (i : Instr) (op : BitVec 8) (o : BrOp) (f : Bool → Bool → Bool) : Prop :=
      (opOf w = op → s.executes v w 2 → s.goesOn v (x.pc + 1) → x.stack.length < 8 →
        goes i { x with stack := (x.rlo, o) :: x.stack, cycles := x.cycles + 2, pc := x.pc + 1 }) ∧
      (opOf w = op → s.executes v w 2 → x.stack.length = 8 → exec i s = .next (s.voiceFault v 4 x.pc)) ∧
      (opOf w = 0x06 → s.executes v w 2 → s.goesOn v (x.pc + 1) → ∀ r rest, x.stack = (r, o) :: rest →
        goes (.xJoin v) { x with rlo := f r x.rlo, stack := rest, cycles := x.cycles + 2, pc := x.pc + 1 })
    pair (.brAnd v) 0x20 .and (fun r i => r && i) ∧ pair (.brAndn v) 0x21 .andn (fun r i => r && !i) ∧
    pair (.brOr v) 0x22 .or (fun r i => r || i) ∧ pair (.brOrn v) 0x23 .orn (fun r i => r || !i) ∧
    pair (.brXor v) 0x24 .xor (fun r i => r ^^ i) ∧ pair (.brXorn v) 0x25 .xorn (fun r i => r ^^ !i) ∧
    (opOf w = 0x06 → s.executes v w 2 → x.stack = [] → exec (.xJoin v) s = .next (s.voiceFault v 4 x.pc)) ∧
    (opOf w = 0x02 → s.executes v w 2 →
      (x.entry = some .main → goes (.fin v) { x with cycles := x.cycles + 2, active := false, entry := none }) ∧
      (x.entry = some .drop → s.goesOn v x.prog.main →
        goes (.fin v) { x with cycles := x.cycles + 2, entry := some .main, pc := x.prog.main, rlo := false, wacc := 0
                               xr := 0, stack := [], active := true, dropRan := true }) ∧
      (x.entry = some .coda → v = voiceSYS → Answers (.fin v) s (fun t => (t.voices[v]).active = false ∧
        t.wd.coda = false ∧ t.wd.codaFlt = s.wd.codaFlt ∧ t.c = s.c ∧ t.ctxs = s.ctxs)))

/-- R343 to R345, R347: the soft timers and the counters. Each instruction does to its timer or its counter what Table
RI-3, R343 and R347 say, and leaves the registers, every other timer and counter and every other area. -/
def Obligations.RefrainTimersAndCounters : Prop :=
  ∀ (s : State) (v : VoiceId) (w : BitVec 32) (i : Fin 128),
    let x := s.voices[v]
    let r := s.c.voices[v]
    let ix := if xFlag w = true then 1 else 0
    let number : Prop := i.val = (w.extractLsb' 0 7).toNat + if xFlag w = true then x.xr.toNat / 16 else 0
    let does (c : Instr) (op : BitVec 8) (area : BitVec 4) (n : Nat) (y : VoiceRun) : Prop :=
      opOf w = op → areaField w = area → number → s.executes v w (n + ix) → s.goesOn v (x.pc + 1) →
        exec c s = .next { s with voices := s.voices.set v { x with cycles := x.cycles + (n + ix), pc := x.pc + 1 }
                                  c := { s.c with voices := s.c.voices.set v y } }
    let q := r.t[i]
    let goal := q.pre.toNat * 10 ^ q.base.toNat
    let tim (c : Instr) (op : BitVec 8) (u : SoftTimer) : Prop := does c op 4 6 { r with t := r.t.set i u }
    let cnt (c : Instr) (op : BitVec 8) (n : Nat) (u : Counter) : Prop := does c op 5 n { r with c := r.c.set i u }
    let k := r.c[i]
    let due (u : SoftTimer) : SoftTimer :=
      if u.run = true ∧ goal ≤ u.acc then { u with acc := goal, rest := 0, run := false, dn := true } else u
    (x.rlo = false →
      tim (.ton v) 0x60 { q with kind := .ton, acc := 0, rest := 0, run := false, dn := false, out := false, inp := false } ∧
      (let u := due (if q.inp = true then { q with acc := 0, rest := 0, run := true } else q)
       tim (.tof v) 0x61 { u with kind := .tof, out := u.run, inp := false }) ∧
      (let u := due q
       tim (.tp v) 0x62 { u with kind := .tp, out := u.run, inp := false }) ∧
      tim (.tacc v) 0x63 { q with kind := .tacc, run := false, out := q.dn, inp := false } ∧
      tim (.tclr v) 0x64 { q with inp := false } ∧
      cnt (.cup v) 0x68 4 { k with uin := false } ∧ cnt (.cdn v) 0x69 4 { k with din := false } ∧
      cnt (.cclr v) 0x6A 4 k) ∧
    (x.rlo = true →
      (let u := due (if q.run = false ∧ q.dn = false then { q with acc := 0, rest := 0, run := true } else q)
       tim (.ton v) 0x60 { u with kind := .ton, out := u.dn, inp := true }) ∧
      tim (.tof v) 0x61 { q with kind := .tof, acc := 0, rest := 0, run := false, dn := false, out := true, inp := true } ∧
      (let u := due (if q.inp = false ∧ q.run = false then { q with acc := 0, rest := 0, dn := false, run := true } else q)
       tim (.tp v) 0x62 { u with kind := .tp, out := u.run, inp := true }) ∧
      (let u := due (if q.dn = false then { q with run := true } else q)
       tim (.tacc v) 0x63 { u with kind := .tacc, out := u.dn, inp := true }) ∧
      tim (.tclr v) 0x64 { q with acc := 0, rest := 0, run := false, dn := false, out := false, inp := true } ∧
      cnt (.cup v) 0x68 4 { k with val := if k.uin = true then k.val else BitVec.ofNat 16 (min (k.val.toNat + 1) 65535)
                                   uin := true } ∧
      cnt (.cdn v) 0x69 4 { k with val := if k.din = true then k.val else BitVec.ofNat 16 (k.val.toNat - 1)
                                   din := true } ∧
      cnt (.cclr v) 0x6A 4 { k with val := 0 }) ∧
    (let u : SoftTimer := { q with pre := x.wacc, base := w.extractLsb' 8 2, wall := w.getLsbD 10 }
     does (.tpre v) 0x65 4 3 { r with t := r.t.set i u }) ∧
    cnt (.cpre v) 0x6B 3 { k with pre := x.wacc } ∧
    (s.eng.slot = some v ∧ x.active = true ∧ x.cycles = 0 ∧ q.run = true ∧ goal ≤ q.acc →
      let u : SoftTimer := { q with acc := goal, rest := 0, run := false, dn := true, out := q.kind == .ton || q.kind == .tacc }
      exec (.softTimerExpire v i) s =
        .next { s with c := { s.c with voices := s.c.voices.set v { r with t := r.t.set i u } } })

/-- R330, R352, R353: an instruction that fails a check faults its voice, with FLTIDX at the instruction, and has no
effect; the other voices run on. The opcodes of Table RI-4 are undefined and fail an install. -/
def Obligations.RefrainFaultingInstructions : Prop :=
  ∀ (s : State) (v : VoiceId) (w : BitVec 32) (len klen : Nat) (sys : Bool),
    let x := s.voices[v]
    let n := (opOf w).toNat
    let undef := n = 0 ∨ (9 ≤ n ∧ n ≤ 0xF) ∨ n = 0x1E ∨ n = 0x1F ∨ (0x26 ≤ n ∧ n ≤ 0x2F) ∨ (0x33 ≤ n ∧ n ≤ 0x3F) ∨
      (0x52 ≤ n ∧ n ≤ 0x5F) ∨ n = 0x66 ∨ n = 0x67 ∨ 0x6C ≤ n
    let faults (i : Instr) (cause : FaultCause) : Prop := Answers i s (fun t =>
      t = { s with voices := t.voices, c := { s.c with voices := t.c.voices }, ctxs := t.ctxs, sysLog := t.sysLog } ∧
      t.c.voices = s.c.voices.set v { s.c.voices[v] with state := .fault, lastflt := cause, fltidx := BitVec.ofNat 20 x.pc } ∧
      t.voices = s.voices.set v { x with active := false, entry := none, faulted := true } ∧
      t.ctxs[ctxSYS] = (s.ctxs[ctxSYS]).push ⟨0x2001, BitVec.ofNat 16 v.val, cause.setWidth 16, s.c.mcount.setWidth 16⟩ ∧
      (∀ u : Tenant, voiceTenant v = some u → t.ctxs[ctxOf u] =
        (s.ctxs[ctxOf u]).push ⟨0x2001, BitVec.ofNat 16 v.val, cause.setWidth 16, s.c.mcount.setWidth 16⟩))
    let area := (areaField w).toNat
    let base := (w.extractLsb' 0 19).toNat + if xFlag w = true then x.xr.toNat else 0
    (undef → installOk w len klen sys = false) ∧
    (s.runs v = true → x.prog.code[x.pc]? = some w → x.entry = some .coda → undef →
      exec (.undefinedOpcode v) s = .next (s.voiceFault v 1 x.pc)) ∧
    (s.runs v = true → x.prog.code[x.pc]? = some w → x.entry ≠ some .coda →
      (undef → faults (.undefinedOpcode v) 1) ∧
      (n = 0x10 → (10 ≤ area ∨ (6 ≤ area ∧ area ≤ 9)) → faults (.xGet v) 2) ∧
      (n = 0x18 → area ≠ 1 ∧ area ≠ 2 → faults (.xPut v) 2) ∧
      (n = 0x42 → area ≠ 6 → faults (.wput v) 2) ∧
      (n = 0x10 → (area = 0 ∧ 1792 ≤ base ∨ area = 1 ∧ 1728 ≤ base ∨ area = 2 ∧ 2048 ≤ base ∨ area = 3 ∧ 1024 ≤ base) →
        faults (.xGet v) 3) ∧
      (n = 0x40 → (area = 6 ∧ 512 ≤ base ∨ area = 7 ∧ x.prog.k.length ≤ base ∨ area = 8 ∧ 1536 ≤ base ∨ area = 9 ∧ 32 ≤ base) →
        faults (.wget v) 3) ∧
      (n = 0x60 → area = 4 →
        128 ≤ (w.extractLsb' 0 7).toNat + (if xFlag w = true then x.xr.toNat / 16 else 0) → faults (.ton v) 3) ∧
      (n = 0x30 → x.prog.code.length ≤ (idxField w).toNat → faults (.goto v) 3))

/-- R21, R303, R305, R316, R318, R331, R333: the slots of the voices come in their order. A slot of a voice that runs begins
with the refresh and then MAIN from its first instruction, with empty registers; the edge bits of the working image are
clear, and the running timers have taken up their ticks. A slot in which DROP is due begins with DROP, and a memory
error faults the voice before the instruction that meets it. A voice that does not run keeps its slot. -/
def Obligations.VoiceSlotsBegin : Prop :=
  ∀ (s : State) (v : VoiceId) (d : Nat), s.running = true → s.wd.trap = false → s.pipe.wbDone = true →
    s.eng.slot = none → s.eng.next = some v → s.eng.cmdRun = false → s.eng.cmdStop = false →
    (s.voices[v]).cmdRun = false → (s.voices[v]).cmdStop = false → (s.voices[v]).cmdInst = none →
    (s.voices[v]).toStop = false →
    let x := s.voices[v]
    let r := s.c.voices[v]
    let begins (t : State) (e : Entry) (pc : Nat) : Prop :=
      t.eng.slot = some v ∧ t.eng.ran = true ∧ (∀ u : VoiceId, u ≠ v → t.voices[u] = s.voices[u] ∧ t.c.voices[u] = s.c.voices[u]) ∧
      (t.voices[v]).active = true ∧ (t.voices[v]).entry = some e ∧ (t.voices[v]).pc = pc ∧
      (t.voices[v]).rlo = false ∧ (t.voices[v]).wacc = 0 ∧ (t.voices[v]).xr = 0 ∧ (t.voices[v]).stack = [] ∧
      (t.voices[v]).cycles = 0 ∧ (t.voices[v]).first = false ∧ (t.voices[v]).raised = [] ∧
      t.c.voices[v] = { r with t := (t.c.voices[v]).t } ∧ t.nv = s.nv ∧ t.ctxs = s.ctxs ∧
      (∀ j < 1728, (t.voices[v]).qw.getLsbD j =
        (r.q.getLsbD j && !(decide (j < 1536) && [4, 11, 12, 13, 14].contains (j % 16)))) ∧
      ∀ i : Fin 128,
        let q := r.t[i]
        let n := q.acc + (if q.wall = true then s.clk.ticks - x.lastTick else x.runTicks)
        let goal := q.pre.toNat * 10 ^ q.base.toNat
        (q.run = false → (t.c.voices[v]).t[i] = q) ∧
        (q.run = true → n < goal → (t.c.voices[v]).t[i] = { q with acc := n }) ∧
        (q.run = true → goal ≤ n → ((t.c.voices[v]).t[i]).acc = goal ∧ ((t.c.voices[v]).t[i]).run = false ∧
          ((t.c.voices[v]).t[i]).dn = true)
    (s.voiceRuns v = true →
      (x.dropDue = false ∨ x.prog.drop = none → x.prog.main < x.prog.code.length → s.brkAt v x.prog.main = none →
        Answers (.voiceSlotStart v none) s (fun t => begins t .main x.prog.main) ∧
        Answers (.voiceSlotStart v (some ⟨x.prog.main, 0, .prog⟩)) s (fun t => (t.c.voices[v]).state = .fault ∧
          (t.c.voices[v]).lastflt = 6 ∧ (t.voices[v]).active = false ∧ (t.voices[v]).reload = true)) ∧
      (x.dropDue = true → x.prog.drop = some d → d < x.prog.code.length → s.brkAt v d = none →
        Answers (.voiceSlotStart v none) s (fun t => begins t .drop d ∧ (t.voices[v]).dropDue = false))) ∧
    (s.voiceRuns v = false → ∀ e, Answers (.voiceSlotStart v e) s (fun t =>
      t = { s with eng := { s.eng with slot := some v, ran := false }, pipe := { s.pipe with stage := .voice } }))

/-- R21, R22, R304, R327, R328, R330, R348, R383: the end of a slot, which the next one follows, and the latch. A voice that has
come to its end latches its working image and posts what it raised; one that has not has overrun and faults with cause 5;
a faulted one latches its safe values; one that stands at a breakpoint, or that has not run, latches nothing. -/
def Obligations.VoiceSlotsLatch : Prop :=
  ∀ (s : State) (v : VoiceId) (e : Raised), s.eng.slot = some v →
    let x := s.voices[v]
    let r := s.c.voices[v]
    let after : Engine := { s.eng with
      slot := none, ran := false
      next := if v = voiceSYS then some 0 else if v = 0 then some 1 else if v = 1 then some 2 else if v = 2 then some 3 else none
      haltDue := s.eng.haltDue || (v == 3 && (s.eng.haltReq || s.eng.brkHit || s.eng.stepping)) }
    let only (t : State) : Prop := t.eng = after ∧
      (∀ u : VoiceId, u ≠ v → t.voices[u] = s.voices[u] ∧ t.c.voices[u] = s.c.voices[u]) ∧
      t = { s with eng := t.eng, voices := t.voices, c := { s.c with voices := t.c.voices }, ctxs := t.ctxs
                   sysLog := t.sysLog }
    (s.eng.ran = false → x.active = false → Answers (.voiceSlotEnd v) s (fun t => t = { s with eng := after })) ∧
    (s.eng.ran = true →
      (x.active = false → x.broken = false →
        (x.faulted = false → x.raised = [] → Answers (.voiceSlotEnd v) s (fun t => only t ∧ t.ctxs = s.ctxs ∧
          t.c.voices[v] = { r with q := x.qw } ∧ t.voices[v] = { x with edgesOff := false })) ∧
        (x.faulted = false → x.raised = [e] → Answers (.voiceSlotEnd v) s (fun t => only t ∧
          t.c.voices[v] = { r with q := x.qw } ∧ (t.voices[v]).raised = [] ∧
          t.ctxs[voiceCtx v] = (s.ctxs[voiceCtx v]).push
            ⟨0x9001, e.code.setWidth 16, BitVec.ofNat 16 (e.more.toNat + 256 * v.val), s.c.mcount.setWidth 16⟩)) ∧
        (x.faulted = true → Answers (.voiceSlotEnd v) s (fun t => only t ∧ t.ctxs = s.ctxs ∧
          t.c.voices[v] = { r with q := x.prog.safe } ∧ t.voices[v] = { x with faulted := false, raised := [] }))) ∧
      (x.active = false → x.broken = true → Answers (.voiceSlotEnd v) s (fun t => only t ∧ t.ctxs = s.ctxs ∧
        t.c.voices[v] = r ∧ t.voices[v] = { x with broken := false, raised := [], edgesOff := true })) ∧
      (x.active = true → x.spent = true → x.entry ≠ some .coda → x.broken = false →
        Answers (.voiceSlotEnd v) s (fun t => only t ∧
          t.c.voices[v] = { r with state := .fault, lastflt := 5, fltidx := BitVec.ofNat 20 x.pc, q := x.prog.safe } ∧
          (t.voices[v]).active = false)))

/-- R262, R302, R317 to R320, R323, R327, R385: the commands of voices and engine. A command waits for the start of the next
slot; STOP has precedence over RUN; an INSTALL asks for the retention port; a voice starts with FIRST; a context that may not command a voice, and an ENGCTL RUN
in a GUARD stop, are rejected. -/
def Obligations.VoiceAndEngineCommands : Prop :=
  ∀ (s : State) (c : CtxId) (v : VoiceId),
    let x := s.voices[v]
    let r := s.c.voices[v]
    let voice (i : Instr) (y : VoiceVol) : Prop := exec i s = .next { s with voices := s.voices.set v y }
    let engine (i : Instr) (y : Engine) : Prop := exec i s = .next { s with eng := y }
    let mine := isSys c = true ∨ c.val = v.val
    (s.serves c →
      (mine → x.instBusy = false →
        (r.state ≠ .empty → voice (.vcmdRun c v) { x with cmdRun := true }) ∧
        (r.state ≠ .run → voice (.vcmdInstall c v) { x with cmdInst := some c })) ∧
      (mine → voice (.vcmdStop c v) { x with cmdStop := true }) ∧
      (¬ mine ∨ r.state = .empty ∨ x.instBusy = true → Answers (.vcmdRun c v) s (Rejected c 0x1A s)) ∧
      (¬ mine ∨ r.state = .run ∨ x.instBusy = true → Answers (.vcmdInstall c v) s (Rejected c 0x1A s)) ∧
      (isSys c = true →
        (s.c.guard = false → s.voices[voiceSYS].instBusy = false →
          engine (.engctlRun c) { s.eng with cmdRun := true }) ∧
        (s.c.guard = true → Answers (.engctlRun c) s (Rejected c 0x2A s)) ∧
        engine (.engctlStop c) { s.eng with cmdStop := true } ∧
        (s.c.guard = true → s.eng.lastOver = false → s.eng.thisOver = false →
          engine (.engctlGack c) { s.eng with gack := true })) ∧
      (isSys c = false → Answers (.engctlRun c) s (Rejected c 0x2A s) ∧
        Answers (.engctlStop c) s (Rejected c 0x2A s) ∧ Answers (.engctlGack c) s (Rejected c 0x2A s))) ∧
    (s.running = true → s.wd.trap = false →
      (s.pipe.wbDone = true → s.eng.slot = none → s.eng.next = some v → x.toStop = false → x.cmdInst = none →
        Answers (.voiceCommandApply v) s (fun t =>
          t = { s with voices := t.voices, c := { s.c with voices := t.c.voices } } ∧
          (∀ u : VoiceId, u ≠ v → t.voices[u] = s.voices[u] ∧ t.c.voices[u] = s.c.voices[u]) ∧
          (t.voices[v]).cmdRun = false ∧ (t.voices[v]).cmdStop = false ∧
          (x.cmdStop = true → t.c.voices[v] = { r with state := if r.state = .empty then .empty else .stop }) ∧
          (x.cmdStop = false → x.cmdRun = true → (r.state = .stop ∨ r.state = .fault) → x.restore = [] →
            t.c.voices[v] = { r with state := .run } ∧ (t.voices[v]).first = true) ∧
          (x.cmdStop = false → x.cmdRun = false → t.c.voices[v] = r))) ∧
      (s.pipe.wbDone = true → s.eng.slot = none → s.eng.next = some v → x.toStop = false → x.cmdInst = some c →
        x.cmdRun = false → x.cmdStop = false → r.state ≠ .run → Answers (.voiceCommandApply v) s (fun t =>
          t = { s with voices := t.voices, nv := { s.nv with port := t.nv.port } } ∧
          (∀ u : VoiceId, u ≠ v → t.voices[u] = s.voices[u]) ∧
          t.voices[v] = { x with cmdInst := none, instBusy := true, instCtx := c } ∧
          t.nv.port.asks (.install v) = true)) ∧
      (s.pipe.wbDone = true → s.eng.slot = none → s.eng.next = some voiceSYS →
        (s.eng.cmdStop = true → Answers .engineCommandApply s (fun t => t.c = { s.c with engStop := true } ∧
          t.eng = { s.eng with cmdRun := false, cmdStop := false } ∧ t = { s with c := t.c, eng := t.eng })) ∧
        (s.eng.cmdStop = false → s.eng.cmdRun = true → s.c.engStop = true → s.c.guard = false →
          (s.voices[voiceSYS]).instBusy = false →
          Answers .engineCommandApply s (fun t => t.c = { s.c with engStop := false } ∧
            t.eng = { s.eng with cmdRun := false, cmdStop := false } ∧
            (∀ u : VoiceId, t.voices[u] = { s.voices[u] with first := true }) ∧
            t = { s with c := t.c, eng := t.eng, voices := t.voices }))) ∧
      (s.eng.haltDue = true → Answers .haltEntry s (fun t =>
        t.eng = { s.eng with halted := true, haltReq := false, haltDue := false, brkHit := false, stepping := false } ∧
        t = { s with eng := t.eng, timers := t.timers } ∧
        ∀ k : TimerId, t.timers[k] = { s.timers[k] with loose := (t.timers[k]).loose })))

/-- R262, R321, R324, R325, R358, R368, R369, R382: an install, at its last port access. One whose image fails a check
changes neither the active program nor the voice's state, and shows the step that failed; one whose image passes all of
them writes the other install slot with the next IEPOCH, and the staged area becomes the active one; where that word
fails its check twice, step 7 has failed and the install has no effect. -/
def Obligations.InstallsSwitchWhole : Prop :=
  ∀ (s : State) (v : VoiceId) (w : Nat),
    let x := s.voices[v]
    let m := s.nv.mem
    let base := progBase v (s.nv.stagedArea v)
    let len := (imgWord m base 1).toNat
    let klen := (imgWord m base 5).toNat
    let sys := v == voiceSYS
    let noneOr (y : BitVec 32) : Prop := y = 0x000FFFFF ∨ y.toNat < len
    let passes : Prop := imgWord m base 0 = 0x00010000 ∧ 4 * imgLen m base ≤ progSize v ∧
      imgCrc m base = imgWord m base 7 ∧ 1 ≤ len ∧ len ≤ progLimit v ∧ klen ≤ 1024 ∧ (imgWord m base 2).toNat < len ∧
      noneOr (imgWord m base 3) ∧ noneOr (imgWord m base 4) ∧ (sys = false → imgWord m base 4 = 0x000FFFFF) ∧
      (∀ i < len, installOk (imgWord m base (8 + i)) len klen sys = true) ∧
      (∀ j < 1536, ([1, 4, 11, 12, 13, 14].contains (j % 16) = true ∨ j % 16 = 15 ∧ sys = false) →
        (loadProgram m base).safe.getLsbD j = false)
    let rest (t : State) : Prop := t.nv = { s.nv with port := t.nv.port } ∧ t.c = s.c
    x.instBusy = true → s.nv.port.holds (.install v) = true → x.instCtx ≠ ctxDbg →
      (imgWord m base 0 ≠ 0x00010000 → ∀ f, Answers (.installVerifyDone v none f) s (fun t => rest t ∧
        t.voices[v] = { x with instBusy := false, instres := 1, failidx := 0 })) ∧
      (imgWord m base 0 = 0x00010000 → ∀ f,
        Answers (.installVerifyDone v (some w) f) s (fun t => rest t ∧
          t.voices[v] = { x with instBusy := false, instres := 2, failidx := BitVec.ofNat 20 w } ∧
          t.ctxs[x.instCtx] = (s.ctxs[x.instCtx]).push ⟨0x2003, BitVec.ofNat 16 v.val, 2, s.c.mcount.setWidth 16⟩)) ∧
      (passes →
        (Answers (.installVerifyDone v none true) s (fun t => rest t ∧
          (t.voices[v]).instres = 7 ∧ (t.voices[v]).prog = x.prog ∧ (t.voices[v]).toStop = x.toStop)) ∧
        (Answers (.installVerifyDone v none false) s (fun t =>
          (s.nv.activeInst v = none →
            t.nv.activeInst v = some (0, ⟨s.nv.stagedArea v, s.c.voices[v].clrdata, 1⟩)) ∧
          (∀ old, s.nv.activeInst v = some old →
            t.nv.activeInst v = some (1 - old.1, ⟨!old.2.area, s.c.voices[v].clrdata, old.2.iepoch + 1⟩)) ∧
          t.nv = { s.nv with port := t.nv.port, inst := t.nv.inst } ∧ (t.voices[v]).prog = loadProgram m base ∧
          (t.voices[v]).toStop = true ∧ (t.voices[v]).instBusy = false ∧ (t.voices[v]).instres = 0 ∧
          (∀ u : VoiceId, u ≠ v → t.voices[u] = s.voices[u] ∧ t.c.voices[u] = s.c.voices[u] ∧
            t.nv.inst[u] = s.nv.inst[u]) ∧
          (s.c.voices[v].clrdata = false → t.c = s.c) ∧
          (s.c.voices[v].clrdata = true → (t.c.voices[v]).q = 0 ∧ (t.c.voices[v]).m = 0 ∧ (t.c.voices[v]).e = 0 ∧
            (t.c.voices[v]).state = s.c.voices[v].state ∧ ∀ i : Fin 512, (t.c.voices[v]).w[i] = 0))))

/-- R44, R276, R277, R279 to R281, R283 to R286: the timer channels. Within a tick a free clock gives a channel the counts of
R44: a channel that counts past PER wraps, sets WRAP and counts in the channel above that cascades; MATCH, DONE and a
capture set their flag or their entry; each posts its event when it is enabled; a read of CAPQ removes the oldest entry;
TMRSYNC loads PHASE into the channels that it names. -/
def Obligations.TimerChannels : Prop :=
  ∀ (s : State) (n m : TimerId) (c : CtxId) (w count : Word) (rising : Bool) (x : Word × BitVec 8)
    (rest : List (Word × BitVec 8)),
    let g := s.act.timers[n]
    let q := s.timers[n]
    let own := s.chanOwner n
    let at' := (s.c.tcount[n]).toNat
    let per := g.per.toNat
    let cmp := g.cmp.toNat
    let edges := if g.clksel = 0 then 96000 else if g.clksel = 1 then 48000 else if g.clksel = 2 then 32 else 0
    let left := if g.clksel = 4 then 65536 else (q.pre + edges) / 2 ^ g.presc.toNat - q.used
    let toEnd := if at' ≤ per then per - at' + 1 else 65536 - at' + per + 1
    let passes : Bool := decide ((at' ≤ per ∧ at' < cmp ∧ cmp ≤ per) ∨ (per < at' ∧ (at' < cmp ∨ cmp ≤ per ∧ cmp ≠ 0)))
    let only (t : State) : Prop :=
      t = { s with c := { s.c with tcount := t.c.tcount }, timers := t.timers, ctxs := t.ctxs, sysLog := t.sysLog }
    let ev (t : State) (bit : Nat) (a1 : Word) : Prop :=
      (g.ie.getLsbD bit = true → Posted own (BitVec.ofNat 16 (0x5001 + bit)) (BitVec.ofNat 16 n.val) a1 s t) ∧
      (g.ie.getLsbD bit = false → t.ctxs = s.ctxs)
    let alone := ∀ k, nextChan n = some k → s.act.timers[k].casc = false
    let does (i : Instr) (cnt : Word) (q' : TimerSt) : Prop := Answers i s (fun t => only t ∧
      t.c.tcount = s.c.tcount.set n cnt ∧ t.timers = s.timers.set n q')
    let evs (i : Instr) (bit : Nat) (a1 : Word) : Prop := Answers i s (fun t => ev t bit a1)
    (g.en = true → g.casc = false → g.clksel ≠ 3 → s.frozen n = false → q.stopped = false →
      (g.oneshot = false → toEnd ≤ left →
        (alone → per < 65535 ∨ passes = false →
          does (.timerWrap n) 0 { q with wrap := true, match_ := q.match_ || passes || decide (cmp = 0), out := decide (cmp ≠ 0)
                                         used := q.used + toEnd } ∧
          (passes = false → cmp ≠ 0 → evs (.timerWrap n) 0 0)) ∧
        (nextChan n = some m → s.act.timers[m].casc = true → s.frozen m = false → s.timers[m].stopped = false →
          s.c.tcount[m] ≠ s.act.timers[m].per → Answers (.timerWrap n) s (fun t => only t ∧ t.c.tcount[n] = 0 ∧
            t.c.tcount[m] = s.c.tcount[m] + 1 ∧ (t.timers[n]).wrap = true))) ∧
      (at' < cmp → cmp ≤ per → cmp - at' ≤ left →
        does (.timerMatch n) g.cmp { q with match_ := true, out := false, used := q.used + (cmp - at') } ∧
        evs (.timerMatch n) 1 0) ∧
      (alone → g.oneshot = false → cmp ≤ at' → at' ≤ per → per - at' + 1 + cmp ≤ left →
        does (.timerMatch n) g.cmp { q with wrap := true, match_ := true, out := false, used := q.used + (per - at' + 1 + cmp) }) ∧
      (g.oneshot = true → toEnd ≤ left → at' ≤ per →
        does (.timerOneshotDone n) g.per { q with
          done := true, stopped := true, match_ := q.match_ || passes, out := q.out && !passes, used := q.used + toEnd } ∧
        (passes = false → evs (.timerOneshotDone n) 2 0))) ∧
    (g.casc = false → alone → 8 ≤ g.capsel.toNat → g.capsel.toNat < 0x40 →
      let runs : Bool := g.en && g.clksel != 3 && !s.frozen n && !q.stopped
      let got : Word := if runs then BitVec.ofNat 16 ((at' + count.toNat % (left + 1)) % (per + 1)) else s.c.tcount[n]
      (q.queue.length < 4 → does (.timerCapture n count rising) s.c.tcount[n] { q with queue := q.queue ++ [(got, g.capsel)] } ∧
        evs (.timerCapture n count rising) 3 got) ∧
      (4 ≤ q.queue.length → Answers (.timerCapture n count rising) s (fun t =>
        t = { s with timers := s.timers.set n { q with capovf := true } }))) ∧
    (s.running = true → s.held = none → s.isOpen c = true → c ≠ ctxDbg → isSys c = true ∨ own = c →
      (q.queue = x :: rest → Answers (.capqRead c n) s (fun t => t.hd = x.1 ∧
        t = { s with hd := t.hd, timers := s.timers.set n { q with queue := rest, lastsrc := q.lastsrc.set c x.2 } })) ∧
      (q.queue = [] → Answers (.capqRead c n) s (fun t => t.hd = 0 ∧
        t = { s with hd := t.hd, timers := s.timers.set n { q with lastsrc := q.lastsrc.set c 0 } }))) ∧
    (s.serves c →
      let may (k : TimerId) : Prop := s.chanOwner k = if isSys c = true then ctxSYS else c
      ((∀ k : TimerId, s.act.timers[k].casc = false) → (∀ k : TimerId, w.getLsbD k.val = true → may k) →
        Answers (.tmrsync c w) s (fun t => t.ctxs = s.ctxs ∧
          t = { s with c := { s.c with tcount := t.c.tcount, trest := t.c.trest }, timers := t.timers } ∧
          ∀ k : TimerId, t.c.tcount[k] =
            if w.getLsbD k.val = true ∧ s.act.timers[k].syncsel = 0 ∧ s.frozen k = false then s.act.timers[k].phase
            else s.c.tcount[k])) ∧
      (w.getLsbD n.val = true → ¬ may n → Answers (.tmrsync c w) s (Rejected c 0x5A s)))

/-- R143, R263, R387, R389 to R392, R394 to R397: the watchdog. The first accepted write of WDCTL enables and locks; the keys of
WDKICK alternate, and a wrong one raises the trap; the trap stops the count, releases every grant, sheds every bay, posts
WDTRAP and starts CODA; the hard timer and the monitor reset the hub. -/
def Obligations.WatchdogTrapsAndResets : Prop :=
  ∀ (s : State) (c : CtxId) (w : Word) (us : Nat) (v : VoiceId),
    let x := s.wd
    let traps (i : Instr) (cause : BitVec 4) : Prop := Answers i s (fun t =>
      t.wd.trap = true ∧ t.wd.cause = cause ∧ t.wd.counting = false ∧ t.wd.hard = true ∧ t.eng.slot = none ∧
      (s.running = true → s.pipe.closed = true ∨ (∀ k : TileNo, s.ring.shedCnt[k] < 2) →
        t.ring.sheds = s.ring.sheds ++ [{ set := shedAll }]) ∧ (s.running = false → t.ring = s.ring) ∧
      (∀ b : Bay, (t.bays[b]).wb.granted = false) ∧ Posted ctxSYS 0x800A (cause.setWidth 16) 0 s t ∧ t.c = s.c ∧ t.tiles = s.tiles ∧
      (s.eng.slot = some v → v ≠ voiceSYS → (t.voices[v]).active = false ∧ (t.voices[v]).qw = (s.voices[v]).qw) ∧
      (∀ pc, (s.voices[voiceSYS]).prog.coda = some pc → pc < (s.voices[voiceSYS]).prog.code.length →
        (∀ e, (s.voices[voiceSYS]).memErr = some e → e.idx ≠ pc) → t.wd.coda = true ∧ t.nv = s.nv ∧
        (t.voices[voiceSYS]).qw = s.c.voices[voiceSYS].q ∧ (t.voices[voiceSYS]).cycles = 0 ∧
        (t.voices[voiceSYS]).active = true ∧ (t.voices[voiceSYS]).entry = some .coda ∧ (t.voices[voiceSYS]).pc = pc ∧
        (t.voices[voiceSYS]).rlo = false ∧ (t.voices[voiceSYS]).stack = []) ∧
      ((s.voices[voiceSYS]).prog.coda = none → t.wd.coda = false ∧ t.wd.recDue = true ∧ t.nv.mem = s.nv.mem ∧
        t.nv.port = s.nv.port.ask .coda 256))
    (s.servesSys c → x.en = false → (w.extractLsb' 0 4).toNat ≤ 9 → w.extractLsb' 6 10 = 0 → s.wd.trap = false →
      exec (.wdctlWrite c w) s = .next { s with wd := { x with
        en := true, per := w.extractLsb' 0 4, clksel := w.getLsbD 4, dbgfrz := w.getLsbD 5, count := 0, counting := true
        period := 16 * 2 ^ (w.extractLsb' 0 4).toNat } }) ∧
    (s.servesSys c → x.en = true → Answers (.wdctlWrite c w) s (Rejected c 0x36 s)) ∧
    (s.serves c → isSys c = false → Answers (.wdctlWrite c w) s (Rejected c 0x36 s)) ∧
    (s.busOn = true →
      (isSys c = false ∨ x.en = false → Answers (.wdkick c w us) s (Rejected c 0x34 s)) ∧
      (c = ctxSYS ∨ (c = ctxDbg ∧ s.mayWrite c = true) → x.en = true →
        (x.trap = true → exec (.wdkick c w us) s = .next s) ∧
        (x.trap = false →
          (w = (if x.keyB = true then 0xC3A5 else 0x5A3C) → Answers (.wdkick c w us) s (fun t =>
            t = { s with wd := { x with keyB := !x.keyB, count := 0, kicks := t.wd.kicks, kicked := !s.running } } ∧
            t.wd.kicks.getLast? = some ⟨s.c.mcount.setWidth 16, satWord
              (if s.running = true then 1000 * s.clk.tick + us % 1000 else us)⟩)) ∧
          (w ≠ (if x.keyB = true then 0xC3A5 else 0x5A3C) → traps (.wdkick c w us) 2)))) ∧
    (x.en = true → x.counting = true → x.trap = false → s.eng.halted = false → 32 * x.period < x.count + 32 →
      traps (.watchdogExpire us) 1) ∧
    (s.powered = true →
      (x.hard = true → (∀ k, x.hardT = some k → 4 ≤ k) → Answers .hardTimerEnd s (ResetBy 3 s)) ∧
      (x.en = true → s.start.cause ≠ 7 ∨ x.counting = true ∨ x.trap = true → Answers .watchdogClockStop s (ResetBy 4 s)))

/-- R263, R349, R392, R393, R398, R399: CODA's record. The first SNAP of a CODA writes a record with its tag and sets RLO; a
second one writes nothing and clears RLO; a SNAP that meets a journal in progress waits for it. For a CODA that ends
without a record the hub asks for the port as CODA does and writes one with the tag 0 once no journal has the port, unless a
line of it fails twice. -/
def Obligations.CodaWritesOneRecord : Prop :=
  ∀ (s : State) (w : BitVec 32) (k : Fin 4),
    let v := voiceSYS
    let x := s.voices[v]
    let seq : BitVec 32 := match latestSeq s.nv with | some y => y + 1 | none => 1
    Memory.wf s.nv.mem = true → codaChoice s.nv s.act.ring.keep = some k → s.wd.lapsed = false →
    (opOf w = 0x07 → s.executes v w 2 → s.goesOn v (x.pc + 1) → x.entry = some .coda →
      (s.wd.snapped = false → s.nv.port.asks .journal = true → Answers (.snap v none) s (fun t =>
        t = { s with nv := { s.nv with port := t.nv.port }, wd := { s.wd with recWait := true } } ∧
        t.nv.port.asks .coda = true)) ∧
      (s.wd.snapped = false → s.nv.port.asks .journal = false → x.cycles < 192000 → Answers (.snap v none) s (fun t =>
        CodaHead t.nv.mem k (w.extractLsb' 0 8) seq ∧ t.nv.codaBad = s.nv.codaBad.set k false ∧
        t.voices[v] = { x with rlo := true, pc := x.pc + 1, cycles := x.cycles + 2050 } ∧
        t.wd = { s.wd with snapped := true, written := true } ∧ t.c = s.c ∧ t.ctxs = s.ctxs)) ∧
      (s.wd.snapped = true →
        let y : VoiceVol := { x with rlo := false, pc := x.pc + 1, cycles := x.cycles + 2 }
        exec (.snap v none) s = .next { s with voices := s.voices.set v y })) ∧
    (s.wd.coda = true → (∀ j, s.wd.hardT = some j → 2 ≤ j) →
      (s.nv.port.asks .coda = true → exec .codaBudgetEnd s = .next { s with wd := { s.wd with lapsed := true } }) ∧
      (s.nv.port.asks .coda = false → s.wd.written = true → Answers .codaBudgetEnd s (fun t =>
        t.wd = { s.wd with coda := false } ∧ t.nv = s.nv ∧ (t.voices[v]).active = false)) ∧
      (s.nv.port.asks .coda = false → s.wd.written = false → Answers .codaBudgetEnd s (fun t =>
        t.wd = { s.wd with coda := false, recDue := true, recAt := 2000, recWait := s.wd.recWait || s.nv.port.asks .journal } ∧
        t.nv = { s.nv with port := s.nv.port.ask .coda 256 } ∧ (t.voices[v]).active = false ∧ t.c = s.c))) ∧
    (s.wd.recDue = true → s.nv.port.asks .journal = false → s.running = true → s.clk.tick + 1 < s.period →
      s.start.stage = .tutti ∨ s.start.meas ≠ 0 → s.wdQuiet = true → Answers (.tickBeat {}) s (fun t =>
        t.wd.recDue = false ∧ t.nv.port = s.nv.port.release .coda ∧
        (256 ≤ Config.freeNat s.free → CodaHead t.nv.mem k 0 seq ∧ t.wd.written = true)))

/-- R38 to R43, R51 to R53, R61, R440: the clocks. That CLKSTAT.SRC shows the old reference until the lock is the model's
choice (log entry 89). A lost crystal moves the root to the RC and is not tried again by
itself; a requalified one takes the root back; a calibration within its range sets LFCAL and one outside it leaves LFCAL
with LFFAIL; a lost PLL resets the hub. -/
def Obligations.ClockCommands : Prop :=
  ∀ (s : State) (c : CtxId) (w : Word) (n : Nat),
    let k := s.clk
    let clock (i : Instr) (y : Clock) : Prop := exec i s = .next { s with clk := y }
    (s.running = true →
      (k.retry = true → s.c.set.clk.srcsel = 0 → k.srcRc = true →
        clock .xtalQualify { k with xtal := .qualified, retry := false, slew := true, slewRc := false }) ∧
      (k.srcRc = false → k.slew = false → Answers .xtalEdgeLoss s (fun t => Posted ctxSYS 0x8004 0 0 s t ∧
        t = { s with ctxs := t.ctxs, sysLog := t.sysLog, clk :=
          { k with slew := true, slewRc := true, xtalfail := true, noTry := true, retry := false, xtal := .stopped
                   calib := .none } }))) ∧
    (s.running = false → s.powered = true → k.xtal = .running → k.noTry = false →
      clock .xtalQualify { k with xtal := .qualified }) ∧
    (k.slew = true → s.mode.calOk = true → s.mode.dorm = .calib → s.c.set.clk.srcsel = 0 → k.slewRc = false →
      exec .slewLock s = .next { s with clk := { k with slew := false, srcRc := false }
                                        mode := { s.mode with calOk := false, dorm := .journal } }) ∧
    (k.slew = true → s.mode.calOk = false → s.c.set.clk.srcsel = 0 →
      (k.slewRc = false ∨ k.xtal ≠ .qualified → clock .slewLock { k with slew := false, srcRc := k.slewRc }) ∧
      (k.slewRc = true → k.xtal = .qualified → clock .slewLock { k with srcRc := true, slewRc := false })) ∧
    (s.powered = true → Answers .pllUnlock s (ResetBy 5 s) ∧
      clock (.lfCalibrationStart false) { k with calib := .normal } ∧
      (s.mode.dorm = .calib → k.slew = false → clock (.lfCalibrationStart true) { k with calib := .presleep })) ∧
    (k.calib ≠ .none → k.calib = .normal ∨ s.mode.dorm ≠ .calib →
      (2891294 ≤ n → n ≤ 3276800 → clock (.lfCalibrationDone n)
        { k with calib := .none, lfcal := BitVec.ofNat 22 n, calRc := k.srcRc }) ∧
      (n < 2891294 ∨ 3276800 < n → Answers (.lfCalibrationDone n) s (fun t => Posted ctxSYS 0x8005 0 0 s t ∧
        t = { s with ctxs := t.ctxs, sysLog := t.sysLog, clk := { k with calib := .none, lffail := true } }))) ∧
    (s.servesSys c → k.slew = false → k.srcRc = true → s.c.set.clk.srcsel = 0 →
      clock (.clkctlRetry c) { k with xtal := .running, retry := true, noTry := false }) ∧
    (s.servesSys c → w.extractLsb' 7 9 = 0 → w.getLsbD 1 = false → w.getLsbD 6 = false →
      (w.getLsbD 0 = s.c.set.clk.srcsel.getLsbD 0 → s.c.set.clk.srcsel.getLsbD 1 = false → Answers (.srcselWrite c w) s
        (fun t => t = { s with c := t.c } ∧ t.c = { s.c with set := { s.c.set with clk :=
          { srcsel := w.extractLsb' 0 2, xtalppm := w.extractLsb' 2 2, dormband := w.extractLsb' 4 2 } } })) ∧
      (w.getLsbD 0 = true → s.c.set.clk.srcsel = 0 → s.running = true → k.srcRc = false → k.slew = false →
        Answers (.srcselWrite c w) s (fun t => t.c.set.clk.srcsel = 1 ∧
          t.clk = { k with slew := true, slewRc := true, retry := false }))) ∧
    (s.servesSys c → w.getLsbD 1 = true → Answers (.srcselWrite c w) s (Rejected c 0x60 s))

/-- R401 to R410, R436: the feeders. Each command moves its feeder as Table KP-2 says, when its timers have come to what the
rules ask; a failed attempt is counted and leads to RETRY twice and then to LOCKOUT; only one feeder ramps; the loss of
the input is no failed attempt. The limit condition is reached by the current or by the power. The other feeder keeps
its counter. -/
def Obligations.FeederStates : Prop :=
  ∀ (s : State) (f g : FeederId) (c : CtxId) (l : List FeedObs) (vs : Nat), g ≠ f →
    let x := s.feeders[f]
    let y := x.sees l
    let permit : Bool := s.inTutti && s.latch.breset != .cut
    let ready := s.act.power.feed[f].en = true ∧ permit = true
    let calm (z : Feeder) : Feeder := { z with plt := 0, pltGap := 0, clean := 0, rampUs := 0, lowUs := 0, lim := false }
    let gv (i : Instr) (z : Feeder) : Prop := Answers i s (fun t => t.feeders[f] = z ∧
      (t.feeders[g]).att = (s.feeders[g]).att ∧ t.tiles = s.tiles ∧ t.nv = s.nv ∧ t.clk = s.clk)
    let only (i : Instr) (z : Feeder) : Prop := exec i s = .next { s with feeders := s.feeders.set f z }
    let fails (i : Instr) (cause : BitVec 2) : Prop :=
      gv i { calm x with att := min 3 (x.att + 1), cause := cause, revblk := false, retryT := 0
                         state := if x.att < 2 then .retry else .lockout } ∧
      (s.inTutti = false → x.att < 2 → Answers i s (fun t => Posted ctxSYS 0x6001 (BitVec.ofNat 16 f.val) (cause.setWidth 16) s t))
    let limit (o : FeedObs) : Prop := x.use.vlimUv ≤ o.vsns ∨ 1000 * x.use.plimW * x.use.rsnsUo ≤ o.vds * o.vsns
    (x.state = .off → s.mode.dorm = .none → s.start.isDorm = false → gv (.feedInputQualify f) (if ready
      then { x with inqual := true, state := .wait } else { x with inqual := true })) ∧
    (x.state ≠ .off → gv (.feedInputLost f) { calm x with inqual := false, state := .off, revblk := false }) ∧
    (x.state = .off → gv (.feedInputLost f) { x with inqual := false }) ∧
    (x.state = .wait → (s.feeders[g]).state ≠ .ramp → f = 0 ∨ (s.feeders[g]).state ≠ .wait →
      only (.feederRampStart f) { calm x with state := .ramp, use := s.act.power.feed[f] }) ∧
    (x.state = .wait → (s.feeders[g]).state = .ramp → exec (.feederRampStart f) s = .next s) ∧
    (ready → x.inqual = true →
      (x.state = .ramp → 100 ≤ y.lowUs → gv (.feederRampDone f l) { x with state := .on, clean := 0, onT := 0 }) ∧
      (x.state = .retry → 990 ≤ x.retryT → gv (.feederRetryEnd f) { x with state := .wait })) ∧
    (x.state = .ramp → 200000 ≤ y.rampUs → y.lowUs < 100 → fails (.feederRampTimeout f l) 3) ∧
    (x.state = .ramp ∨ x.state = .on ∧ x.revblk = false →
      (x.use.pltUs ≤ y.plt → fails (.feederPltExpire f l) 1) ∧
      (2 * x.use.vlimUv ≤ vs → fails (.feederFastTrip f vs) 2) ∧
      (vs < 2 * x.use.vlimUv → exec (.feederFastTrip f vs) s = .next s)) ∧
    (x.state = .ramp ∨ x.state = .on → ∀ o, l = [o] →
      (limit o → y.plt = x.plt + o.us ∧ y.clean = 0 ∧ y.lim = true) ∧
      (¬ limit o → y.lim = false ∧ y.plt = (if 100 ≤ x.pltGap + o.us then 0 else x.plt) ∧
        (x.state = .on → y.clean = x.clean + o.us))) ∧
    (x.state = .on → (10000000 ≤ y.clean → only (.feederCounterClear f l) { x with att := 0 }) ∧
      only (.feederReverseBlock f) { x with revblk := true } ∧ only (.feederReverseClear f) { x with revblk := false } ∧
      (s.mode.mode = .holdover → 200 ≤ x.onT →
        exec (.holdoverExit f) s = .next { s with mode := { s.mode with exitDue := true } })) ∧
    (s.servesSys c → x.state = .lockout → Answers (.feedctlClrlo c f) s (fun t =>
      (t.feeders[f]).att = 0 ∧ (t.feeders[f]).state = (if x.inqual = true ∧ ready then .wait else .off) ∧
      (t.feeders[g]).att = (s.feeders[g]).att)) ∧
    (s.serves c → isSys c = false → Answers (.feedctlClrlo c f) s (Rejected c (0x60 + 4 * f.val) s))

/-- R412 to R414, R417, R420 to R424, R432: the keeper's sources and the reserve battery. A change of source breaks before it
makes; with the battery switch open the node is regulated to VNODE, and to its reset value in safe trickle; detection
finds the battery missing, present, low or shorted; an overcurrent opens the switch and discards the charge. -/
def Obligations.KeeperAndBattery : Prop :=
  ∀ (s : State) (src : Fin 4) (a b bat ma : Nat),
    let k := s.keeper
    let keeper (i : Instr) (y : Keeper) : Prop := exec i s = .next { s with keeper := y }
    let event (i : Instr) (y : Keeper) (code a0 : Word) : Prop := Answers i s (fun t => Posted ctxSYS code a0 0 s t ∧
      t = { s with keeper := y, ctxs := t.ctxs, sysLog := t.sysLog })
    let close := max 8000 (s.act.keep.cells.toNat * (if s.act.keep.prof = 3 then 3000 else 900))
    let inList (i : Fin 4) : Prop := i ∈ priList s.act.power.kpri
    let on := s.powered = true ∧ s.latch.breset ≠ .cut
    let probes := k.step = .probing ∨ k.step = .charging
    let noneOut (y : Keeper) : Keeper := { y with iout := 0, wasOut := 0 }
    (k.batsw = false → s.nodeTarget = some (if k.trickle = true then 13000 else s.act.power.vnode.toNat * 100)) ∧
    (∀ p : PortId, on → src.val = 2 + p.val → s.portFeeds p = true → k.qual = Vector.replicate 4 false → k.src = 0 → k.pendSrc = none →
      s.mode.dorm = .none → inList src → ((s.running = false ∧ s.start.recalled = false) ∨ k.probed = true ∨ k.batst ≠ .present) →
        keeper (.keeperSourceQualify src) (noneOut { k with
          qual := k.qual.set src true, pendSrc := some (srcCode src), buck := false })) ∧
    (on → k.src = srcCode src → k.pendSrc = none → (∀ i, k.qual[i] = decide (i = src)) →
      (¬ probes → event (.keeperSourceLost src)
        (noneOut { k with qual := Vector.replicate 4 false, src := 0, pendSrc := none, buck := false }) 0x6003 0) ∧
      (probes → event (.keeperSourceLost src) (noneOut { k with
        qual := Vector.replicate 4 false, src := 0, pendSrc := none, buck := false, batsw := true, batst := .unknown
        step := .idle, preTicks := 0 }) 0x6003 0)) ∧
    (∀ old : Fin 4, on → k.src = srcCode old → k.pendSrc = none → k.qual[src] = true → inList src → inList old →
      (priList s.act.power.kpri).idxOf src < (priList s.act.power.kpri).idxOf old →
      kholdMs s.act.power.khold ≤ k.qualT[src] → keeper (.kholdExpire src)
        { k with wasOut := k.iout, iout := 0, src := 0, pendSrc := some (srcCode src), buck := false }) ∧
    (on → k.pendSrc = some (srcCode src) → event .keeperSwitchClose
      { k with src := srcCode src, pendSrc := none, buck := !k.hot, iout := if k.hot = true then 0 else k.wasOut } 0x6004 (BitVec.ofNat 16 (src.val + 1))) ∧
    (k.step = .opened →
      (975 * 16384 ≤ 1000 * a → 975 * 16384 ≤ 1000 * b → keeper (.batteryDetection a b bat)
        { k with probed := true, bat := bat, openRun := 0, shutRun := 0, batst := .missing, step := .idle }) ∧
      (1000 * a < 975 * 16384 ∨ 1000 * b < 975 * 16384 →
        (close ≤ bat → keeper (.batteryDetection a b bat) { k with
          probed := true, bat := bat, openRun := 0, shutRun := 0, batsw := true, bscont := true, batst := .present
          step := .idle, preTicks := 0 }) ∧
        (bat < close → keeper (.batteryDetection a b bat)
          { k with probed := true, bat := bat, openRun := 0, shutRun := 0, step := .probing }))) ∧
    (k.step = .probing →
      (bat < 200 → keeper (.batteryProbeEnd bat)
        { k with batsw := false, bscont := false, batst := .shorted, step := .idle, bat := bat }) ∧
      (200 ≤ bat → keeper (.batteryProbeEnd bat) { k with batst := .low, step := .charging, bat := bat, preTicks := 0 })) ∧
    (k.step = .probing ∨ k.step = .charging → keeper .batteryReachVclose
      { k with batsw := true, bscont := true, batst := .present, step := .idle, preTicks := 0 }) ∧
    (s.running = true → (k.batst = .shorted ∧ 60000 ≤ k.shortT) ∨ (k.batst = .missing ∧ 3 ≤ k.shutRun) →
      (∃ i, inList i ∧ k.qual[i] = true) →
      keeper .batteryRedetect { k with batsw := false, bscont := false, step := .opened, shortT := 0 }) ∧
    (ma ≤ batocMa s.act.power.batoc → exec (.batteryOvercurrent ma) s = .next s) ∧
    (s.powered = true → k.batsw = true → batocMa s.act.power.batoc < ma → Answers (.batteryOvercurrent ma) s (fun t => Posted ctxSYS 0x6006 0 0 s t ∧
      t.keeper = { k with batsw := false, bscont := false, batst := .shorted } ∧ t.c = { s.c with keep := {} } ∧
      t = { s with keeper := t.keeper, c := t.c, keep := {}, ctxs := t.ctxs, sysLog := t.sysLog })) ∧
    (s.powered = true → k.hot = false → event .keeperHot { k with hot := true, buck := false, iout := 0 } 0x6008 0) ∧
    (k.hot = true → keeper .keeperCool { k with hot := false, buck := k.src != 0 }) ∧
    (s.start.stage = .held → keeper .startupRegulator { k with regulator := true })

/-- R425 to R427, R429, R430, R439: the battery latch, the button, SHIP and the triggers of DORMANT. -/
def Obligations.LatchButtonAndTriggers : Prop :=
  ∀ (s : State) (c : CtxId) (len : Nat) (w : Word),
    let l := s.latch
    let latch (i : Instr) (y : Latch) : Prop := exec i s = .next { s with latch := y }
    (l.ship = false → exec .latchBatRise s = .next { s with keeper := { s.keeper with batsw := true, bscont := false } }) ∧
    (l.ship = true → exec .latchBatRise s = .next { s with keeper := { s.keeper with bscont := false } }) ∧
    (s.alive = true → s.mode.dorm = .none → Answers .buttonPress s (fun t => Posted ctxSYS 0x6009 0 0 s t ∧
      t = { s with latch := { l with pressed := true }, ctxs := t.ctxs, sysLog := t.sysLog })) ∧
    (s.alive = true → l.pressed = true → Answers (.buttonRelease len) s (fun t =>
      Posted ctxSYS 0x600A (BitVec.ofNat 16 (min 65535 len)) 0 s t ∧
      t = { s with latch := { l with pressed := false, counted := true }, ctxs := t.ctxs, sysLog := t.sysLog })) ∧
    (l.pressed = true → l.ship = false → l.breset = .none →
      (l.counted = true →
        latch .buttonResetHold { l with counted := false, breset := .preparing, ready := false, shipDue := false }) ∧
      (l.counted = false → exec .buttonResetHold s = .next s)) ∧
    (l.breset = .preparing → Answers .buttonResetCut s (fun t =>
      t.latch = { l with breset := .cut } ∧ t.tiles = s.tiles ∧ t.nv = s.nv ∧
      (s.inTutti = false → t = { s with
        latch := t.latch, keeper := t.keeper, feeders := t.feeders, mode := { s.mode with exitDue := false } }) ∧
      t.keeper = { s.keeper with batsw := false, bscont := false, src := 0, pendSrc := none, buck := false, iout := 0 } ∧
      ∀ f : FeederId, t.feeders[f] = { s.feeders[f] with
        state := .off, revblk := false, plt := 0, pltGap := 0, clean := 0, rampUs := 0, lowUs := 0, lim := false })) ∧
    (l.breset = .cut → exec .buttonResetRelease s = .next { s with
      latch := { l with breset := .none, ready := false }, keeper := { s.keeper with batsw := true } }) ∧
    (s.servesSys c →
      latch (.shipctl c 0x5A17 false) { l with shipDue := true } ∧
      (w ≠ 0x5A17 → Answers (.shipctl c w false) s (Rejected c 0x7E s)) ∧
      Answers (.shipctl c w true) s (Rejected c 0x7E s) ∧
      (s.mode.mode = .holdover ∨ s.inTutti = false → s.keeper.qual = Vector.replicate 4 false →
        exec (.modectlDormreq c) s = .next { s with mode := { s.mode with reqDue := true } }) ∧
      ((s.mode.mode ≠ .holdover ∧ s.inTutti = true) ∨ (∃ i : Fin 4, s.keeper.qual[i] = true) →
        Answers (.modectlDormreq c) s (Rejected c 0x60 s))) ∧
    (l.ship = true → exec .shipExit s = .next { s with
      latch := { l with ship := false, counted := !l.pressed }, keeper := { s.keeper with batsw := true } }) ∧
    (s.running = true → s.mode.mode = .holdover →
      (∀ k, s.mode.lowFrom = some k → k + 1000 ≤ s.clk.ticks →
        exec .lowNodeTrigger s = .next { s with mode := { s.mode with lowDue := true } }) ∧
      (0 < s.act.mode.holddorm.toNat →
        s.act.mode.holddorm.toNat * 60000 + max s.mode.holdTick s.mode.doorTick ≤ s.clk.ticks →
        exec .holddormExpire s = .next { s with mode := { s.mode with holdDue := true } }))

/-- R56, R371 to R375, R443, R444, R450 to R453, R470: what brings the hub into reset, and what stays. A power-on reset
puts the tiles into reset and makes elapsed time unknown; a power failure writes its record and holds the hub until
VKEEP recovers, and names in CUT the requesters whose work it ended (that one that only waited is named is DEDUCED, log
entry 101); an accepted RSTCTL resets after the measure's journal, at once where that has ended (DEDUCED, log entry 110);
a wake of an enabled source ends DORMANT with cause DORMWAKE, WAKEIVL counted at the nominal rate of the LF RC. -/
def Obligations.ResetsAndWakes : Prop :=
  ∀ (s : State) (c : CtxId) (a b : Bool) (w : Word) (src : WakeSrc) (lf : Nat) (x : CutObs),
    let kept (t : State) : Prop := t.nv.mem = s.nv.mem ∧ t.nv.bankA = s.nv.bankA ∧ t.nv.bankB = s.nv.bankB ∧
      t.nv.inst = s.nv.inst ∧ t.nv.onB = s.nv.onB ∧ t.sec.codes = s.sec.codes ∧ t.sec.admin = s.sec.admin ∧
      t.sec.key = s.sec.key
    Answers (.powerOnReset a b) s (fun t => kept t ∧ t.start.stage = .tacet ∧ t.start.cause = 1 ∧ t.start.pinProf = a ∧
      t.start.pinLock = b ∧ t.c = {} ∧ t.clk.unknown = true ∧ t.clk.elapsed = 0 ∧ t.wd = {} ∧
      t.ring.sheds = [{ set := shedAll }, { set := shedAll }] ∧
      ∀ h : Shelf, (t.tiles[h]).inReset = true ∧ (t.tiles[h]).number = none ∧ (t.tiles[h]).uid = (s.tiles[h]).uid) ∧
    (s.powered = true → s.start.pfail = false → s.start.isDorm = false → s.latch.ship = false → s.latch.breset ≠ .cut →
        Answers (.powerFail a x) s (fun t =>
      t.start.stage = .held ∧ t.start.cause = 2 ∧ t.start.pfail = true ∧
      (x.snap = false → s.held = none → s.sec.accOp = none → ResetBy 2 s t) ∧
      ∃ r, t.nv.pf = some r ∧ r.cause = (if a = true then 2 else 1) ∧ r.elapsed = s.clk.elapsed ∧ r.crc = crc16 r.body ∧
        (s.running = true ∨ s.start.recalled = true → r.mcount = s.c.mcount) ∧
        r.cut.getLsbD 0 = s.nv.port.asks .journal ∧ (s.cutOp = none → r.cut.getLsbD 3 = false) ∧
        (∀ o, s.cutOp = some o → (∀ y ∈ s.heldWords o, s.nvMayWrite (heldAt o).1 (2 * y.1) = true) → r.cut.getLsbD 3 = true) ∧
        (x.snap = false → s.wd.recDue = false → r.cut.getLsbD 1 = s.nv.port.asks .coda) ∧
        (r.cut.getLsbD 2 = true ↔ ∃ v, s.nv.port.asks (.install v) = true))) ∧
    (s.start.stage = .held → s.start.pfail = true → s.start.cause = 2 → s.start.isDorm = false →
      exec .brownout s = .next { s with start := { s.start with pfail := false, isDorm := false } }) ∧
    (s.servesSys c →
      (s.running = false ∨ s.pipe.haulDone = false ∨ s.nv.snap ≠ none →
        exec (.rstctl c 0xA53C) s = .next { s with start := { s.start with rstDue := true } }) ∧
      (s.running = true → s.pipe.haulDone = true → s.nv.snap = none → Answers (.rstctl c 0xA53C) s (ResetBy 6 s)) ∧
      (w ≠ 0xA53C → Answers (.rstctl c w) s (Rejected c 0x66 s))) ∧
    (s.running = true → s.mode.dorm = .ports → s.start.isDorm = false →
        s.clk.tick + 1 = s.period ∨ (s.start.stage = .muster ∧ s.start.meas = 0) → Answers .dormantRootStop s (fun t =>
      t.clk.elapsed = s.clk.elapsed + 32 ∧ t.clk.calib = .none ∧
      t.start.stage = .held ∧ t.start.isDorm = true ∧ t.mode.mode = .dormant ∧ t.mode.tilepwr = false ∧
      t.keeper.src = 0 ∧ t.keeper.batsw = true ∧ t.wd.counting = false ∧ t.sec.granted = .none ∧ t.ring = {} ∧ t.c = s.c ∧ t.nv.mem = s.nv.mem ∧
      (∀ f : FeederId, (t.feeders[f]).state = .off ∧ (t.feeders[f]).att = (s.feeders[f]).att) ∧
      ∀ h : Shelf, (t.tiles[h]).inReset = true)) ∧
    (s.start.isDorm = true → s.start.pfail = false → s.start.stage = .held →
      (s.wakeOn src = true → (src = .timer → s.act.mode.wakeivl.toNat * 60 * 32000 ≤ lf) → Answers (.dormantWake src lf) s (fun t => ResetBy 7 s t ∧ t.start.isDorm = false ∧
        t.wd.keyB = s.wd.keyB ∧ t.mode.wakecause = wakeCode src ∧ t.clk.lfRun = s.clk.lfRun + lf)) ∧
      (s.wakeOn src = false → exec (.dormantWake src lf) s = .next s) ∧
      (s.alive = false → Answers .buttonPress s (fun t => ResetBy 7 s t ∧ t.mode.wakecause = 3 ∧ t.latch.pressed = true)) ∧
      (∀ f : FeederId, Answers (.feedInputQualify f) s (fun t => ResetBy 7 s t ∧ t.mode.wakecause = 1 ∧
        (t.feeders[f]).inqual = true)) ∧
      (s.act.mode.wakeen.getLsbD 0 = true → Answers .wakeTimerExpire s (fun t => ResetBy 7 s t ∧
        t.mode.wakecause = 4 ∧ t.start.isDorm = false)))

/-- R8, R157, R365 to R367, R420, R450, R454 to R456, R458, R461 to R463, R466, R615: the four stages of a start. Recall loads
the chosen bank, or the strap defaults where there is none, and writes nothing to the retention memory; a line that is
uncorrectable counts as stale for its bank; Muster begins with measures; MUSTMAX
ends it with MUSTTO. -/
def Obligations.StartStages : Prop :=
  ∀ (s : State) (o : RecallObs) (n bat : Nat) (b fell : Bool),
    let usable (b : Bool) : Bool := (s.nv.found o).loads b (s.start.cause == 1) && (s.start.cause != 1 || s.progsPass o)
    let chosen := (s.nv.found o).choose (usable false) (usable true)
    (s.start.stage = .held → s.start.pfail = false → s.start.isDorm = false → s.sec.coreReset = false →
      Answers (.resetHoldEnd n) s (fun t => t.start = { s.start with stage := .tacet, ccOff := true, sinceT := 0 } ∧
        t.ring.sheds = [{ set := shedAll }, { set := shedAll }] ∧
        t.mode.tilepwr = true ∧ t.clk.lfRun = 0 ∧ t.keeper.regulator = false ∧ t.nv = s.nv ∧ t.tiles = s.tiles ∧
        ∀ p : PortId, (t.ports[p]).term = .open_ ∧ (t.ports[p]).snkFet = false ∧ (t.ports[p]).srcFet = false)) ∧
    (s.start.ccOff = true → Answers .ccTerminationRestore s (fun t => t.start = { s.start with ccOff := false } ∧
      t = { s with start := t.start, ports := t.ports } ∧
      ∀ p : PortId, (s.ports[p]).started = false → t.ports[p] = { s.ports[p] with term := .rd })) ∧
    (s.start.stage = .tacet → Answers (.tacetEnd n bat) s (fun t => t.start.stage = .recall ∧ t.start.cause = s.start.cause ∧
      t.ring.sheds = [] ∧ t.keeper.target = 100 ∧ t.keeper.vlimit = min 18000 (max 10000 (bat + 500)) ∧
      t.clk.elapsed = s.clk.elapsed + BitVec.ofNat 64 n ∧ t.keeper.trickle = true ∧ t.nv = s.nv ∧ t.tiles = s.tiles ∧
      (s.start.strapDue = true → t.start.profile = s.start.pinProf ∧ t.start.lockdef = s.start.pinLock ∧
        t.start.strapDue = false) ∧
      (s.start.strapDue = false → t.start.profile = s.start.profile ∧ t.start.lockdef = s.start.lockdef) ∧
      (s.start.cause ≠ 7 → t.wd.count = 0 ∧ t.wd.period = 8192 ∧ t.wd.counting = s.wd.en))) ∧
    (s.start.stage = .recall → s.start.recalled = false →
      Answers (.recallEnd o) s (fun t => t.start.recalled = true ∧ t.start.stage = .recall ∧ t.nv.mem = s.nv.mem ∧
        t.nv.bankA = (s.nv.found o).bankA ∧ t.nv.bankB = (s.nv.found o).bankB ∧ t.nv.inst = s.nv.inst ∧ t.tiles = s.tiles ∧
        t.act = t.c.set ∧ t.nv.layout = t.c.set.layout ∧
        (s.start.ccOff = false → ∀ p : PortId, (t.act.ports[p]).role.getLsbD 0 = true → (t.ports[p]).state = .unattached ∧
          (t.ports[p]).term = .rd ∧ (t.ports[p]).snkFet = ((s.ports[p]).snkFet && o.rpSeen[p])) ∧
        (∀ i ∈ o.badA, i.val ∈ t.nv.bankA.bad) ∧ (∀ i ∈ o.badB, i.val ∈ t.nv.bankB.bad) ∧
        (chosen = none → t.start.imgvalid = false ∧ t.start.warm = false ∧
          t.c.set = strapDefaults s.start.profile ∧ t.c.mapValid = false ∧ t.c.engStop = false ∧
          ∀ v : VoiceId, (t.c.voices[v]).state = .empty) ∧
        (chosen = some (b, fell) → t.start.imgvalid = true ∧ t.nv.onB = b ∧
          t.start.warm = decide (s.start.cause ≠ 1) ∧ t.start.fullver = decide (s.start.cause = 1) ∧
          t.c.set = (s.nv.bank b).img.set ∧ t.c.mcount = (s.nv.bank b).img.mcount ∧
          t.c.map = (s.nv.bank b).img.map ∧ t.c.guard = (s.nv.bank b).img.guard))) ∧
    (s.start.stage = .recall → s.start.recalled = true → 384 ≤ s.start.sinceT + n → Answers (.musterStart n) s (fun t =>
      t.start.stage = .muster ∧ t.start.meas = 0 ∧ t.running = true ∧ t.ring.running = true ∧ t.clk.ticks = 0 ∧
      t.clk.elapsed = s.clk.elapsed + BitVec.ofNat 64 n ∧ t.ring.enumDue = (s.ring.enumDue || !s.c.mapValid) ∧
      (s.sec.level = .develop → ∀ c : CtxId, t.isOpen c = true) ∧
      (s.sec.level ≠ .develop → ∀ c : CtxId, t.isOpen c = s.isOpen c) ∧
      t.sec = { s.sec with sess := t.sec.sess, nonceTo := none, lockTo := none } ∧ t.c = s.c ∧ t.nv = s.nv ∧ t.tiles = s.tiles)) ∧
    (s.start.stage = .muster → s.start.mustDone = false → 250 * s.act.ring.mustmax.toNat ≤ s.clk.ticks →
      Answers .mustmaxExpire s (fun t =>
      Posted ctxSYS 0x8003 0 0 s t ∧
      t = { s with start := { s.start with mustDone := true, mustto := true }, ctxs := t.ctxs, sysLog := t.sysLog }))

/-- R474, R475, R478, R480 to R496: the Type-C ports. Each command takes a port that feeds no keeper and carries no link
where the rules say: attach and detach on either side, Try.SNK, the ends of a discharge, overcurrent with its lock,
overvoltage, ignored accessories, and moisture. The low ends of the tolerances, the place of the scan timer, and
TCDETACH at a source (log entry 106) are the model's choice. -/
def Obligations.TypeCPorts : Prop :=
  ∀ (s : State) (p : PortId) (c : CtxId) (o rp : BitVec 2) (ra : Bool) (k : Vector (Option Nat) 4) (a b ma mv : Nat)
    (l : List Nat), s.calm p →
    let q := s.ports[p]
    let g := s.act.ports[p]
    let gv (i : Instr) (y : Port) : Prop := exec i s = .next { s with ports := s.ports.set p y }
    let goes (i : Instr) (P : Port → Prop) : Prop := Answers i s (fun t => OnlyPort p s t ∧ P t.ports[p])
    let event (i : Instr) (code a1 : Word) (P : Port → Prop) : Prop :=
      Answers i s (fun t => PortEvent p code a1 s t ∧ P t.ports[p])
    let off (y : Port) : Prop := y.srcFet = false ∧ y.snkFet = false ∧ y.vconn = false ∧ y.sbu = false
    let recovery (y : Port) : Prop := y.state = .recovery ∧ y.term = .open_ ∧ off y ∧ y.pd = {}
    let unattached (y : Port) : Prop := y.state = .unattached ∧ off y ∧ y.pd = {} ∧ y.leaving = false ∧
      y.role = (if g.role = 2 then PRole.src else .snk) ∧ y.useRole = g.role ∧ y.useTry = g.trysnk
    let sources (y : Port) : Prop := y.state = .source ∧ y.role = .src ∧ y.term = .rp g.rplvl ∧ y.orient = o ∧
      y.srcFet = true ∧ y.snkFet = false ∧ y.vset = 5000 ∧ y.dfp = true ∧ y.vconn = (g.vconnen && ra)
    let sinks (y : Port) : Prop := y.state = .sink ∧ y.role = .snk ∧ y.term = .rd ∧ y.orient = o ∧ y.partrp = rp ∧
      y.snkFet = true ∧ y.srcFet = false ∧ y.dfp = false
    let wet (m : BitVec 4) (y : Port) : Prop := y.state = .wet ∧ y.term = .open_ ∧ off y ∧ y.wetmask = m
    let check := wetPins (Vector.ofFn fun i : Fin 4 =>
      if (i = 0 ∧ (o = 1 ∨ ra = true)) ∨ (i = 1 ∧ (o = 2 ∨ ra = true)) then none else k[i])
    let tries : Prop := q.useTry = true ∧ q.useRole = 3 ∧ q.tried = false
    (q.state = .unattached → q.started = true → q.scanning = false → q.scanDue = false ∨ q.snkFet = true → q.accign = false →
      q.term ≠ .open_ → s.mode.dorm ≠ .ports →
      (q.useRole = 3 → q.role = .snk → gv (.drpToggle p) { q with role := .src, term := .rp g.rplvl, snkFet := false }) ∧
      (q.useRole = 3 → q.role = .src → gv (.drpToggle p) { q with role := .snk, term := .rd, snkFet := false }) ∧
      (q.role = .src → gv (.ccAttachDetect p true o rp)
        { q with state := .attachWait, orient := o, partrp := 0, tried := false }) ∧
      (q.role = .snk → gv (.ccAttachDetect p false o rp)
        { q with state := .attachWait, orient := o, partrp := rp, tried := false })) ∧
    (q.state = .attachWait →
      (q.role = .src → tries →
        gv (.attachSrc p o ra k) { q with state := .tryRole, trySub := .snk, role := .snk, term := .rd }) ∧
      (q.role = .src → ¬ tries →
        (g.moisten = false ∨ check = 0 → goes (.attachSrc p o ra k) sources) ∧
        (g.moisten = true → check ≠ 0 → event (.attachSrc p o ra k) 0x7009 (check.setWidth 16) (wet check))) ∧
      (q.role = .snk → event (.attachSnk p o rp) 0x7001 (BitVec.ofNat 16 (o.toNat + 4 * rp.toNat)) sinks)) ∧
    (q.state = .tryRole →
      (q.trySub = .snk → event (.trySnkTimer p (.rpSeen o rp)) 0x7001 (BitVec.ofNat 16 (o.toNat + 4 * rp.toNat)) sinks ∧
        gv (.trySnkTimer p .noRp) { q with trySub := .src, role := .src, term := .rp g.rplvl }) ∧
      (q.trySub = .src → gv (.trySnkTimer p .rdSeen) { q with state := .attachWait, role := .src, tried := true })) ∧
    (q.state = .source →
      (q.srcFet = true → q.pd.contract = none → q.pd.swap = none → event (.vbusonTimeout p) 0x7003 0 recovery) ∧
      (q.leaving = false → q.pd.inSwap = false ∨ mv < 3670 → event (.sourceDetach p mv) 0x7002 0 (fun y =>
        off y ∧ y.leaving = true ∧ y.dis = true ∧ y.pd = {} ∧ y.state = .source)) ∧
      (q.srcFet = true → 1125 * q.allowed < 1000 * ma → q.trips = [] → event (.sourceOvercurrent p ma) 0x7005 0 (fun y =>
        recovery y ∧ y.ocp = true ∧ y.trips = [s.clk.ticks])) ∧
      (q.srcFet = true → 1125 * q.allowed < 1000 * ma → q.trips = a :: b :: l → s.clk.ticks - b ≤ 10000 →
        Answers (.sourceOvercurrent p ma) s (fun t => (t.ports[p]).state = .disabled ∧ (t.ports[p]).locked = true ∧
          off t.ports[p] ∧ (t.ports[p]).ocp = true)) ∧
      (ma ≤ q.allowed → exec (.sourceOvercurrent p ma) s = .next s)) ∧
    (q.leaving = true → g.role ≠ 0 → goes (.dischargeDone p) unattached) ∧
    (q.leaving = true → q.dis = true → event (.vbusoffTimeout p) 0x7004 0 (fun y => y = { q with dis := false })) ∧
    (q.vconn = true → event (.vconnOvercurrent p) 0x7008 0 (fun y => y = { q with vconn := false, vconnOff := true })) ∧
    (q.state = .sink →
      (q.pd.hr = .none → g.role ≠ 0 → ra = true ∨ (q.pd.exch ≠ .snkTrans ∧ q.pd.inSwap = false) →
        event (.sinkDetach p ra) 0x7002 0 unattached) ∧
      (q.pd.exch = .snkTrans ∨ q.pd.inSwap = true → exec (.sinkDetach p false) s = .next s) ∧
      (q.ovpMv < mv → event (.sinkOvervoltage p mv) 0x7007 0 (fun y => recovery y ∧ y.ovp = true)) ∧
      (mv ≤ q.ovpMv → exec (.sinkOvervoltage p mv) s = .next s)) ∧
    (q.state = .unattached ∨ q.state = .attachWait →
      gv (.accessoryIgnore p true) { q with state := .unattached, accign := true, snkFet := false }) ∧
    gv (.accessoryIgnore p false) { q with accign := false } ∧
    (q.state = .recovery → q.started = true → g.role ≠ 0 → goes (.recoveryEnd p) unattached) ∧
    (q.scanning = true → q.state ≠ .wet →
      (wetPins k = 0 → goes (.moistureScanDone p k) (fun y => y.scanning = false ∧ y.scanned = true ∧ y.state = q.state)) ∧
      (wetPins k ≠ 0 → event (.moistureScanDone p k) 0x7009 ((wetPins k).setWidth 16) (wet (wetPins k)))) ∧
    (q.scanning = true → q.state = .wet → g.role ≠ 0 →
      (wetPins k = 0 → (∀ (i : Fin 4) (r : Nat), k[i] = some r → 2000 < r) →
        event (.moistureScanDone p k) 0x700A 0 unattached) ∧
      (wetPins k ≠ 0 → goes (.moistureScanDone p k) (fun y => y.state = .wet ∧ y.scanning = false))) ∧
    (q.state = .wet → g.moisten = true →
      (q.scanAt + 5000 ≤ s.clk.ticks + 8 → gv (.wetScanTimer p) { q with scanning := true }) ∧
      (s.clk.ticks + 8 < q.scanAt + 4950 → exec (.wetScanTimer p) s = .next s)) ∧
    (q.term = .dead → gv (.deadBatteryVbus p mv) { q with snkFet := decide (4000 < mv), vbus := mv }) ∧
    (s.servesSys c → q.locked = true → g.role ≠ 0 → goes (.clrlock c p) (fun y => unattached y ∧ y.locked = false))

/-- R501, R504, R507, R511, R512, R513, R518, R524, R539, R541: what a port that runs no exchange answers to a message
on SOP, and what each message of no answer leaves. The places of the fields in a VDO are the model's (log entry 107). -/
def Obligations.PdQueriesAreAnswered : Prop :=
  ∀ (s : State) (p : PortId) (m : PdHdr) (temp pos : Nat) (svid : Word) (c : Contract) (cmd : BitVec 5) (e : ExtPart),
    s.takes p m → (s.ports[p]).pd.idle →
    let q := s.ports[p]
    let g := s.act.ports[p]
    let d := q.pd.got m
    let gv (i : Instr) (y : Port) : Prop := exec i s = .next { s with ports := s.ports.set p y }
    let tell (i : Instr) (x : PdMsg) : Prop := gv i { q with pd := d.sending x }
    let tells (i : Instr) (x : InfoMsg) (l : List Byte) : Prop :=
      gv i { q with pd := { d.sending (.info x l) with chunkOut := some (x, 1) } }
    let id : List Byte := [0x7C, 0xD1, 0x00, 0x96]
    let pdp := g.snkimax.toNat * 50 * 20 / 1000
    let alone : Prop := ∀ j : PortId, j ≠ p → (s.ports[j]).entering = false
    let l := advertise g (if s.mode.mode = .holdover then g.holdpmax.toNat else g.srcpmax.toNat)
    let caps := PdMsg.sourceCaps l (g.role == 3) g.uncons
    let st := InfoMsg.status temp s.feederOn (s.keeper.batst == .present) q.ocp q.ovp
    (g.role.getLsbD 1 = true →
      (q.state = .source → q.pd.revBad = false → gv (.getSourceCap p m) { q with pd := { d.sending caps with
        exch := .capsWait, offered := l, offFlags := (g.role == 3, g.uncons), capsDue := false } }) ∧
      (q.state = .sink → tell (.getSourceCap p m) caps)) ∧
    (g.role.getLsbD 1 = false ∨ (q.state = .source ∧ q.pd.revBad = true) → tell (.getSourceCap p m) .notSupported) ∧
    (g.role.getLsbD 0 = true → tell (.getSinkCap p m)
      (.sinkCaps (sinkPdos g) (g.role == 3) (g.snkmask.getLsbD 2 || g.snkmask.getLsbD 3) g.uncons g.frsreq)) ∧
    (g.role.getLsbD 0 = false → tell (.getSinkCap p m) .notSupported) ∧
    tells (.getSourceCapExtended p m) .sourceExt (id ++ [0, 0, 0, 0, 0x01, 0xB0] ++ List.replicate 15 0) ∧
    tells (.getSinkCapExtended p m) (.sinkExt pdp)
      (id ++ List.replicate 15 0 ++ [BitVec.ofNat 8 pdp, BitVec.ofNat 8 pdp, 0, 0, 0]) ∧
    gv (.getStatus p m temp)
      { q with pd := { d.sending (.info st st.data) with chunkOut := some (st, 1) }, ocp := false, ovp := false } ∧
    tells (.getManufacturerInfo p m) .manufacturer (id ++
      [0x44, 0x65, 0x6C, 0x75, 0x6E, 0x79, 0x6F, 0x6E, 0x20, 0x50, 0x4C, 0x58, 0x39, 0x36, 0x30, 0x30, 0]) ∧
    tell (.getRevision p m) (.info .revision [0, 0, 0x18, 0x31]) ∧
    tell (.unsupportedMessage p m none) .notSupported ∧
    (e.chunked = false ∨ (e.num = 0 ∧ (e.size ≤ e.data.length ∨ 260 < e.size) ∧ e.data.length ≤ 26) →
      tell (.unsupportedMessage p m (some e)) .notSupported) ∧
    (e.chunked = true → e.num = 0 → e.data.length = 26 → 26 < e.size → e.size ≤ 260 →
      gv (.unsupportedMessage p m (some e))
        { q with pd := { d.sending (.chunkReq 1) with chunkIn := some (e.size, e.data) } }) ∧
    tell (.discoverIdentity p m) (.vdmAck .identity 0xFF00A041 [0x0440D17C, 0, 0x960000B0]) ∧
    tell (.discoverSvids p m) (.vdmAck .svids 0xFF00A042 [0xD17C0000]) ∧
    (svid = 0xD17C → tell (.discoverModes p m svid) (.vdmAck (.modes svid) 0xD17CA043 [0x01000000])) ∧
    (svid ≠ 0xD17C → tell (.discoverModes p m svid) (.vdmNak (.modes svid) (svid ++ 0xA083#16))) ∧
    (g.linken = true → svid = 0xD17C → s.link.active = false ∨ s.link.port = p → alone →
      tell (.enterMode p m svid 1) (.vdmAck (.enter svid 1) 0xD17CA144 [])) ∧
    (g.linken = false ∨ svid ≠ 0xD17C ∨ pos ≠ 1 ∨ (s.link.active = true ∧ s.link.port ≠ p) ∨ ¬ alone →
      tell (.enterMode p m svid pos) (.vdmNak (.enter svid pos) ((VdmCmd.enter svid pos).header 2))) ∧
    tell (.exitMode p m svid pos) (.vdmAck (.exit svid pos) ((VdmCmd.exit svid pos).header 1) []) ∧
    tell (.attention p m svid cmd) (.vdmNak (.other svid cmd) ((VdmCmd.other svid cmd).header 2)) ∧
    gv (.ping p m) { q with pd := d } ∧
    (q.pd.contract = some c → c.mv = 5000 →
      gv (.bistCarrierMode p m) { q with pd := { d with bist := .carrier, out := some { msg := .bistCarrier } } } ∧
      gv (.bistTestData p m) { q with pd := { d with bist := .testData } }) ∧
    (q.pd.contract = none ∨ (q.pd.contract = some c ∧ c.mv ≠ 5000) →
      gv (.bistCarrierMode p m) { q with pd := d } ∧ gv (.bistTestData p m) { q with pd := d }) ∧
    gv (.softReset p m) { q with pd :=
      { d with sops := d.sops.set 0 {}, move := .none, next := none
               out := some { sop := 0, id := 0, msg := .accept }, await := true, sent := 1 } } ∧
    exec (.bistCarrierEnd p) { s with ports := s.ports.set p { q with pd := { d with bist := .carrier } } } =
      .next { s with ports := s.ports.set p { q with pd := d } }

/-- R498, R504 to R506, R508, R513 to R516, R519, R520, R524 to R526: a contract at the source, from its capabilities to
PS_RDY, and a Hard Reset at it. The port feeds no keeper, carries no link and runs no swap. -/
def Obligations.PdSourceContracts : Prop :=
  ∀ (s : State) (p : PortId) (m : PdHdr) (pos op top : Nat) (o : Pdo) (c : Contract) (x : PdOut) (k : PdMsg),
    s.calm p → (s.ports[p]).state = .source → (s.ports[p]).pd.on = true → (s.ports[p]).leaving = false →
    (s.ports[p]).pd.swap = none →
    let q := s.ports[p]
    let g := s.act.ports[p]
    let d := q.pd
    let r := d.got m
    let gv (i : Instr) (y : Port) : Prop := exec i s = .next { s with ports := s.ports.set p y }
    let hard (i : Instr) (l : List (Word × Word)) : Prop :=
      d.hrcnt < 2 → Answers i s (fun t => PortEvents p (l ++ [(0x7017, 1)]) s t ∧ HardSent p s t)
    let l := advertise g (if s.mode.mode = .holdover then g.holdpmax.toNat else g.srcpmax.toNat)
    let caps := PdMsg.sourceCaps l (g.role == 3) g.uncons
    let flags : Bool × Bool := (g.role == 3, g.uncons)
    let old := match d.contract with | some c => c.mv | none => 5000
    let acked : Prop := d.out = some x ∧ d.await = true ∧ x.sop = 0 ∧ m.sop = 0 ∧ x.id = m.id
    (d.contract = none → q.srcFet = true → d.revBad = false → d.noPd = false → d.exch = .idle → d.await = false →
      d.hr = .none ∨ d.hr = .srcOn → gv (.sourceCapTimer p)
        { q with pd := { d.sending caps with
            exch := .capsWait, offered := l, offFlags := flags, capsDue := false, hr := .none } }) ∧
    (acked → x.msg = caps → d.exch = .capsWait → gv (.goodcrc p m) { q with pd := d.past }) ∧
    (acked → x.msg = .accept → d.exch = .srcTrans → gv (.goodcrc p m) { q with pd := { d.past with move := .waiting } }) ∧
    (d.out = some x → d.await = true ∧ (x.sop ≠ m.sop ∨ x.id ≠ m.id ∨ (m.sop ≠ 0 ∧ q.vconn = false)) → exec (.goodcrc p m) s = .next s) ∧
    (d.out = some x → d.await = true → x.sop = 0 ∨ q.vconn = true → d.sent < 3 → gv (.goodcrcTimeout p) { q with pd := { d with sent := d.sent + 1 } }) ∧
    (d.out = some x → d.await = true → x.sop = 0 → 3 ≤ d.sent → d.hadOne = false → d.capsTries + 1 < 50 → x.msg = caps →
      gv (.goodcrcTimeout p)
        { q with pd := { d with await := false, capsTries := d.capsTries + 1, exch := .idle, noPd := false } }) ∧
    (s.takes p m → d.exch = .capsWait → d.revBad = false → 0 < pos → d.offered[pos - 1]? = some o →
      (op ≤ o.ma → top ≤ o.ma →
        (let y : Port := { q with pd := { r.sending .accept with
            exch := .srcTrans, move := .accepted, next := some { mv := o.mv, ma := op }, reqMism := false
            sameV := old == o.mv } }
         gv (.request p m pos op top false) y) ∧
        Answers (.request p m pos op top true) s (fun t => PortEvent p 0x7014 0 s t ∧
          (t.ports[p]).pd.exch = .srcTrans ∧ (t.ports[p]).pd.reqMism = true)) ∧
      (o.ma < op ∨ o.ma < top → gv (.request p m pos op top false) { q with pd := { r.sending .reject with exch := .idle } })) ∧
    (d.next = some c →
      (d.move = .waiting → d.sameV = false → gv (.sourceTransitionWait p)
        { q with vset := c.mv, dis := decide (c.mv < q.vset), pd := { d with move := .moving } }) ∧
      (d.move = .waiting → d.sameV = true → gv (.sourceTransitionWait p)
        { q with pd := { d.sending .psRdy with move := .ready } }) ∧
      (d.move = .moving → gv (.sourceVbusSettled p)
        { q with dis := false, vbus := q.vset, pd := { d.sending .psRdy with move := .ready } }) ∧
      (acked → x.msg = .psRdy → d.own = [] → Answers (.goodcrc p m) s (fun t =>
        Posted ctxSYS 0x7010 (BitVec.ofNat 16 (p.val + 256))
          (BitVec.ofNat 16 (c.mv / 100 % 256 + 256 * (c.ma / 50 % 256))) s t ∧
        t = { s with ports := t.ports, ctxs := t.ctxs, sysLog := t.sysLog } ∧ (∀ j : PortId, j ≠ p → t.ports[j] = s.ports[j]) ∧
        (let y : Port := { q with term := .rp 3, pd := { d.past with
            contract := some c, next := none, hadOne := true, hrcnt := 0, mismatch := d.reqMism, move := .none
            exch := .idle, ownEx := false, discDue := true, rpNg := false, chunkOut := none } }
         t.ports[p] = y)))) ∧
    (d.exch = .srcTrans → d.move ≠ .ready → hard (.sourceTransitionTimeout p) [(0x7015, 0)]) ∧
    (d.await = false → d.exch = .capsWait → hard (.senderResponseTimeout p) []) ∧
    (d.await = false → d.exch = .capsWait → 2 ≤ d.hrcnt → Answers (.senderResponseTimeout p) s (fun t =>
      PortEvent p 0x7017 3 s t ∧ (t.ports[p]).state = .recovery)) ∧
    (d.contract = some c → d.exch = .idle → d.await = false → d.own = [] → d.revBad = false → l ≠ d.offered ∨ flags ≠ d.offFlags →
      s.running = true → s.clk.tick = 0 →
      gv (.capabilityChange p)
      { q with term := .rp 2, pd := { d with own := [.sourceCaps], rpNg := true, ngWait := true } }) ∧
    (d.own = [.sourceCaps] → d.ngWait = true → gv (.sinktxngWaitEnd p)
      { q with pd := { d.sending caps with own := [], ownEx := true, ngWait := false, chunkIn := none, exch := .capsWait
                                           offered := l, offFlags := flags, capsDue := false } }) ∧
    Answers (.hardReset p) s (fun t => PortEvent p 0x7017 2 s t ∧
      t.ports[p] = { q with term := .rp g.rplvl, pd := d.hardReset .srcWait }) ∧
    (d.hr = .srcWait → gv (.hardResetSourceOff p)
      { q with srcFet := false, vset := 5000, vconn := false, dis := true, pd := { d with hr := .srcOff } }) ∧
    (d.hr = .srcOff → q.dis = false → gv (.hardResetSourceRestore p)
      { q with srcFet := true, vset := 5000, vconn := q.useVconn && q.ra && !q.vconnOff, pd := { d with hr := .srcOn } }) ∧
    (s.takes p m → d.out = some { sop := 0, id := m.id, msg := k } → d.own = [] → d.window = false → d.contract = none →
      Answers (.notSupported p m) s (fun t => PortEvent p 0x7012 (BitVec.ofNat 16 k.typ) s t ∧
        t.ports[p] = { q with pd := { r with exch := .idle, ownEx := false, rpNg := false, await := false, chunkOut := none } }))

/-- R505, R509, R511, R512, R517, R521 to R523, R525, R526: a contract at the sink, from the Request to PS_RDY, Wait, the
chunks of an answer, and the Hard Resets of a sink. The port feeds no keeper, carries no link and runs no swap. -/
def Obligations.PdSinkContracts : Prop :=
  ∀ (s : State) (p : PortId) (m : PdHdr) (l : List Pdo) (n v : Nat) (o : Pdo) (c : Contract) (x : PdOut) (i : InfoMsg),
    s.calm p → (s.ports[p]).state = .sink → (s.ports[p]).pd.on = true → (s.ports[p]).leaving = false →
    (s.ports[p]).pd.swap = none →
    let q := s.ports[p]
    let g := s.act.ports[p]
    let d := q.pd
    let r := d.got m
    let past (y : PdSt) : PdSt := { y with exch := .idle, ownEx := false, rpNg := false, await := false, chunkOut := none }
    let asks (y : PdSt) : PdSt := { y.sending (.request n o.ma (decide (o.mv < 15000)) true) with
      exch := .reqWait, next := some { mv := o.mv, ma := o.ma }, reqMism := decide (o.mv < 15000), waitDue := false }
    let gv (i : Instr) (y : PdSt) : Prop := exec i s = .next { s with ports := s.ports.set p { q with pd := y } }
    let hard (i : Instr) (e : List (Word × Word)) : Prop :=
      d.hrcnt < 2 → Answers i s (fun t => PortEvents p (e ++ [(0x7017, 1)]) s t ∧ HardSent p s t)
    (s.takes p m → d.idle → d.revBad = false → choosePdo g l = some (n, o) →
      gv (.sourceCapabilities p m l) (asks { r with partner := l, choice := some (n, o) })) ∧
    (d.out = some x → d.await = true → x.sop = 0 → m.sop = 0 → x.id = m.id → x.msg = .request n o.ma false true →
      gv (.goodcrc p m) d.past) ∧
    (s.takes p m → d.exch = .reqWait → gv (.accept p m) { r with exch := .snkTrans }) ∧
    (s.takes p m → d.exch = .reqWait → d.own = [] →
      gv (.reject p m) { past r with next := none } ∧ gv (.wait p m) { past r with next := none, waitDue := true }) ∧
    (d.waitDue = true → d.exch = .idle → d.await = false → d.own = [] → d.choice = some (n, o) →
      (d.contract = none → gv (.waitResend p) (asks { d with ownEx := true, ngWait := false, chunkIn := none })) ∧
      (d.contract = some c → gv (.waitResend p) { d with own := [.request] })) ∧
    (d.own = [.request] → d.waitDue = true → d.exch = .idle → d.await = false → d.choice = some (n, o) →
      gv (.sinkTxOk p) (asks { d with own := [], ownEx := true, ngWait := false, chunkIn := none })) ∧
    (s.takes p m → d.exch = .snkTrans → d.next = some c → d.own = [] →
      (within5 v c.mv = true → Answers (.psRdy p m v) s (fun t =>
        PortEvent p 0x7010 (BitVec.ofNat 16 (c.mv / 100 % 256 + 256 * (c.ma / 50 % 256))) s t ∧
        (let y : PdSt := { past r with
          contract := some c, next := none, hadOne := true, hrcnt := 0, mismatch := d.reqMism, move := .none
          discDue := true }
         t.ports[p] = { q with vbus := v, pd := y }))) ∧
      (within5 v c.mv = false → d.hrcnt < 2 → Answers (.psRdy p m v) s (fun t =>
        PortEvents p [(0x7015, 0), (0x7017, 1)] s t ∧ (t.ports[p]).pd.hr = .snkWait ∧ (t.ports[p]).pd.contract = none))) ∧
    (d.exch = .snkTrans → hard (.sinkTransitionTimeout p) [(0x7015, 0)]) ∧
    (d.contract = none → d.exch = .idle → d.noPd = false → d.revBad = false → hard (.sinkWaitCapTimeout p) []) ∧
    (d.contract = none → d.exch = .idle → d.noPd = false → d.revBad = false → 2 ≤ d.hrcnt → d.seen = false →
      Answers (.sinkWaitCapTimeout p) s (fun t => PortEvent p 0x7013 0 s t ∧ (t.ports[p]).state = .sink ∧
        (t.ports[p]).pd.noPd = true)) ∧
    (d.contract = some c → d.exch ≠ .snkTrans → hard (.vbusUndervoltage p) [(0x7016, 0)]) ∧
    (d.hr = .snkWait → 4750 < v → gv (.hardResetSinkTimeout p v) { d with hr := .none }) ∧
    (d.hr = .snkWait → v ≤ 4750 → Answers (.hardResetSinkTimeout p v) s (fun t => OnlyPort p s t ∧
      (t.ports[p]).state = .recovery ∧ (t.ports[p]).snkFet = false ∧ (t.ports[p]).term = .open_ ∧ (t.ports[p]).pd = {})) ∧
    (s.takes p m → d.chunkOut = some (i, 0) →
      gv (.chunkRequest p m 0) { r.sending (.chunk i 0 i.data) with chunkOut := some (i, 1) }) ∧
    (s.takes p m → d.chunkOut = some (i, 1) → d.window = false → Answers (.chunkRequest p m n) s (fun t => OnlyPort p s t ∧
      (t.ports[p]).pd.exch = .softWait ∧ (t.ports[p]).pd.out = some { sop := 0, id := 0, msg := .softReset })) ∧
    (d.chunkOut = some (i, n) → d.own = [] → gv (.chunkTimeout p) (past d))

/-- R528 to R538, R552: what a port answers to a swap request, a SYS request, and the steps of the PR_Swap and of the Fast
Role Swap at either side. A missed limit sends the port to RECOVERY. -/
def Obligations.SwapsOfRoles : Prop :=
  ∀ (s : State) (p : PortId) (m : PdHdr) (c : CtxId) (v : Nat) (b : Bool) (k : SwapKind) (st : SwapStep) (ct : Contract),
    let q := s.ports[p]
    let g := s.act.ports[p]
    let d := q.pd
    let r := d.got m
    let gv (i : Instr) (y : Port) : Prop := exec i s = .next { s with ports := s.ports.set p y }
    let run (k : SwapKind) (st : SwapStep) (mine toSrc : Bool) : Option SwapRun := some ⟨k, st, mine, toSrc⟩
    let agrees (i : Instr) (k : SwapKind) (toSrc : Bool) : Prop :=
      gv i { q with pd := { r.sending .accept with exch := .swap, swap := run k .accepted false toSrc } }
    let refuses (i : Instr) : Prop := gv i { q with pd := r.sending .reject }
    let acked (x : PdMsg) : Prop := d.out = some { sop := 0, id := m.id, msg := x } ∧ d.await = true ∧ m.sop = 0
    (s.calm p → s.takes p m → d.idle → d.contract = some ct →
      (g.role = 3 → g.prswen = true → agrees (.prSwap p m) .pr (q.state == .sink)) ∧
      (g.role ≠ 3 ∨ g.prswen = false → refuses (.prSwap p m)) ∧
      (g.vcswen = true → q.vconn = true ∨ (4750 < v ∧ q.vconnOff = false) → agrees (.vconnSwap p m v) .vconn (!q.vconn)) ∧
      (g.vcswen = false ∨ (q.vconn = false ∧ v ≤ 4750) → refuses (.vconnSwap p m v))) ∧
    (s.takes p m → d.contract = none → refuses (.prSwap p m) ∧ refuses (.vconnSwap p m v)) ∧
    (s.takes p m → d.swap = run .fr .frsWait b false →
      gv (.frSwap p m) { q with pd := { r.sending .accept with swap := run .fr .accepted b false } }) ∧
    (d.exch = .idle → d.await = false → d.own = [] → d.swap = none → s.servesSys c →
      (d.contract = none → Answers (.swapcmdPrSwap c p) s (Rejected c 0x1A s) ∧
        Answers (.swapcmdVconnSwap c p) s (Rejected c 0x1A s)) ∧
      (d.contract = some ct →
        (q.state = .source →
          gv (.swapcmdPrSwap c p) { q with term := .rp 2, pd := { d with own := [.prSwap false], rpNg := true, ngWait := true } } ∧
          gv (.swapcmdVconnSwap c p)
            { q with term := .rp 2, pd := { d with own := [.vconnSwap (!q.vconn)], rpNg := true, ngWait := true } }) ∧
        (q.state = .sink → gv (.swapcmdPrSwap c p) { q with pd := { d with own := [.prSwap true] } } ∧
          gv (.swapcmdVconnSwap c p) { q with pd := { d with own := [.vconnSwap (!q.vconn)] } }))) ∧
    (s.servesSys c → d.swap = run k st b true → Answers (.swapcmdPrSwap c p) s (Rejected c 0x1A s)) ∧
    (d.own = [.prSwap b] → d.ngWait = true → q.state = .source → gv (.sinktxngWaitEnd p)
      { q with pd := { d.sending .prSwap with own := [], ownEx := true, ngWait := false, chunkIn := none, exch := .swap
                                              swap := run .pr .asked true false } }) ∧
    (acked .accept → d.swap = run .pr .accepted b false →
      gv (.goodcrc p m) { q with pd := { d.past with swap := run .pr .oldOff b false } }) ∧
    (d.swap = run .pr .oldOff b false → gv (.prSwapSourceOff p) { q with srcFet := false, vset := 5000, dis := true } ∧
      (q.dis = true → q.leaving = false → gv (.dischargeDone p)
        { q with dis := false, term := .rd, pd := { d.sending .psRdy with swap := run .pr .oldReady b false } })) ∧
    (acked .psRdy → d.swap = run .pr .oldReady b false → gv (.goodcrc p m)
      { q with state := .sink, role := .snk, term := .rd, vset := 5000
               pd := { d.past with contract := none, next := none, swap := run .pr .newReady b false } }) ∧
    (s.calm p → s.takes p m → d.exch = .swap → d.swap = run .pr .oldReady b true → gv (.psRdy p m v)
      { q with state := .source, role := .src, term := .rp g.rplvl, vset := 5000, snkFet := false, srcFet := true
               pd := { r with contract := none, next := none, swap := run .pr .newOn b true } }) ∧
    (d.move ≠ .moving → d.swap = run .pr .newOn b true →
      gv (.sourceVbusSettled p) { q with pd := { d.sending .psRdy with swap := run .pr .newReady b true } }) ∧
    (s.takes p m → d.exch = .swap → 4750 < v → d.swap = run .pr .newReady b false → gv (.psRdy p m v)
      { q with snkFet := true, pd := { r with swap := run .pr .contract b false, exch := .idle, ownEx := false, capsTries := 0 } }) ∧
    (s.calm p → d.swap = some ⟨k, st, b, true⟩ → k ≠ .vconn → st ≠ .asked → Answers (.swapTimeout p) s (fun t =>
      PortEvent p 0x7022 (BitVec.ofNat 16 k.code) s t ∧ t.ports[p] = q.recover)) ∧
    (s.calm p → d.swap = run .vconn st b false → st ≠ .asked → d.hrcnt < 2 → Answers (.swapTimeout p) s (fun t =>
      PortEvent p 0x7017 1 s t ∧ (t.ports[p]).state = .recovery)) ∧
    (s.calm p → s.frsArmed p = true → d.swap = none → 50 ≤ v → v ≤ 150 → gv (.frsSignalDetect p v)
      { q with snkFet := false, pd := { d with swap := run .fr .discharge true true, exch := .swap, ownEx := false, await := false } }) ∧
    (s.frsArmed p = false ∨ v < 50 ∨ 150 < v → exec (.frsSignalDetect p v) s = .next s) ∧
    (d.swap = run .fr .discharge b true → gv (.frsVbusLow p)
      { q with srcFet := true, pd := { d.sending .frSwap with swap := run .fr .frsWait b true } }) ∧
    (d.swap = run .fr .oldOff b false → gv (.frsVbusLow p)
      { q with dis := false, pd := { d.sending .psRdy with swap := run .fr .oldReady b false } }) ∧
    (d.swap = run .fr .signal b false → gv (.frsSignalEnd p)
      { q with srcFet := false, vset := 5000, dis := true, pd := { d with swap := run .fr .frsWait b false } }) ∧
    (s.c.link = .agreed → s.link.active = true → s.link.port = p → s.act.link.linkauto = true → q.state = .sink →
      s.mode.mode = .operate → 10 ≤ s.link.holdRun → d.swap = none → d.contract = some ct → d.exch = .idle →
      d.await = false → d.own = [] → gv (.borrowBackPrSwap p) { q with pd := { d with own := [.borrow] } })

/-- R539 to R542: discovery by the DFP side, one answer at a time, and the entry into a link: the channel opens with the
GoodCRC of the Enter Mode ACK, and a HELLO is sent on it. -/
def Obligations.DiscoveryOpensTheLink : Prop :=
  ∀ (s : State) (p : PortId) (m : PdHdr) (cmd : VdmCmd) (ct : Contract) (v h : BitVec 32) (l : List (BitVec 32)),
    (s.ports[p]).state = .source → (s.ports[p]).pd.contract = some ct →
    let q := s.ports[p]
    let d := q.pd
    let r := d.got m
    let past (y : PdSt) : PdSt := { y with exch := .idle, ownEx := false, rpNg := false, await := false, chunkOut := none }
    let gv (i : Instr) (y : Port) : Prop := exec i s = .next { s with ports := s.ports.set p y }
    let goesOn (x : VdmRes) (c : VdmCmd) : Prop := gv (.discoveryResponse p m cmd x)
      { q with term := .rp 2, pd := { past r with own := [.vdm c], rpNg := true, ngWait := true } }
    (d.discDue = true → q.dfp = true → (s.act.ports[p]).linken = true → s.link.active = false → s.link.forgot = false →
      d.exch = .idle → d.await = false → d.own = [] → gv (.discoveryStart p)
        { q with term := .rp 2, pd := { d with discDue := false, own := [.vdm .identity], rpNg := true, ngWait := true } }) ∧
    (d.discDue = true → q.dfp = false ∨ (s.act.ports[p]).linken = false ∨ s.link.active = true ∨ s.link.forgot = true →
      exec (.discoveryStart p) s = .next s) ∧
    (s.takes p m → d.exch = .vdmWait cmd → d.own = [] →
      gv (.discoveryResponse p m cmd .nak) { q with term := .rp 3, pd := past r } ∧
      gv (.discoveryResponse p m cmd .busy) { q with term := .rp 3, pd := past r } ∧
      (cmd = .identity → v.setWidth 16 ≠ 0xD17C#16 →
        gv (.discoveryResponse p m cmd (.ack (v :: l))) { q with term := .rp 3, pd := past r }) ∧
      (q.dfp = true → (s.act.ports[p]).linken = true → s.link.active = false → s.link.forgot = false →
        (cmd = .identity → v.setWidth 16 = 0xD17C#16 → goesOn (.ack (v :: l)) .svids) ∧
        (cmd = .svids → v.extractLsb' 16 16 = 0xD17C#16 → goesOn (.ack (v :: l)) (.modes 0xD17C)) ∧
        (cmd = .modes 0xD17C → goesOn (.ack (v :: l)) (.enter 0xD17C 1)))) ∧
    (d.exch = .vdmWait cmd → d.own = [] → gv (.discoveryTimeout p) { q with term := .rp 3, pd := past d }) ∧
    (d.out = some { sop := 0, id := m.id, msg := .vdmAck (.enter 0xD17C 1) h [] } → d.await = true → m.sop = 0 → d.own = [] →
      s.link.active = false ∨ s.link.port = p →
      Answers (.goodcrc p m) s (fun t => t.c.link = .entered ∧ t.link.active = true ∧ t.link.port = p ∧
        t.link.leader = q.dfp ∧ (t.ports[p]).sbu = true ∧ t.link.out = some (peerFrame s.link.seq (.hello t.myHello)) ∧
        t.link.hello.isSome = true ∧ t.link.mineAck = false ∧ t.tiles = s.tiles ∧ t.nv = s.nv))

/-- R543, R544, R546 to R551, R554: the frames of an open channel, its loss, and the settings of LINKCTL. The budget split
is not in use: nothing falls when the link moves. A STATUS is sent every 100 ms and a TIME every 10 s, silence is
300 ms long, and a value of several bytes goes high byte first (log entry 103). -/
def Obligations.CabinetLinkFrames : Prop :=
  ∀ (s : State) (c : CtxId) (seq res : BitVec 8) (x : Hello) (y : PeerOut) (hold : Bool) (dem n ll lf : Nat)
    (ms : BitVec 64) (w : Word),
    s.act.link.sharen = false → s.wb.pool ≤ s.poolNow →
    let l := s.link
    let g := s.c.set.link
    let up : Prop := l.active = true ∧ s.running = true
    let gv (i : Instr) (k : Link) : Prop := exec i s = .next { s with link := k }
    let acks (k : Link) (r : BitVec 8) : Link := { k with seq := k.seq + 1, out := some (peerFrame k.seq (.ack seq r)), heard := s.clk.ticks }
    let heard (k : Link) : Link :=
      { k with lastAck := some seq, peer := some x, partver := x.ver, partrev := x.rev, peerFrs := x.armed }
    let first : Bool := s.act.link.timepri != 0 && (decide (x.timepri < s.act.link.timepri) ||
      (x.timepri == s.act.link.timepri && l.leader))
    let lost (i : Instr) (code a1 : Word) : Prop := Answers i s (fun t =>
      Posted ctxSYS code (BitVec.ofNat 16 l.port.val) a1 s t ∧ t.c = { s.c with link := .lost } ∧ t.link.active = false ∧
      t.ports = s.ports.set l.port { s.ports[l.port] with sbu := false } ∧
      t = { s with c := t.c, link := t.link, ports := t.ports, ctxs := t.ctxs, sysLog := t.sysLog })
    let writes (i : Fin 4) (w : Word) (k : LinkSet) : Prop :=
      exec (.linkctlWrite c i w) s = .next { s with c := { s.c with set := { s.c.set with link := k } } }
    (up → l.lastAck = some seq → gv (.hello seq x) (acks l 0) ∧ gv (.split seq ll lf) (if l.leader = true then { l with heard := s.clk.ticks } else acks l 0)) ∧
    (up → l.lastAck ≠ some seq → x.ver = 1 →
      (l.mineAck = false → gv (.hello seq x) (heard (acks l 0))) ∧
      (l.mineAck = true → x.sharen = false → s.c.link = .entered → exec (.hello seq x) s = .next
        { s with c := { s.c with link := .agreed }, link := { heard (acks l 0) with master := first, haveSplit := false } })) ∧
    (up → l.lastAck ≠ some seq → x.ver ≠ 1 → l.leader = false → lost (.hello seq x) 0x7031 (x.ver.setWidth 16)) ∧
    (up → l.leader = false →
      gv (.status seq hold dem n 0) { l with peerHold := hold, peerDemand := dem, statIn := true, heard := s.clk.ticks
                                             holdRun := if hold = true then min 255 (l.holdRun + 1) else 0 } ∧
      (let status := peerFrame l.seq (.status (s.mode.mode == .holdover) s.demand s.linkbud l.lepoch)
       l.statusAt + 100 ≤ s.clk.ticks →
         gv .statusSend { l with seq := l.seq + 1, statusAt := s.clk.ticks, out := some status }) ∧
      (l.lastAck ≠ some seq →
        (s.c.link ≠ .agreed → gv (.split seq ll lf) { acks l 1 with lastAck := some seq }) ∧
        (s.c.link = .agreed → (let k : Link := { acks l 0 with ll := ll, lf := lf, mine := lf, haveSplit := true }
          gv (.split seq ll lf) { k with lastAck := some seq })))) ∧
    (up → l.hello = some y → y.seq = seq → l.peer = none → gv (.ack seq res) { l with hello := none, mineAck := res == 0, heard := s.clk.ticks }) ∧
    (up → l.hello = none → l.split = some y → y.seq = seq → l.riseDue = some n →
      gv (.ack seq 0) { l with split := none, riseDue := none, mine := n, haveSplit := true, heard := s.clk.ticks }) ∧
    (up → s.c.link = .agreed → l.master = false → l.peer = some x → x.timepri ≠ 0 →
      let new : BitVec 48 := (ms - s.clk.elapsed / 32).setWidth 48
      ((new - s.c.ctofs).toInt.natAbs ≤ 1000 → exec (.time seq ms) s = .next
        { s with c := { s.c with ctofs := new }, link := { l with heard := s.clk.ticks } }) ∧
      (1000 < (new - s.c.ctofs).toInt.natAbs → Answers (.time seq ms) s (fun t => t.c = { s.c with ctofs := new } ∧
        ∃ a, Posted ctxSYS 0x7033 (BitVec.ofNat 16 l.port.val) a s t))) ∧
    (up → s.c.link = .agreed → l.master = true →
      (l.timeAt + 10000 ≤ s.clk.ticks → gv .timeSend
        { l with seq := l.seq + 1, timeAt := s.clk.ticks, out := some (peerFrame l.seq (.time s.cabinetTime)) }) ∧
      gv (.time seq ms) { l with heard := s.clk.ticks }) ∧
    (l.hello = some y → y.tries < 3 → gv (.peerAckTimeout false)
      { l with out := some (peerFrame y.seq y.msg), hello := some { y with tries := y.tries + 1 } }) ∧
    (l.split = some y → y.tries < 3 → gv (.peerAckTimeout true)
      { l with out := some (peerFrame y.seq y.msg), split := some { y with tries := y.tries + 1 } }) ∧
    (l.active = true → l.hello = some y → 3 ≤ y.tries → lost (.peerAckTimeout false) 0x7030 1) ∧
    (l.active = true → l.heard + 300 ≤ s.clk.ticks → lost .peerSilence 0x7030 2) ∧
    (s.servesSys c →
      (l.active = false → exec (.linkctlForget c) s = .next
        { s with c := { s.c with link := .none }, link := { l with forgot := true } }) ∧
      (l.active = true → Answers (.linkctlForget c) s (fun t => t.c.link = .none ∧ t.link.active = false ∧
        (t.ports[l.port]).sbu = false ∧ t.link.forgot = true)) ∧
      (w.extractLsb' 6 10 = 0 → writes 0 w { g with sharen := w.getLsbD 0, timepri := w.extractLsb' 1 4, linkauto := w.getLsbD 5 }) ∧
      (w.extractLsb' 7 9 ≠ 0 → Answers (.linkctlWrite c 0 w) s (Rejected c 0x66 s)) ∧
      (w.toNat ≤ 32000 → g.shmin.toNat ≤ w.toNat → g.shfall.toNat ≤ w.toNat → writes 1 w { g with shcap := w.setWidth 15 }) ∧
      (32000 < w.toNat ∨ w.toNat < g.shmin.toNat ∨ w.toNat < g.shfall.toNat →
        Answers (.linkctlWrite c 1 w) s (Rejected c 0x68 s)) ∧
      (g.shcap.toNat ≤ 32000 → g.shmin.toNat ≤ g.shcap.toNat → g.shfall.toNat ≤ g.shcap.toNat →
        (w.toNat ≤ g.shcap.toNat → writes 2 w { g with shmin := w.setWidth 15 } ∧ writes 3 w { g with shfall := w.setWidth 15 }) ∧
        (g.shcap.toNat < w.toNat → Answers (.linkctlWrite c 2 w) s (Rejected c 0x6A s) ∧
          Answers (.linkctlWrite c 3 w) s (Rejected c 0x6C s)))) ∧
    (s.busOn = true → s.mayWrite c = true → isSys c = false →
      Answers (.linkctlWrite c 1 w) s (Rejected c 0x68 s) ∧ Answers (.linkctlForget c) s (Rejected c 0x66 s))

/-- R28, R29, R60, R157, R254, R557 to R566, R577 to R583, R585: aborted and bad cycles (a cycle that HWAIT# holds is
abandoned with its transfer), the registers that a context has
to itself, and the hub registers that have a row of their own. A context without the rights of SYS is rejected at those. -/
def Obligations.HostBusCycles : Prop :=
  ∀ (s : State) (c : CtxId) (ha : BitVec 7) (hc : BitVec 3) (w a b : Word) (e : Event) (l : List Event) (f : WideReg)
    (v : BitVec 48) (n : Nat),
    s.busOn = true →
    let x := s.ctxs[c]
    let gv (i : Instr) (y : Ctx) : Prop := exec i s = .next { s with ctxs := s.ctxs.set c y }
    let sets (i : Instr) (y : Settings) : Prop := exec i s = .next { s with c := { s.c with set := y } }
    let rejects (i : Instr) (ofs : Nat) : Prop := Answers i s (Rejected c ofs s)
    let bad (i : Instr) (strobes : Bool) (P : State → Prop) : Prop := Answers i s (fun t =>
      Posted ctxSYS 0x800B (ha.setWidth 16) (hc.setWidth 16) s t ∧ P t ∧
      t = { s with huberr := t.huberr, ctxs := t.ctxs, sysLog := t.sysLog, hd := t.hd } ∧
      t.huberr = if s.huberr.buserr = true then s.huberr else { buserr := true, ha := ha, hctx := hc, strobes := strobes })
    let g := s.c.set.layout
    let lo := w.extractLsb' 0 7
    let hi := w.extractLsb' 8 7
    let slot (k : BitVec 7) : Prop := 1 ≤ k.toNat ∧ k.toNat ≤ 80
    let open_ : Prop := (s.running = true ∨ s.start.recalled = true) ∧ s.isOpen c = true ∧ c ≠ ctxDbg
    (gv (.hostReadAbort c) { x with abort := true } ∧ gv (.hostWriteAbort c) { x with abort := true }) ∧
    (let u : State := { s with held := some (.read c 0 false) }
     let h : State := { s with held := some (.write c 1 w) }
     let cut (t : State) (i : Instr) : Prop := exec i t = .next
       { s with ctxs := s.ctxs.set c { x with abort := true }, nv := { s.nv with port := s.nv.port.release .host } }
     cut u (.hostReadAbort c) ∧ exec (.hostWriteAbort c) u = .next u ∧
     cut h (.hostWriteAbort c) ∧ exec (.hostReadAbort c) h = .next h) ∧
    bad (.bothStrobesLow ha hc) true (fun t => t.hd = s.hd) ∧
    (5 ≤ hc.toNat → bad (.illegalContext ha hc true) false (fun t => t.hd = s.hd) ∧
      bad (.illegalContext ha hc false) false (fun t => t.hd = 0)) ∧
    (s.running = true ∨ s.start.recalled = true → 64 ≤ ha.toNat → c ≠ ctxDbg →
      rejects (.unassignedOffset c ha true) (2 * ha.toNat) ∧
      (let y : Ctx := { x with rej := true, rejinfo := if x.rej = true then x.rejinfo else some (ha.setWidth 8) }
       exec (.unassignedOffset c ha false) s = .next { s with hd := 0, ctxs := s.ctxs.set c y })) ∧
    (open_ → (x.queue = [] → exec (.evqdataRead c) s = .next { s with hd := 0 }) ∧
      (x.queue = e :: l →
        (x.pos = 0 → exec (.evqdataRead c) s = .next { s with hd := e.code, ctxs := s.ctxs.set c { x with pos := 1 } }) ∧
        (x.pos = 1 → exec (.evqdataRead c) s = .next { s with hd := e.arg0, ctxs := s.ctxs.set c { x with pos := 2 } }) ∧
        (x.pos = 2 → exec (.evqdataRead c) s = .next { s with hd := e.arg1, ctxs := s.ctxs.set c { x with pos := 3 } }) ∧
        (x.pos = 3 → exec (.evqdataRead c) s =
          .next { s with hd := e.mc, ctxs := s.ctxs.set c { x with queue := l, pos := 0 } }))) ∧
    (s.running = true ∨ s.start.recalled = true → c ≠ ctxDbg →
      (w &&& 0x00E0 = 0 → Answers (.ctxstatClear c w) s (fun t => t = { s with ctxs := s.ctxs.set c t.ctxs[c] } ∧
        t.ctxs[c] = { x with rej := x.rej && !w.getLsbD 0, rejinfo := if w.getLsbD 0 = true then none else x.rejinfo
                             abort := x.abort && !w.getLsbD 1, rmerr := x.rmerr && !w.getLsbD 2
                             evovf := x.evovf && !w.getLsbD 3, lost := if w.getLsbD 3 = true then 0 else x.lost })) ∧
      (w &&& 0x00E0 ≠ 0 → rejects (.ctxstatClear c w) 0x04)) ∧
    (s.mayWrite c = true →
      gv (.evqctlClr c) { x with queue := [], pos := 0 } ∧
      (w &&& 0xFFFE = 0 → gv (.intctlWrite c w) { x with inten := w.getLsbD 0 }) ∧
      (w &&& 0xFFFE ≠ 0 → rejects (.intctlWrite c w) 0x0E) ∧
      (w &&& 0xFC01 = 0 → c ≠ ctxSYS ∨ w.getLsbD 8 = true → gv (.registerWrite c 0x05 w) { x with evmask := w }) ∧
      (w &&& 0xFC01 ≠ 0 → rejects (.registerWrite c 0x05 w) 0x0A)) ∧
    (s.mayWrite c = true → isSys c = true →
      exec (.registerWrite c 0x00 w) s = .next s ∧
      (w &&& 0xFFFC = 0 → gv (.hpageWrite c w) { x with hpage := w.extractLsb' 0 2 }) ∧
      (w &&& 0xFFFC ≠ 0 → rejects (.hpageWrite c w) 0x5E) ∧
      (w &&& 0x8080 = 0 → 4 ≤ lo.toNat → lo.toNat ≤ 100 → slot hi →
        15 + (hi.toNat + (g.t[0].toNat + g.t[1].toNat + g.t[2].toNat + g.t[3].toNat)) + 6 ≤ 10 * lo.toNat →
        sets (.layoutWrite c 0 w) { s.c.set with layout := { g with period := lo, sys := hi } }) ∧
      (w &&& 0x8080 = 0 → slot lo → slot hi →
        15 + (g.sys.toNat + (lo.toNat + hi.toNat + g.t[2].toNat + g.t[3].toNat)) + 6 ≤ 10 * g.period.toNat →
        sets (.layoutWrite c 1 w) { s.c.set with layout := { g with t := (g.t.set 0 lo).set 1 hi } }) ∧
      (w &&& 0x8080 = 0 → slot lo → slot hi →
        15 + (g.sys.toNat + (g.t[0].toNat + g.t[1].toNat + lo.toNat + hi.toNat)) + 6 ≤ 10 * g.period.toNat →
        sets (.layoutWrite c 2 w) { s.c.set with layout := { g with t := (g.t.set 2 lo).set 3 hi } }) ∧
      (w &&& 0x8080 ≠ 0 ∨ ¬ slot hi → rejects (.layoutWrite c 0 w) 0x48 ∧ rejects (.layoutWrite c 1 w) 0x4A ∧
        rejects (.layoutWrite c 2 w) 0x4C) ∧
      (w.toNat ≤ 32000 → s.act.wb.cabbud.toNat ≤ w.toNat →
        sets (.cabbudWrite c w) { s.c.set with wb := { s.c.set.wb with cabbud := w.setWidth 15 } }) ∧
      (w.toNat ≤ 32000 → w.toNat < s.act.wb.cabbud.toNat → Answers (.cabbudWrite c w) s (fun t =>
        t.c.set.wb.cabbud = w.setWidth 15 ∧ t.act.wb.cabbud = w.setWidth 15 ∧ t.wb.pool ≤ s.wb.pool ∧ t.tiles = s.tiles ∧
        t.nv = s.nv)) ∧
      (32000 < w.toNat → rejects (.cabbudWrite c w) 0x4E) ∧
      (100 ≤ w.toNat → w.toNat ≤ 4000 → w.toNat ≤ s.act.wb.reserve.toNat →
        sets (.reserveWrite c w) { s.c.set with wb := { s.c.set.wb with reserve := w.setWidth 12 } }) ∧
      (w.toNat < 100 ∨ 4000 < w.toNat → rejects (.reserveWrite c w) 0x50) ∧
      (s.c.link ≠ .agreed ∨ s.link.master = true →
        exec (.ctofsWrite c v) s = .next { s with c := { s.c with ctofs := v } } ∧
        (x.staged 116 = some a → x.staged 118 = some b → Answers (.wideFieldLowWrite c .ctofs w) s (fun t =>
          t.c = { s.c with ctofs := b ++ a ++ w } ∧ (t.ctxs[c]).staged 116 = none ∧ (t.ctxs[c]).staged 118 = none ∧
          t = { s with c := t.c, ctxs := t.ctxs }))) ∧
      (s.follower = true → rejects (.ctofsWrite c v) 0x72) ∧
      exec (.membctlEnum c) s = .next { s with ring := { s.ring with enumDue := true } } ∧
      (f ≠ .acode → Answers (.wideFieldLowRead c f) s (fun t => t = { s with ctxs := t.ctxs, hd := t.hd } ∧
        t.hd = BitVec.ofNat 16 (s.wide f) ∧
        (0 < n → n < f.place.2.2 → assoc (t.ctxs[c]).latch (f.key + 2 * n) = some (s.wide f / 65536 ^ n % 65536))))) ∧
    (s.mayWrite c = true → isSys c = false →
      rejects (.layoutWrite c 0 w) 0x48 ∧ rejects (.cabbudWrite c w) 0x4E ∧ rejects (.reserveWrite c w) 0x50 ∧
      rejects (.hpageWrite c w) 0x5E ∧ rejects (.ctofsWrite c v) 0x72 ∧ rejects (.membctlEnum c) 0x7A)

/-- R262, R264, R275, R378, R379, R567 to R570, R574, R575: a window's registers, its movement, and the retention window: a
read through the read buffer, a write that waits in the write buffer, a flush; a cycle that HWAIT# holds until its transfer
has ended, and a transfer that fails. -/
def Obligations.HostWindows : Prop :=
  ∀ (s : State) (c : CtxId) (n : Fin 2) (w v : Word) (bl : Nat × List Byte) (p : Nat) (j : Fin 32),
    s.alive = true → s.mayWrite c = true →
    let x := s.ctxs[c]
    let k := x.wins[n]
    let a := 2 * k.ptr
    let has (y : Win) : State := { s with ctxs := s.ctxs.set c { x with wins := x.wins.set n y } }
    let next : Win := { k with ptr := if k.ptr + 1 < 0x40000 then k.ptr + 1 else 0 }
    let wet (l : List (Nat × Word)) : Win := { next with wbuf := l }
    let rejects (i : Instr) (ofs : Nat) : Prop := Answers i s (Rejected c ofs s)
    let holds (i : Instr) (o : HostOp) : Prop :=
      exec i s = .next { s with held := some o, nv := { s.nv with port := s.nv.port.ask .host 32 } }
    let flush : Word := BitVec.ofNat 16 (4 + k.inc.toNat)
    let port := s.nv.port.turn.release .host
    (s.held = none →
      (k.wbuf = [] →
        (w.toNat ≤ 9 → w ≠ 9 ∨ k.inc ≠ 2 → exec (.winselWrite c n w) s =
          .next (has { k with sel := w.extractLsb' 0 4, idx := 0, ptr := 0, rbuf := none })) ∧
        (9 < w.toNat ∨ (w = 9 ∧ k.inc = 2) → rejects (.winselWrite c n w) (0x10 + 12 * n.val)) ∧
        (w.toNat ≤ bankMax k.sel → exec (.winptrWrite c n .idx w) s = .next (has { k with idx := w.extractLsb' 0 7 })) ∧
        (bankMax k.sel < w.toNat → rejects (.winptrWrite c n .idx w) (0x12 + 12 * n.val)) ∧
        (k.ptr / 65536 * 65536 + w.toNat < bankSize k.sel → exec (.winptrWrite c n .ptrl w) s =
          .next (has { k with ptr := k.ptr / 65536 * 65536 + w.toNat, rbuf := none })) ∧
        (w.toNat ≤ 3 → w.toNat * 65536 + k.ptr % 65536 < bankSize k.sel → exec (.winptrWrite c n .ptrh w) s =
          .next (has { k with ptr := w.toNat * 65536 + k.ptr % 65536, rbuf := none })) ∧
        (3 < w.toNat → rejects (.winptrWrite c n .ptrh w) (0x16 + 12 * n.val)) ∧
        (k.inc = 0 ∨ k.inc = 1 → exec (.winctlFlush c n) s = .next s)) ∧
      (k.sel = 0 → exec (.windataRead c n) s = .next { s with hd := 0 } ∧ exec (.windataWrite c n w) s = .next s) ∧
      (k.sel = 9 → k.inc = 1 → k.wbuf = [] →
        (nvMayRead c a = true → k.rbuf = some bl → bufWord (some bl) a = some v →
          exec (.windataRead c n) s = .next { has next with hd := v }) ∧
        (nvMayRead c a = true → k.rbuf = none → holds (.windataRead c n) (.read c n false)) ∧
        (nvMayRead c a = false → c ≠ ctxDbg → Answers (.windataRead c n) s (fun t => t.hd = 0 ∧ t.nv = s.nv ∧
          (t.ctxs[c]).rej = true ∧ (t.ctxs[c]).wins = x.wins.set n next)) ∧
        (s.nvMayWrite c a = true → (k.ptr + 1) % 128 ≠ 0 → exec (.windataWrite c n w) s = .next (has (wet [(k.ptr, w)]))) ∧
        (s.nvMayWrite c a = true → (k.ptr + 1) % 128 = 0 → holds (.windataWrite c n w) (.write c n w)) ∧
        (s.nvMayWrite c a = false → Answers (.windataWrite c n w) s (fun t => t.nv = s.nv ∧
          (t.ctxs[c]).rej = true ∧ (t.ctxs[c]).wins = x.wins.set n next))) ∧
      (k.wbuf = [(p, v)] → holds (.winctlFlush c n) (.reg c n .ctl flush))) ∧
    (s.held = some (.reg c n .ctl flush) → s.nv.port.turn.holds .host = true → k.inc = 0 ∨ k.inc = 1 → k.wbuf = [(p, v)] →
      (s.nvMayWrite c (2 * p) = true →
        exec (.hostBlockTransfer none) s = .next { has { k with wbuf := [] } with
          held := none, nv := { s.nv with mem := Memory.putRun s.nv.mem (2 * p) (wordBytes v), port := port } } ∧
        Answers (.hostBlockTransfer (some 0)) s (fun t => t.held = none ∧ t.nv = { s.nv with port := port } ∧
          (t.ctxs[c]).rmerr = true ∧ ((t.ctxs[c]).wins[n]).wbuf = [])) ∧
      (s.nvMayWrite c (2 * p) = false → Answers (.hostBlockTransfer none) s (fun t => t.held = none ∧
        t.nv = { s.nv with port := port } ∧ (t.ctxs[c]).rej = true ∧ ((t.ctxs[c]).wins[n]).wbuf = []))) ∧
    (s.held = some (.read c n false) → s.nv.port.turn.holds .host = true → k.sel = 9 → k.inc = 1 → k.wbuf = [] →
      k.rbuf = none → nvMayRead c a = true →
      (0x31000 ≤ 256 * (k.ptr / 128) → Answers (.hostBlockTransfer none) s (fun t => t.held = none ∧
        t.nv = { s.nv with port := port } ∧ t.hd = Memory.word s.nv.mem a ∧ ((t.ctxs[c]).wins[n]).ptr = next.ptr ∧
        ((t.ctxs[c]).wins[n]).rbuf = some (256 * (k.ptr / 128), Memory.run s.nv.mem (256 * (k.ptr / 128)) 256))) ∧
      Answers (.hostBlockTransfer (some j)) s (fun t => t.held = none ∧ t.nv = { s.nv with port := port } ∧
        (t.ctxs[c]).rmerr = true ∧ ((t.ctxs[c]).wins[n]).ptr = next.ptr ∧ ((t.ctxs[c]).wins[n]).rbuf = none))

/-- R109, R170, R268, R272, R274, R571, R572, R597 to R601, R606: bay settings, level and edge orders (a new word ends
what an uncorrectable entry left, R274), TIO orders, the six pass-throughs, and the voice image window; each is rejected for an absent bay, a foreign bay or a reserved encoding. -/
def Obligations.OrdersAndPassThroughs : Prop :=
  ∀ (s : State) (c : CtxId) (b : Bay) (tn : TileNo) (vo : VoiceId) (ofs : Nat) (w : Word) (en on : Bool) (val : BitVec 2)
    (len cmd d : BitVec 8) (g : BaySet) (data : List Byte),
    s.serves c →
    let q := ordIx c
    let lv := s.c.lvl[q][b]
    let cb := s.ctxBay[q][b]
    let bx := cb.pt
    let may : Prop := s.ownsBay c b = true ∧ s.bayPresent b = true
    let level (i : Instr) (y : BayLvl) : Prop :=
      exec i s = .next { s with c := { s.c with lvl := s.c.lvl.set q ((s.c.lvl[q]).set b y) },
                                ctxBay := s.ctxBay.set q ((s.ctxBay[q]).set b { cb with badLvl := false }) }
    let puts (i : Instr) (y : CtxBay) : Prop := exec i s = .next { s with ctxBay := s.ctxBay.set q ((s.ctxBay[q]).set b y) }
    let edge (i : Instr) (y : BayEdge) : Prop := puts i { cb with edge := y, badLvl := false }
    let pass (i : Instr) (y : PtBox) (proto : BitVec 3) (blen : BitVec 5) : Prop :=
      let r : PtReq := ⟨proto, blen, cmd, y.ptdata, padTo 0 32 y.buf⟩
      puts i { cb with pt := { y with queued := some r } }
    let rejects (i : Instr) : Prop := Answers i s (Rejected c 0x1A s)
    (may → lv.modeo ≠ 3 → lv.locko ≠ 3 → lv.emrel = false ∨ isSys c = true →
      level (.ordlvlStop c b) { lv with modeo := 1 } ∧ level (.ordlvlGo c b) { lv with modeo := 2 } ∧
      level (.ordlvlLock c b) { lv with locko := 1 } ∧ level (.ordlvlUnlock c b) { lv with locko := 2 } ∧
      level (.ordlvlLampa c b en val) { lv with aen := en, aval := val } ∧
      level (.ordlvlLampb c b en val) { lv with ben := en, bval := val } ∧
      (isSys c = true → level (.ordlvlEmrel c b on) { lv with emrel := on })) ∧
    (isSys c = false → rejects (.ordlvlEmrel c b true)) ∧
    (may → (len ≠ 0 → edge (.ordedgeUnlkp c b len) { cb.edge with unlkp := some len }) ∧
      rejects (.ordedgeUnlkp c b 0) ∧
      edge (.ordedgeClrflt c b) { cb.edge with clrflt := true } ∧ edge (.ordedgeEnd c b) { cb.edge with end_ := true } ∧
      edge (.ordedgeCont c b) { cb.edge with cont := true } ∧ edge (.ordedgeRestart c b) { cb.edge with restart := true }) ∧
    (may → bx.queued = none →
      pass (.ptReadByte c b cmd) bx 0 0 ∧ pass (.ptWriteByte c b cmd d) { bx with ptdata := d.setWidth 16 } 1 0 ∧
      pass (.ptReadWord c b cmd) bx 2 0 ∧ pass (.ptWriteWord c b cmd w) { bx with ptdata := w } 3 0 ∧
      pass (.ptBlockRead c b cmd) bx 4 0 ∧
      (0 < data.length → data.length ≤ 32 → pass (.ptBlockWrite c b cmd data)
        { bx with buf := padTo 0 32 (data ++ bx.buf.drop data.length) } 5 (BitVec.ofNat 5 (data.length - 1)))) ∧
    (¬ may ∨ bx.queued ≠ none →
      rejects (.ptReadByte c b cmd) ∧ rejects (.ptWriteByte c b cmd d) ∧ rejects (.ptReadWord c b cmd) ∧
      rejects (.ptWriteWord c b cmd w) ∧ rejects (.ptBlockRead c b cmd) ∧ rejects (.ptBlockWrite c b cmd data)) ∧
    (¬ may → rejects (.ordlvlStop c b) ∧ rejects (.ordlvlGo c b) ∧ rejects (.ordlvlLock c b) ∧ rejects (.ordlvlUnlock c b) ∧
      rejects (.ordedgeUnlkp c b len) ∧ rejects (.ordedgeClrflt c b) ∧ rejects (.ordedgeEnd c b) ∧
      rejects (.ordedgeCont c b) ∧ rejects (.ordedgeRestart c b)) ∧
    (isSys c = true → 0x40 ≤ ofs → ofs < 0x4C →
      ((s.c.set.bays[b]).put ofs w = some g → Answers (.baySettingWrite c b ofs w) s (fun t =>
        t.c.set = { s.c.set with bays := s.c.set.bays.set b g } ∧ t = { s with c := t.c } ∧
        (g.tileCfg = (s.c.set.bays[b]).tileCfg → t.c = { s.c with set := t.c.set }) ∧
        (g.tileCfg ≠ (s.c.set.bays[b]).tileCfg → t.c.push.change = true))) ∧
      ((s.c.set.bays[b]).put ofs w = none → rejects (.baySettingWrite c b ofs w))) ∧
    (isSys c = false → rejects (.baySettingWrite c b 0x40 w)) ∧
    (isSys c = false → s.ownsBay c b = false → 0x40 ≤ ofs → ofs < 0x4C → rejects (.baySettingWrite c b ofs w)) ∧
    ((∀ k : Fin 4, w.extractLsb' (2 * k.val) 2 ≠ 3 ∧ (w.extractLsb' (2 * k.val) 2 ≠ 0 → s.hasPin c tn k = true)) →
      w.extractLsb' 8 8 = 0 → exec (.tioordWrite c tn w) s = .next
        { s with c := { s.c with tioord := s.c.tioord.set q ((s.c.tioord[q]).set tn (w.setWidth 8)) } }) ∧
    ((∃ k : Fin 4, w.extractLsb' (2 * k.val) 2 = 3 ∨ (w.extractLsb' (2 * k.val) 2 ≠ 0 ∧ s.hasPin c tn k = false)) →
      rejects (.tioordWrite c tn w)) ∧
    (mayVoice c vo = true → 0x600 ≤ ofs → ofs < 0x800 → (s.c.voices[vo]).state ≠ .run →
      Answers (.voiceImageWrite c vo ofs w) s (fun t => vget (t.c.voices[vo]).w (ofs - 0x600) 0 = w ∧
        (∀ i, i ≠ ofs - 0x600 → vget (t.c.voices[vo]).w i 0 = vget (s.c.voices[vo]).w i 0) ∧
        t = { s with c := { s.c with voices := s.c.voices.set vo { s.c.voices[vo] with w := (t.c.voices[vo]).w } } })) ∧
    (c ≠ ctxDbg → mayVoice c vo = false ∨ ofs < 0x600 ∨ 0x800 ≤ ofs ∨ (s.c.voices[vo]).state = .run →
      rejects (.voiceImageWrite c vo ofs w))

/-- R613 to R618: the level rises only, takes effect at a beat and ends the debug session; access codes open, close and
change a context, and wrong ones lead to a refusal period. An instant is held to the tick, which is the model's choice. -/
def Obligations.LevelsAndAccessCodes : Prop :=
  ∀ (s : State) (c : CtxId) (code : BitVec 64) (l : Level) (adm : BitVec 64) (n : Nat),
    let q := s.sec
    let now := s.clk.ticks
    let k := ordIx c
    let x := q.sess[k]
    let sess (i : Instr) (y : Session) : Prop := exec i s = .next { s with sec := { q with sess := q.sess.set k y } }
    let line (i : Instr) (l : Level) : Prop := exec i s = .next { s with sec := { q with newLevel := some l } }
    let rejects (i : Instr) (ofs : Nat) : Prop := Answers i s (Rejected c ofs s)
    let up : Prop := s.busOn = true ∧ (s.running = true ∨ s.start.recalled = true) ∧ c ≠ ctxDbg
    let idle : Prop := s.eng.halted = false ∧ s.eng.haltReq = false ∧ s.eng.brkHit = false
    (s.serves ctxSYS → c = ctxSYS → q.admin = some adm → q.newLevel = none →
      (q.level = .develop → line (.secctlField c) .field) ∧ (q.level ≠ .develop → rejects (.secctlField c) 0x60) ∧
      (q.level ≠ .sealed_ → line (.secctlSealed c) .sealed_) ∧ (q.level = .sealed_ → rejects (.secctlSealed c) 0x60)) ∧
    (s.serves c → q.admin = none ∨ c ≠ ctxSYS → rejects (.secctlField c) 0x60 ∧ rejects (.secctlSealed c) 0x60) ∧
    (s.running = false ∨ q.levelDue = false → exec .levelChangeApply s = .next s) ∧
    (s.running = true → q.levelDue = true → q.newLevel = some l → idle → Answers .levelChangeApply s (fun t =>
      t = { s with sec := t.sec } ∧ t.sec.level = l ∧ t.sec.newLevel = none ∧ t.sec.levelDue = false ∧ t.sec.granted = .none ∧
      t.sec.request = .none ∧ t.sec.codes = q.codes ∧ t.sec.admin = q.admin ∧ t.sec.key = q.key ∧
      (q.level = .develop → ∀ j : Tenant, (t.sec.sess[ordIx (ctxOf j)]).open_ = false) ∧
      (q.level ≠ .develop → t.sec.sess = q.sess))) ∧
    (up → x.refusing = false → x.open_ = false → code ≠ 0 →
      (s.ownCode c = some code → sess (.acodeOpen c code)
        { x with open_ := true, adminOpen := c == ctxSYS, failures := 0, pending := none, pendTo := none }) ∧
      (s.ownCode c ≠ some code → q.admin = some code → sess (.acodeOpen c code)
        { x with open_ := true, adminOpen := true, failures := 0, pending := none, pendTo := none }) ∧
      (s.ownCode c ≠ some code → q.admin ≠ some code → Answers (.acodeOpen c code) s (fun t =>
        (let y : Session := { x with
          failures := x.failures + 1, refusing := decide (3 ≤ x.failures + 1)
          refuseTo := if 3 ≤ x.failures + 1 then some (now + 1000 * min 1280 (10 * 2 ^ (x.failures - 2))) else none }
         t.sec = { q with sess := q.sess.set k y }) ∧
        (t.ctxs[c]).rej = true ∧ t = { s with sec := t.sec, ctxs := t.ctxs }))) ∧
    (up → x.refusing = true → x.refuseTo = some n → now ≤ n → rejects (.acodeOpen c code) 0x40 ∧ rejects (.acodeClose c) 0x40) ∧
    (up → x.refusing = false → x.open_ = true →
      (q.level ≠ .develop → sess (.acodeClose c) { x with open_ := false, adminOpen := false, pending := none, pendTo := none }) ∧
      (q.level = .develop → exec (.acodeClose c) s = .next s) ∧
      (code ≠ 0 → code ≠ BitVec.allOnes 64 →
        (x.pending = none → sess (.acodePending c code) { x with pending := some code, pendTo := some (now + 1000) }) ∧
        (x.pending = some code → x.pendTo = some n → now ≤ n → Answers (.acodeCommit c code) s (fun t => t = { s with sec := t.sec } ∧
          t.sec.sess = q.sess.set k { x with pending := none, pendTo := none } ∧
          (∀ j : Tenant, t.sec.codes[j] = if c = ctxOf j then some code else q.codes[j]) ∧
          t.sec.admin = if c = ctxSYS then some code else q.admin))) ∧
      rejects (.acodePending c (BitVec.allOnes 64)) 0x40) ∧
    (x.pendTo = some n → (n ≤ now → sess (.pendingCodeLapse c) { x with pending := none, pendTo := none }) ∧
      (now < n → exec (.pendingCodeLapse c) s = .next s)) ∧
    (x.refuseTo = some n → (n ≤ now → sess (.refusalPeriodEnd c) { x with refusing := false, refuseTo := none }) ∧
      (now < n → exec (.refusalPeriodEnd c) s = .next s))

/-- R620 to R631: the debug request, its challenge, and the session's end; DBGACC and DBGCTL; and the instructions of the
test access port, each of which loads BYPASS where it is not allowed. An instant is held to the tick, which is the
model's choice. -/
def Obligations.DebugAndTestAccess : Prop :=
  ∀ (s : State) (w : Word) (resp : BitVec 64) (key : BitVec 256) (num : Fin 8) (en : Bool) (vo : BitVec 3)
    (idx : BitVec 20) (ha : BitVec 7) (n : Nat) (o : HostOp),
    s.start.stage ≠ .off → s.start.isDorm = false → s.latch.ship = false → s.sec.coreReset = false → s.held = none →
    let q := s.sec
    let gv (i : Instr) (y : Sec) : Prop := exec i s = .next { s with sec := y }
    let idle : Prop := s.eng.halted = false ∧ s.eng.haltReq = false ∧ s.eng.brkHit = false
    let past (i : Jtag) : Sec := { q with ir := i, granted := .none, request := .none, brks := Vector.replicate 8 {}
                                          brkVoice := none, tmsel0 := 0, tmsel1 := 0 }
    let bypassed (i : Instr) : Prop := gv i { q with ir := .bypass }
    let holds (i : Instr) (r : Jtag) : Prop := Answers i s (fun t => ResetBy 6 s t ∧ t.sec.ir = r ∧ t.sec.coreReset = true)
    let now := s.clk.ticks
    let eng (i : Instr) (y : Engine) : Prop :=
      exec i s = .next { s with sec := { q with ir := .dbgctl, dr := s.ctlWord }, eng := y }
    let code (x : Dbg) (l : Level) : BitVec 64 → Prop := fun k => ∃ key n, q.key = some key ∧ q.nonce = some n ∧
      k = debugResponse key n (BitVec.ofNat 8 x.code) (BitVec.ofNat 8 l.code)
    (q.level ≠ .develop → gv (.dbgreq 1) { q with ir := .dbgreq, request := .observe } ∧
      (q.level = .field → gv (.dbgreq 2) { q with ir := .dbgreq, request := .control }) ∧
      (q.level = .sealed_ → gv (.dbgreq 2) { q with ir := .dbgreq })) ∧
    (q.level = .develop → idle →
      gv (.dbgreq 1) { q with ir := .dbgreq, request := .observe, granted := .observe } ∧
      gv (.dbgreq 2) { q with ir := .dbgreq, request := .control, granted := .control }) ∧
    (q.level ≠ .develop → q.lockout = false → q.failures < 8 → exec .dbgchal s = .next { s with
      free := s.free + 1
      sec := { q with ir := .dbgchal, nonce := some (Config.freeNonce s.free), nonceTo := some (now + 10000)
                      dr := Config.freeNonce s.free } }) ∧
    (q.level = .develop ∨ (q.lockout = true ∧ q.lockTo = some n ∧ now ≤ n) ∨ 8 ≤ q.failures → gv .dbgchal { q with ir := .dbgchal, dr := 0 }) ∧
    (q.request ≠ .none → idle → q.nonceTo = some n → now ≤ n → code q.request q.level resp →
      gv (.dbgresp resp) { q with ir := .dbgresp, nonce := none, nonceTo := none, failures := 0, granted := q.request }) ∧
    (q.request = .none ∨ (q.nonceTo = some n ∧ n < now) ∨ ¬ code q.request q.level resp →
      gv (.dbgresp resp) { q with ir := .dbgresp, nonce := none, nonceTo := none, failures := q.failures + 1
                                  lockout := true, lockTo := some (now + 1000) }) ∧
    (q.nonceTo = some n → (n ≤ now → gv .nonceExpire { q with nonce := none, nonceTo := none }) ∧
      (now < n → exec .nonceExpire s = .next s)) ∧
    (q.lockTo = some n → (n ≤ now → gv .dbgchalLockoutEnd { q with lockout := false, lockTo := none }) ∧
      (now < n → exec .dbgchalLockoutEnd s = .next s)) ∧
    (idle → gv .dbgend (past .dbgend) ∧ gv .testLogicReset (past .idcode)) ∧
    (s.dbgEffect = .none → bypassed (.dbgaccRead ha) ∧ bypassed (.dbgaccWrite ha w)) ∧
    (s.dbgEffect ≠ .none → q.accOp = some o → gv (.dbgaccRead ha) { q with ir := .dbgacc, dr := q.accWord } ∧
      gv (.dbgaccWrite ha w) { q with ir := .dbgacc, dr := q.accWord } ∧ q.accWord.getLsbD 18 = true) ∧
    (s.dbgEffect ≠ .none → q.accOp = none → Answers (.dbgaccRead 0) s (fun t => t.hd = s.hd ∧ t.sec.accData = 0x9600 ∧
      t.sec.accDone = true ∧ t.sec.accRej = false ∧ t.sec.dr = q.accWord ∧ t.ctxs = s.ctxs)) ∧
    (s.dbgEffect = .control → q.accOp = none → w &&& 0xFFFC = 0 → Answers (.dbgaccWrite 0x2F w) s (fun t => t.sec.accRej = false ∧
      t.ctxs = s.ctxs.set ctxDbg { s.ctxs[ctxDbg] with hpage := w.extractLsb' 0 2 })) ∧
    (s.dbgEffect = .observe → q.accOp = none → Answers (.dbgaccWrite 0x2F w) s (fun t => t.sec.accRej = true ∧ (t.ctxs[ctxDbg]).rej = true ∧
      (t.ctxs[ctxDbg]).hpage = (s.ctxs[ctxDbg]).hpage)) ∧
    (s.dbgEffect = .control → q.level ≠ .sealed_ →
      (s.eng.halted = false → eng .dbgctlHalt { s.eng with haltReq := true } ∧ eng .dbgctlStep s.eng) ∧
      (s.eng.halted = true → eng .dbgctlHalt s.eng ∧ eng .dbgctlStep { s.eng with stepReq := true } ∧
        Answers .dbgctlResume s (fun t => t.eng.halted = false ∧ t.eng.haltReq = false ∧ t.eng.brkHit = false ∧
          t.c = s.c ∧ ∀ v : VoiceId, (t.voices[v]).first = true)) ∧
      (vo.toNat < 5 → Answers (.dbgctlBreakpointWrite num en vo idx) s (fun t => t = { s with sec := t.sec } ∧
        (t.sec.brks[num]).en = en ∧ (t.sec.brks[num]).voice.val = vo.toNat ∧ (t.sec.brks[num]).idx = idx ∧
        ∀ j : Fin 8, j ≠ num → t.sec.brks[j] = q.brks[j])) ∧
      (5 ≤ vo.toNat → gv (.dbgctlBreakpointWrite num en vo idx) { q with ir := .dbgctl, dr := s.ctlWord })) ∧
    (s.dbgEffect ≠ .control ∨ q.level = .sealed_ → bypassed .dbgctlHalt ∧ bypassed .dbgctlStep ∧ bypassed .dbgctlResume ∧
      bypassed (.dbgctlBreakpointWrite num en vo idx)) ∧
    (s.start.stage ≠ .held → q.level = .develop ∨ (q.level = .field ∧ s.dbgEffect = .control) →
      holds .extest .extest ∧ holds .clamp .clamp ∧ holds .highz .highz) ∧
    (q.level = .sealed_ ∨ (q.level = .field ∧ s.dbgEffect ≠ .control) →
      bypassed .extest ∧ bypassed .clamp ∧ bypassed .highz) ∧
    gv .idcode { q with ir := .idcode, dr := 0x196004E9 } ∧
    gv .samplePreload { q with ir := .sample, preload := true } ∧
    gv .secread { q with ir := .secread, dr := s.secWord } ∧
    bypassed .bypass ∧
    (q.level = .develop → gv (.keyload key) { q with ir := .keyload, key := some key } ∧
      (w.extractLsb' 0 8 = 0x01 → w.extractLsb' 8 8 = 0x20 →
        gv (.tmuxsel w) { q with ir := .tmuxsel, tmsel0 := 0x01, tmsel1 := 0x20 })) ∧
    (q.level ≠ .develop → bypassed (.keyload key)) ∧
    (q.level = .field → s.dbgEffect = .observe → w.extractLsb' 0 8 = 0x0F → w.extractLsb' 8 8 = 0x20 →
      gv (.tmuxsel w) { q with ir := .tmuxsel, tmsel0 := 0x0F, tmsel1 := 0 }) ∧
    (q.level = .sealed_ → bypassed (.tmuxsel w))

/-- The retention memory of R354, R610: a byte reads as it was last written, every other byte as before, and two memories
in canonical form that read alike are one. -/
def Obligations.RetentionMemoryReads : Prop :=
  ∀ (m k : Memory) (a b : Nat) (x : Byte) (l : List Byte), Memory.wf m = true →
    Memory.get (Memory.put m a x) b = (if b = a then x else Memory.get m b) ∧
    Memory.get (Memory.putRun m a l) b = (if a ≤ b ∧ b < a + l.length then l.getD (b - a) 0 else Memory.get m b) ∧
    (Memory.wf k = true → (∀ i, Memory.get m i = Memory.get k i) → m = k)

/-- R576 to R578 and the form of the retention memory: whatever command is at the front of the queue, a step from any
sound state leads to a sound state. -/
def Obligations.StepKeepsSound : Prop :=
  ∀ s t : State, s.sound → step s = .next t → t.sound

/-- R450, R451, R454, R456: the state after a power-on reset is sound, no command waits, the start is in Tacet with cause
POR, and the engine, the ring, the feeders and the ports do nothing. -/
def Obligations.ResetIsSound : Prop :=
  State.reset.sound ∧ State.reset.pending = [] ∧ State.reset.start.stage = .tacet ∧ State.reset.start.cause = 1 ∧
  State.reset.running = false ∧ State.reset.busOn = false ∧ State.reset.ring.running = false ∧
  (∀ c : CtxId, (State.reset.ctxs[c]).queue = [] ∧ (State.reset.ctxs[c]).evmask = 0x03FE) ∧
  (∀ h : Shelf, (State.reset.tiles[h]).number = none ∧ (State.reset.tiles[h]).inReset = true) ∧
  ∀ f : FeederId, (State.reset.feeders[f]).state = .off

end
end

