-- ==== Sys2Proof/Laws/Memory.lean ====
section
/-! SUPPORT. Every operation over the retention memory keeps its canonical form. -/

namespace Sys2Proof

theorem Memory.above_mono {a b : Nat} (h : a ≤ b) : ∀ m : Memory, Memory.above b m = true → Memory.above a m = true
  | [], _ => rfl
  | (k, _) :: rest, hm => by
    simp only [Memory.above, Bool.and_eq_true, decide_eq_true_eq] at hm ⊢
    exact ⟨by omega, Memory.above_mono h rest hm.2⟩

/-- A put above `a` into a memory above `a` stays above `a`. -/
theorem Memory.above_put {a b : Nat} {x : Byte} (h : a < b) :
    ∀ m : Memory, Memory.above a m = true → Memory.above a (m.put b x) = true
  | [], _ => by
    unfold Memory.put
    split <;> simp [Memory.above, h]
  | (k, v) :: rest, hm => by
    simp only [Memory.above, Bool.and_eq_true, decide_eq_true_eq] at hm
    unfold Memory.put
    split
    · split <;> simp [Memory.above, h, hm]
    · split
      · split <;> simp [Memory.above, h, hm]
      · simp [Memory.above, hm.1, Memory.above_put h rest hm.2]

/-- Writing a byte keeps the canonical form. -/
theorem Memory.put_wf (a : Nat) (x : Byte) : ∀ m : Memory, Memory.wf m = true → Memory.wf (m.put a x) = true
  | [], _ => by
    unfold Memory.put
    split
    · rfl
    · simp [Memory.wf, Memory.above, *]
  | (k, v) :: rest, hm => by
    simp only [Memory.wf, Bool.and_eq_true, bne_iff_ne] at hm
    unfold Memory.put
    split
    · rename_i hak
      split
      · simp [Memory.wf, hm]
      · rename_i hx
        have hr := Memory.above_mono (Nat.le_of_lt hak) rest hm.1.2
        simp [Memory.wf, Memory.above, hm, hx, hak, hr]
    · rename_i h1
      split
      · rename_i h2
        split
        · exact hm.2
        · rename_i hx
          simp [Memory.wf, hm, hx, h2]
      · rename_i h2
        have hk : k < a := by omega
        simp [Memory.wf, hm.1.1, Memory.above_put hk rest hm.1.2, Memory.put_wf a x rest hm.2]

/-- So does writing a run of bytes. -/
theorem Memory.putRun_wf : ∀ (l : List Byte) (m : Memory) (a : Nat), Memory.wf m = true → Memory.wf (m.putRun a l) = true
  | [], _, _, h => h
  | x :: l, m, a, h => Memory.putRun_wf l (m.put a x) (a + 1) (Memory.put_wf a x m h)

/-- So does a write buffer that goes to the memory. -/
theorem putWords_wf : ∀ (l : List (Nat × Word)) (m : Memory), Memory.wf m = true → Memory.wf (Machine.putWords m l) = true
  | [], _, h => h
  | (p, w) :: l, m, h => putWords_wf l _ (Memory.putRun_wf (wordBytes w) m (2 * p) h)

end Sys2Proof

namespace Sys2Proof.Machine

/-- Whatever keeps the form of the memory keeps that of the state's. -/
theorem setMem_wf {s : State} {f : Memory → Memory} (hf : ∀ m, Memory.wf m = true → Memory.wf (f m) = true)
    (h : Memory.wf s.nv.mem = true) : Memory.wf (s.setMem f).nv.mem = true := hf _ h

end Sys2Proof.Machine
end

