-- ==== Sys2Proof/Laws/State.lean ====
section
/-! SUPPORT. What each named change of the state does to each of its fields: one lemma per field per change,
all true by definition, so that no proof unfolds a record update. -/

namespace Sys2Proof

/-- A place of a vector after a change at one place. -/
theorem upd_get {α : Type} {n : Nat} (v : Vector α n) (i j : Fin n) (f : α → α) :
    (upd v i f)[j] = if i = j then f v[i] else v[j] := by
  simp only [upd, Fin.getElem_fin, Vector.getElem_set, Fin.ext_iff]

/-- The same, as simp writes an index. -/
theorem upd_getNat {α : Type} {n : Nat} (v : Vector α n) (i : Fin n) (j : Nat) (hj : j < n) (f : α → α) :
    (upd v i f)[j] = if i.val = j then f v[i] else v[j] := by
  simp only [upd, Vector.getElem_set]

@[simp] theorem upd_same {α : Type} {n : Nat} (v : Vector α n) (i : Fin n) (f : α → α) :
    (upd v i f)[i.val] = f v[i] := by rw [upd_getNat, if_pos rfl]

theorem upd_other {α : Type} {n : Nat} (v : Vector α n) (i j : Fin n) (f : α → α) (h : j ≠ i) :
    (upd v i f)[j] = v[j] := by rw [upd_get, if_neg (Ne.symm h)]

@[simp] theorem upd_upd {α : Type} {n : Nat} (v : Vector α n) (i : Fin n) (f g : α → α) :
    upd (upd v i f) i g = upd v i (fun x => g (f x)) := by
  ext k hk; simp only [upd_getNat]; split <;> simp

end Sys2Proof

namespace Sys2Proof.Machine

variable (s : State)

@[simp] theorem State.setTile_pending (h : Shelf) (f : Tile → Tile) : (s.setTile h f).pending = s.pending := rfl
@[simp] theorem State.setTile_free (h : Shelf) (f : Tile → Tile) : (s.setTile h f).free = s.free := rfl
@[simp] theorem State.setTile_c (h : Shelf) (f : Tile → Tile) : (s.setTile h f).c = s.c := rfl
@[simp] theorem State.setTile_act (h : Shelf) (f : Tile → Tile) : (s.setTile h f).act = s.act := rfl
@[simp] theorem State.setTile_nv (h : Shelf) (f : Tile → Tile) : (s.setTile h f).nv = s.nv := rfl
@[simp] theorem State.setTile_clk (h : Shelf) (f : Tile → Tile) : (s.setTile h f).clk = s.clk := rfl
@[simp] theorem State.setTile_start (h : Shelf) (f : Tile → Tile) : (s.setTile h f).start = s.start := rfl
@[simp] theorem State.setTile_wd (h : Shelf) (f : Tile → Tile) : (s.setTile h f).wd = s.wd := rfl
@[simp] theorem State.setTile_mode (h : Shelf) (f : Tile → Tile) : (s.setTile h f).mode = s.mode := rfl
@[simp] theorem State.setTile_keeper (h : Shelf) (f : Tile → Tile) : (s.setTile h f).keeper = s.keeper := rfl
@[simp] theorem State.setTile_latch (h : Shelf) (f : Tile → Tile) : (s.setTile h f).latch = s.latch := rfl
@[simp] theorem State.setTile_feeders (h : Shelf) (f : Tile → Tile) : (s.setTile h f).feeders = s.feeders := rfl
@[simp] theorem State.setTile_tiles (h : Shelf) (f : Tile → Tile) : (s.setTile h f).tiles = upd s.tiles h f := rfl
@[simp] theorem State.setTile_hub (h : Shelf) (f : Tile → Tile) : (s.setTile h f).hub = s.hub := rfl
@[simp] theorem State.setTile_ring (h : Shelf) (f : Tile → Tile) : (s.setTile h f).ring = s.ring := rfl
@[simp] theorem State.setTile_bays (h : Shelf) (f : Tile → Tile) : (s.setTile h f).bays = s.bays := rfl
@[simp] theorem State.setTile_keep (h : Shelf) (f : Tile → Tile) : (s.setTile h f).keep = s.keep := rfl
@[simp] theorem State.setTile_ctxBay (h : Shelf) (f : Tile → Tile) : (s.setTile h f).ctxBay = s.ctxBay := rfl
@[simp] theorem State.setTile_ptCount (h : Shelf) (f : Tile → Tile) : (s.setTile h f).ptCount = s.ptCount := rfl
@[simp] theorem State.setTile_wb (h : Shelf) (f : Tile → Tile) : (s.setTile h f).wb = s.wb := rfl
@[simp] theorem State.setTile_pipe (h : Shelf) (f : Tile → Tile) : (s.setTile h f).pipe = s.pipe := rfl
@[simp] theorem State.setTile_voices (h : Shelf) (f : Tile → Tile) : (s.setTile h f).voices = s.voices := rfl
@[simp] theorem State.setTile_eng (h : Shelf) (f : Tile → Tile) : (s.setTile h f).eng = s.eng := rfl
@[simp] theorem State.setTile_timers (h : Shelf) (f : Tile → Tile) : (s.setTile h f).timers = s.timers := rfl
@[simp] theorem State.setTile_ctxs (h : Shelf) (f : Tile → Tile) : (s.setTile h f).ctxs = s.ctxs := rfl
@[simp] theorem State.setTile_huberr (h : Shelf) (f : Tile → Tile) : (s.setTile h f).huberr = s.huberr := rfl
@[simp] theorem State.setTile_held (h : Shelf) (f : Tile → Tile) : (s.setTile h f).held = s.held := rfl
@[simp] theorem State.setTile_hd (h : Shelf) (f : Tile → Tile) : (s.setTile h f).hd = s.hd := rfl
@[simp] theorem State.setTile_sysLog (h : Shelf) (f : Tile → Tile) : (s.setTile h f).sysLog = s.sysLog := rfl
@[simp] theorem State.setTile_ports (h : Shelf) (f : Tile → Tile) : (s.setTile h f).ports = s.ports := rfl
@[simp] theorem State.setTile_link (h : Shelf) (f : Tile → Tile) : (s.setTile h f).link = s.link := rfl
@[simp] theorem State.setTile_sec (h : Shelf) (f : Tile → Tile) : (s.setTile h f).sec = s.sec := rfl

@[simp] theorem State.setHub_pending (n : TileNo) (f : TileHub → TileHub) : (s.setHub n f).pending = s.pending := rfl
@[simp] theorem State.setHub_free (n : TileNo) (f : TileHub → TileHub) : (s.setHub n f).free = s.free := rfl
@[simp] theorem State.setHub_c (n : TileNo) (f : TileHub → TileHub) : (s.setHub n f).c = s.c := rfl
@[simp] theorem State.setHub_act (n : TileNo) (f : TileHub → TileHub) : (s.setHub n f).act = s.act := rfl
@[simp] theorem State.setHub_nv (n : TileNo) (f : TileHub → TileHub) : (s.setHub n f).nv = s.nv := rfl
@[simp] theorem State.setHub_clk (n : TileNo) (f : TileHub → TileHub) : (s.setHub n f).clk = s.clk := rfl
@[simp] theorem State.setHub_start (n : TileNo) (f : TileHub → TileHub) : (s.setHub n f).start = s.start := rfl
@[simp] theorem State.setHub_wd (n : TileNo) (f : TileHub → TileHub) : (s.setHub n f).wd = s.wd := rfl
@[simp] theorem State.setHub_mode (n : TileNo) (f : TileHub → TileHub) : (s.setHub n f).mode = s.mode := rfl
@[simp] theorem State.setHub_keeper (n : TileNo) (f : TileHub → TileHub) : (s.setHub n f).keeper = s.keeper := rfl
@[simp] theorem State.setHub_latch (n : TileNo) (f : TileHub → TileHub) : (s.setHub n f).latch = s.latch := rfl
@[simp] theorem State.setHub_feeders (n : TileNo) (f : TileHub → TileHub) : (s.setHub n f).feeders = s.feeders := rfl
@[simp] theorem State.setHub_tiles (n : TileNo) (f : TileHub → TileHub) : (s.setHub n f).tiles = s.tiles := rfl
@[simp] theorem State.setHub_hub (n : TileNo) (f : TileHub → TileHub) : (s.setHub n f).hub = upd s.hub n f := rfl
@[simp] theorem State.setHub_ring (n : TileNo) (f : TileHub → TileHub) : (s.setHub n f).ring = s.ring := rfl
@[simp] theorem State.setHub_bays (n : TileNo) (f : TileHub → TileHub) : (s.setHub n f).bays = s.bays := rfl
@[simp] theorem State.setHub_keep (n : TileNo) (f : TileHub → TileHub) : (s.setHub n f).keep = s.keep := rfl
@[simp] theorem State.setHub_ctxBay (n : TileNo) (f : TileHub → TileHub) : (s.setHub n f).ctxBay = s.ctxBay := rfl
@[simp] theorem State.setHub_ptCount (n : TileNo) (f : TileHub → TileHub) : (s.setHub n f).ptCount = s.ptCount := rfl
@[simp] theorem State.setHub_wb (n : TileNo) (f : TileHub → TileHub) : (s.setHub n f).wb = s.wb := rfl
@[simp] theorem State.setHub_pipe (n : TileNo) (f : TileHub → TileHub) : (s.setHub n f).pipe = s.pipe := rfl
@[simp] theorem State.setHub_voices (n : TileNo) (f : TileHub → TileHub) : (s.setHub n f).voices = s.voices := rfl
@[simp] theorem State.setHub_eng (n : TileNo) (f : TileHub → TileHub) : (s.setHub n f).eng = s.eng := rfl
@[simp] theorem State.setHub_timers (n : TileNo) (f : TileHub → TileHub) : (s.setHub n f).timers = s.timers := rfl
@[simp] theorem State.setHub_ctxs (n : TileNo) (f : TileHub → TileHub) : (s.setHub n f).ctxs = s.ctxs := rfl
@[simp] theorem State.setHub_huberr (n : TileNo) (f : TileHub → TileHub) : (s.setHub n f).huberr = s.huberr := rfl
@[simp] theorem State.setHub_held (n : TileNo) (f : TileHub → TileHub) : (s.setHub n f).held = s.held := rfl
@[simp] theorem State.setHub_hd (n : TileNo) (f : TileHub → TileHub) : (s.setHub n f).hd = s.hd := rfl
@[simp] theorem State.setHub_sysLog (n : TileNo) (f : TileHub → TileHub) : (s.setHub n f).sysLog = s.sysLog := rfl
@[simp] theorem State.setHub_ports (n : TileNo) (f : TileHub → TileHub) : (s.setHub n f).ports = s.ports := rfl
@[simp] theorem State.setHub_link (n : TileNo) (f : TileHub → TileHub) : (s.setHub n f).link = s.link := rfl
@[simp] theorem State.setHub_sec (n : TileNo) (f : TileHub → TileHub) : (s.setHub n f).sec = s.sec := rfl

@[simp] theorem State.setBay_pending (b : Bay) (f : BayVol → BayVol) : (s.setBay b f).pending = s.pending := rfl
@[simp] theorem State.setBay_free (b : Bay) (f : BayVol → BayVol) : (s.setBay b f).free = s.free := rfl
@[simp] theorem State.setBay_c (b : Bay) (f : BayVol → BayVol) : (s.setBay b f).c = s.c := rfl
@[simp] theorem State.setBay_act (b : Bay) (f : BayVol → BayVol) : (s.setBay b f).act = s.act := rfl
@[simp] theorem State.setBay_nv (b : Bay) (f : BayVol → BayVol) : (s.setBay b f).nv = s.nv := rfl
@[simp] theorem State.setBay_clk (b : Bay) (f : BayVol → BayVol) : (s.setBay b f).clk = s.clk := rfl
@[simp] theorem State.setBay_start (b : Bay) (f : BayVol → BayVol) : (s.setBay b f).start = s.start := rfl
@[simp] theorem State.setBay_wd (b : Bay) (f : BayVol → BayVol) : (s.setBay b f).wd = s.wd := rfl
@[simp] theorem State.setBay_mode (b : Bay) (f : BayVol → BayVol) : (s.setBay b f).mode = s.mode := rfl
@[simp] theorem State.setBay_keeper (b : Bay) (f : BayVol → BayVol) : (s.setBay b f).keeper = s.keeper := rfl
@[simp] theorem State.setBay_latch (b : Bay) (f : BayVol → BayVol) : (s.setBay b f).latch = s.latch := rfl
@[simp] theorem State.setBay_feeders (b : Bay) (f : BayVol → BayVol) : (s.setBay b f).feeders = s.feeders := rfl
@[simp] theorem State.setBay_tiles (b : Bay) (f : BayVol → BayVol) : (s.setBay b f).tiles = s.tiles := rfl
@[simp] theorem State.setBay_hub (b : Bay) (f : BayVol → BayVol) : (s.setBay b f).hub = s.hub := rfl
@[simp] theorem State.setBay_ring (b : Bay) (f : BayVol → BayVol) : (s.setBay b f).ring = s.ring := rfl
@[simp] theorem State.setBay_bays (b : Bay) (f : BayVol → BayVol) : (s.setBay b f).bays = upd s.bays b f := rfl
@[simp] theorem State.setBay_keep (b : Bay) (f : BayVol → BayVol) : (s.setBay b f).keep = s.keep := rfl
@[simp] theorem State.setBay_ctxBay (b : Bay) (f : BayVol → BayVol) : (s.setBay b f).ctxBay = s.ctxBay := rfl
@[simp] theorem State.setBay_ptCount (b : Bay) (f : BayVol → BayVol) : (s.setBay b f).ptCount = s.ptCount := rfl
@[simp] theorem State.setBay_wb (b : Bay) (f : BayVol → BayVol) : (s.setBay b f).wb = s.wb := rfl
@[simp] theorem State.setBay_pipe (b : Bay) (f : BayVol → BayVol) : (s.setBay b f).pipe = s.pipe := rfl
@[simp] theorem State.setBay_voices (b : Bay) (f : BayVol → BayVol) : (s.setBay b f).voices = s.voices := rfl
@[simp] theorem State.setBay_eng (b : Bay) (f : BayVol → BayVol) : (s.setBay b f).eng = s.eng := rfl
@[simp] theorem State.setBay_timers (b : Bay) (f : BayVol → BayVol) : (s.setBay b f).timers = s.timers := rfl
@[simp] theorem State.setBay_ctxs (b : Bay) (f : BayVol → BayVol) : (s.setBay b f).ctxs = s.ctxs := rfl
@[simp] theorem State.setBay_huberr (b : Bay) (f : BayVol → BayVol) : (s.setBay b f).huberr = s.huberr := rfl
@[simp] theorem State.setBay_held (b : Bay) (f : BayVol → BayVol) : (s.setBay b f).held = s.held := rfl
@[simp] theorem State.setBay_hd (b : Bay) (f : BayVol → BayVol) : (s.setBay b f).hd = s.hd := rfl
@[simp] theorem State.setBay_sysLog (b : Bay) (f : BayVol → BayVol) : (s.setBay b f).sysLog = s.sysLog := rfl
@[simp] theorem State.setBay_ports (b : Bay) (f : BayVol → BayVol) : (s.setBay b f).ports = s.ports := rfl
@[simp] theorem State.setBay_link (b : Bay) (f : BayVol → BayVol) : (s.setBay b f).link = s.link := rfl
@[simp] theorem State.setBay_sec (b : Bay) (f : BayVol → BayVol) : (s.setBay b f).sec = s.sec := rfl

@[simp] theorem State.setC_pending (f : Committed → Committed) : (s.setC f).pending = s.pending := rfl
@[simp] theorem State.setC_free (f : Committed → Committed) : (s.setC f).free = s.free := rfl
@[simp] theorem State.setC_c (f : Committed → Committed) : (s.setC f).c = f s.c := rfl
@[simp] theorem State.setC_act (f : Committed → Committed) : (s.setC f).act = s.act := rfl
@[simp] theorem State.setC_nv (f : Committed → Committed) : (s.setC f).nv = s.nv := rfl
@[simp] theorem State.setC_clk (f : Committed → Committed) : (s.setC f).clk = s.clk := rfl
@[simp] theorem State.setC_start (f : Committed → Committed) : (s.setC f).start = s.start := rfl
@[simp] theorem State.setC_wd (f : Committed → Committed) : (s.setC f).wd = s.wd := rfl
@[simp] theorem State.setC_mode (f : Committed → Committed) : (s.setC f).mode = s.mode := rfl
@[simp] theorem State.setC_keeper (f : Committed → Committed) : (s.setC f).keeper = s.keeper := rfl
@[simp] theorem State.setC_latch (f : Committed → Committed) : (s.setC f).latch = s.latch := rfl
@[simp] theorem State.setC_feeders (f : Committed → Committed) : (s.setC f).feeders = s.feeders := rfl
@[simp] theorem State.setC_tiles (f : Committed → Committed) : (s.setC f).tiles = s.tiles := rfl
@[simp] theorem State.setC_hub (f : Committed → Committed) : (s.setC f).hub = s.hub := rfl
@[simp] theorem State.setC_ring (f : Committed → Committed) : (s.setC f).ring = s.ring := rfl
@[simp] theorem State.setC_bays (f : Committed → Committed) : (s.setC f).bays = s.bays := rfl
@[simp] theorem State.setC_keep (f : Committed → Committed) : (s.setC f).keep = s.keep := rfl
@[simp] theorem State.setC_ctxBay (f : Committed → Committed) : (s.setC f).ctxBay = s.ctxBay := rfl
@[simp] theorem State.setC_ptCount (f : Committed → Committed) : (s.setC f).ptCount = s.ptCount := rfl
@[simp] theorem State.setC_wb (f : Committed → Committed) : (s.setC f).wb = s.wb := rfl
@[simp] theorem State.setC_pipe (f : Committed → Committed) : (s.setC f).pipe = s.pipe := rfl
@[simp] theorem State.setC_voices (f : Committed → Committed) : (s.setC f).voices = s.voices := rfl
@[simp] theorem State.setC_eng (f : Committed → Committed) : (s.setC f).eng = s.eng := rfl
@[simp] theorem State.setC_timers (f : Committed → Committed) : (s.setC f).timers = s.timers := rfl
@[simp] theorem State.setC_ctxs (f : Committed → Committed) : (s.setC f).ctxs = s.ctxs := rfl
@[simp] theorem State.setC_huberr (f : Committed → Committed) : (s.setC f).huberr = s.huberr := rfl
@[simp] theorem State.setC_held (f : Committed → Committed) : (s.setC f).held = s.held := rfl
@[simp] theorem State.setC_hd (f : Committed → Committed) : (s.setC f).hd = s.hd := rfl
@[simp] theorem State.setC_sysLog (f : Committed → Committed) : (s.setC f).sysLog = s.sysLog := rfl
@[simp] theorem State.setC_ports (f : Committed → Committed) : (s.setC f).ports = s.ports := rfl
@[simp] theorem State.setC_link (f : Committed → Committed) : (s.setC f).link = s.link := rfl
@[simp] theorem State.setC_sec (f : Committed → Committed) : (s.setC f).sec = s.sec := rfl

@[simp] theorem State.setRing_pending (f : Ring → Ring) : (s.setRing f).pending = s.pending := rfl
@[simp] theorem State.setRing_free (f : Ring → Ring) : (s.setRing f).free = s.free := rfl
@[simp] theorem State.setRing_c (f : Ring → Ring) : (s.setRing f).c = s.c := rfl
@[simp] theorem State.setRing_act (f : Ring → Ring) : (s.setRing f).act = s.act := rfl
@[simp] theorem State.setRing_nv (f : Ring → Ring) : (s.setRing f).nv = s.nv := rfl
@[simp] theorem State.setRing_clk (f : Ring → Ring) : (s.setRing f).clk = s.clk := rfl
@[simp] theorem State.setRing_start (f : Ring → Ring) : (s.setRing f).start = s.start := rfl
@[simp] theorem State.setRing_wd (f : Ring → Ring) : (s.setRing f).wd = s.wd := rfl
@[simp] theorem State.setRing_mode (f : Ring → Ring) : (s.setRing f).mode = s.mode := rfl
@[simp] theorem State.setRing_keeper (f : Ring → Ring) : (s.setRing f).keeper = s.keeper := rfl
@[simp] theorem State.setRing_latch (f : Ring → Ring) : (s.setRing f).latch = s.latch := rfl
@[simp] theorem State.setRing_feeders (f : Ring → Ring) : (s.setRing f).feeders = s.feeders := rfl
@[simp] theorem State.setRing_tiles (f : Ring → Ring) : (s.setRing f).tiles = s.tiles := rfl
@[simp] theorem State.setRing_hub (f : Ring → Ring) : (s.setRing f).hub = s.hub := rfl
@[simp] theorem State.setRing_ring (f : Ring → Ring) : (s.setRing f).ring = f s.ring := rfl
@[simp] theorem State.setRing_bays (f : Ring → Ring) : (s.setRing f).bays = s.bays := rfl
@[simp] theorem State.setRing_keep (f : Ring → Ring) : (s.setRing f).keep = s.keep := rfl
@[simp] theorem State.setRing_ctxBay (f : Ring → Ring) : (s.setRing f).ctxBay = s.ctxBay := rfl
@[simp] theorem State.setRing_ptCount (f : Ring → Ring) : (s.setRing f).ptCount = s.ptCount := rfl
@[simp] theorem State.setRing_wb (f : Ring → Ring) : (s.setRing f).wb = s.wb := rfl
@[simp] theorem State.setRing_pipe (f : Ring → Ring) : (s.setRing f).pipe = s.pipe := rfl
@[simp] theorem State.setRing_voices (f : Ring → Ring) : (s.setRing f).voices = s.voices := rfl
@[simp] theorem State.setRing_eng (f : Ring → Ring) : (s.setRing f).eng = s.eng := rfl
@[simp] theorem State.setRing_timers (f : Ring → Ring) : (s.setRing f).timers = s.timers := rfl
@[simp] theorem State.setRing_ctxs (f : Ring → Ring) : (s.setRing f).ctxs = s.ctxs := rfl
@[simp] theorem State.setRing_huberr (f : Ring → Ring) : (s.setRing f).huberr = s.huberr := rfl
@[simp] theorem State.setRing_held (f : Ring → Ring) : (s.setRing f).held = s.held := rfl
@[simp] theorem State.setRing_hd (f : Ring → Ring) : (s.setRing f).hd = s.hd := rfl
@[simp] theorem State.setRing_sysLog (f : Ring → Ring) : (s.setRing f).sysLog = s.sysLog := rfl
@[simp] theorem State.setRing_ports (f : Ring → Ring) : (s.setRing f).ports = s.ports := rfl
@[simp] theorem State.setRing_link (f : Ring → Ring) : (s.setRing f).link = s.link := rfl
@[simp] theorem State.setRing_sec (f : Ring → Ring) : (s.setRing f).sec = s.sec := rfl

@[simp] theorem State.setFeeder_pending (i : FeederId) (f : Feeder → Feeder) : (s.setFeeder i f).pending = s.pending := rfl
@[simp] theorem State.setFeeder_free (i : FeederId) (f : Feeder → Feeder) : (s.setFeeder i f).free = s.free := rfl
@[simp] theorem State.setFeeder_c (i : FeederId) (f : Feeder → Feeder) : (s.setFeeder i f).c = s.c := rfl
@[simp] theorem State.setFeeder_act (i : FeederId) (f : Feeder → Feeder) : (s.setFeeder i f).act = s.act := rfl
@[simp] theorem State.setFeeder_nv (i : FeederId) (f : Feeder → Feeder) : (s.setFeeder i f).nv = s.nv := rfl
@[simp] theorem State.setFeeder_clk (i : FeederId) (f : Feeder → Feeder) : (s.setFeeder i f).clk = s.clk := rfl
@[simp] theorem State.setFeeder_start (i : FeederId) (f : Feeder → Feeder) : (s.setFeeder i f).start = s.start := rfl
@[simp] theorem State.setFeeder_wd (i : FeederId) (f : Feeder → Feeder) : (s.setFeeder i f).wd = s.wd := rfl
@[simp] theorem State.setFeeder_mode (i : FeederId) (f : Feeder → Feeder) : (s.setFeeder i f).mode = s.mode := rfl
@[simp] theorem State.setFeeder_keeper (i : FeederId) (f : Feeder → Feeder) : (s.setFeeder i f).keeper = s.keeper := rfl
@[simp] theorem State.setFeeder_latch (i : FeederId) (f : Feeder → Feeder) : (s.setFeeder i f).latch = s.latch := rfl
@[simp] theorem State.setFeeder_feeders (i : FeederId) (f : Feeder → Feeder) : (s.setFeeder i f).feeders = upd s.feeders i f := rfl
@[simp] theorem State.setFeeder_tiles (i : FeederId) (f : Feeder → Feeder) : (s.setFeeder i f).tiles = s.tiles := rfl
@[simp] theorem State.setFeeder_hub (i : FeederId) (f : Feeder → Feeder) : (s.setFeeder i f).hub = s.hub := rfl
@[simp] theorem State.setFeeder_ring (i : FeederId) (f : Feeder → Feeder) : (s.setFeeder i f).ring = s.ring := rfl
@[simp] theorem State.setFeeder_bays (i : FeederId) (f : Feeder → Feeder) : (s.setFeeder i f).bays = s.bays := rfl
@[simp] theorem State.setFeeder_keep (i : FeederId) (f : Feeder → Feeder) : (s.setFeeder i f).keep = s.keep := rfl
@[simp] theorem State.setFeeder_ctxBay (i : FeederId) (f : Feeder → Feeder) : (s.setFeeder i f).ctxBay = s.ctxBay := rfl
@[simp] theorem State.setFeeder_ptCount (i : FeederId) (f : Feeder → Feeder) : (s.setFeeder i f).ptCount = s.ptCount := rfl
@[simp] theorem State.setFeeder_wb (i : FeederId) (f : Feeder → Feeder) : (s.setFeeder i f).wb = s.wb := rfl
@[simp] theorem State.setFeeder_pipe (i : FeederId) (f : Feeder → Feeder) : (s.setFeeder i f).pipe = s.pipe := rfl
@[simp] theorem State.setFeeder_voices (i : FeederId) (f : Feeder → Feeder) : (s.setFeeder i f).voices = s.voices := rfl
@[simp] theorem State.setFeeder_eng (i : FeederId) (f : Feeder → Feeder) : (s.setFeeder i f).eng = s.eng := rfl
@[simp] theorem State.setFeeder_timers (i : FeederId) (f : Feeder → Feeder) : (s.setFeeder i f).timers = s.timers := rfl
@[simp] theorem State.setFeeder_ctxs (i : FeederId) (f : Feeder → Feeder) : (s.setFeeder i f).ctxs = s.ctxs := rfl
@[simp] theorem State.setFeeder_huberr (i : FeederId) (f : Feeder → Feeder) : (s.setFeeder i f).huberr = s.huberr := rfl
@[simp] theorem State.setFeeder_held (i : FeederId) (f : Feeder → Feeder) : (s.setFeeder i f).held = s.held := rfl
@[simp] theorem State.setFeeder_hd (i : FeederId) (f : Feeder → Feeder) : (s.setFeeder i f).hd = s.hd := rfl
@[simp] theorem State.setFeeder_sysLog (i : FeederId) (f : Feeder → Feeder) : (s.setFeeder i f).sysLog = s.sysLog := rfl
@[simp] theorem State.setFeeder_ports (i : FeederId) (f : Feeder → Feeder) : (s.setFeeder i f).ports = s.ports := rfl
@[simp] theorem State.setFeeder_link (i : FeederId) (f : Feeder → Feeder) : (s.setFeeder i f).link = s.link := rfl
@[simp] theorem State.setFeeder_sec (i : FeederId) (f : Feeder → Feeder) : (s.setFeeder i f).sec = s.sec := rfl

@[simp] theorem State.setKeeper_pending (f : Keeper → Keeper) : (s.setKeeper f).pending = s.pending := rfl
@[simp] theorem State.setKeeper_free (f : Keeper → Keeper) : (s.setKeeper f).free = s.free := rfl
@[simp] theorem State.setKeeper_c (f : Keeper → Keeper) : (s.setKeeper f).c = s.c := rfl
@[simp] theorem State.setKeeper_act (f : Keeper → Keeper) : (s.setKeeper f).act = s.act := rfl
@[simp] theorem State.setKeeper_nv (f : Keeper → Keeper) : (s.setKeeper f).nv = s.nv := rfl
@[simp] theorem State.setKeeper_clk (f : Keeper → Keeper) : (s.setKeeper f).clk = s.clk := rfl
@[simp] theorem State.setKeeper_start (f : Keeper → Keeper) : (s.setKeeper f).start = s.start := rfl
@[simp] theorem State.setKeeper_wd (f : Keeper → Keeper) : (s.setKeeper f).wd = s.wd := rfl
@[simp] theorem State.setKeeper_mode (f : Keeper → Keeper) : (s.setKeeper f).mode = s.mode := rfl
@[simp] theorem State.setKeeper_keeper (f : Keeper → Keeper) : (s.setKeeper f).keeper = f s.keeper := rfl
@[simp] theorem State.setKeeper_latch (f : Keeper → Keeper) : (s.setKeeper f).latch = s.latch := rfl
@[simp] theorem State.setKeeper_feeders (f : Keeper → Keeper) : (s.setKeeper f).feeders = s.feeders := rfl
@[simp] theorem State.setKeeper_tiles (f : Keeper → Keeper) : (s.setKeeper f).tiles = s.tiles := rfl
@[simp] theorem State.setKeeper_hub (f : Keeper → Keeper) : (s.setKeeper f).hub = s.hub := rfl
@[simp] theorem State.setKeeper_ring (f : Keeper → Keeper) : (s.setKeeper f).ring = s.ring := rfl
@[simp] theorem State.setKeeper_bays (f : Keeper → Keeper) : (s.setKeeper f).bays = s.bays := rfl
@[simp] theorem State.setKeeper_keep (f : Keeper → Keeper) : (s.setKeeper f).keep = s.keep := rfl
@[simp] theorem State.setKeeper_ctxBay (f : Keeper → Keeper) : (s.setKeeper f).ctxBay = s.ctxBay := rfl
@[simp] theorem State.setKeeper_ptCount (f : Keeper → Keeper) : (s.setKeeper f).ptCount = s.ptCount := rfl
@[simp] theorem State.setKeeper_wb (f : Keeper → Keeper) : (s.setKeeper f).wb = s.wb := rfl
@[simp] theorem State.setKeeper_pipe (f : Keeper → Keeper) : (s.setKeeper f).pipe = s.pipe := rfl
@[simp] theorem State.setKeeper_voices (f : Keeper → Keeper) : (s.setKeeper f).voices = s.voices := rfl
@[simp] theorem State.setKeeper_eng (f : Keeper → Keeper) : (s.setKeeper f).eng = s.eng := rfl
@[simp] theorem State.setKeeper_timers (f : Keeper → Keeper) : (s.setKeeper f).timers = s.timers := rfl
@[simp] theorem State.setKeeper_ctxs (f : Keeper → Keeper) : (s.setKeeper f).ctxs = s.ctxs := rfl
@[simp] theorem State.setKeeper_huberr (f : Keeper → Keeper) : (s.setKeeper f).huberr = s.huberr := rfl
@[simp] theorem State.setKeeper_held (f : Keeper → Keeper) : (s.setKeeper f).held = s.held := rfl
@[simp] theorem State.setKeeper_hd (f : Keeper → Keeper) : (s.setKeeper f).hd = s.hd := rfl
@[simp] theorem State.setKeeper_sysLog (f : Keeper → Keeper) : (s.setKeeper f).sysLog = s.sysLog := rfl
@[simp] theorem State.setKeeper_ports (f : Keeper → Keeper) : (s.setKeeper f).ports = s.ports := rfl
@[simp] theorem State.setKeeper_link (f : Keeper → Keeper) : (s.setKeeper f).link = s.link := rfl
@[simp] theorem State.setKeeper_sec (f : Keeper → Keeper) : (s.setKeeper f).sec = s.sec := rfl

@[simp] theorem State.setClk_pending (f : Clock → Clock) : (s.setClk f).pending = s.pending := rfl
@[simp] theorem State.setClk_free (f : Clock → Clock) : (s.setClk f).free = s.free := rfl
@[simp] theorem State.setClk_c (f : Clock → Clock) : (s.setClk f).c = s.c := rfl
@[simp] theorem State.setClk_act (f : Clock → Clock) : (s.setClk f).act = s.act := rfl
@[simp] theorem State.setClk_nv (f : Clock → Clock) : (s.setClk f).nv = s.nv := rfl
@[simp] theorem State.setClk_clk (f : Clock → Clock) : (s.setClk f).clk = f s.clk := rfl
@[simp] theorem State.setClk_start (f : Clock → Clock) : (s.setClk f).start = s.start := rfl
@[simp] theorem State.setClk_wd (f : Clock → Clock) : (s.setClk f).wd = s.wd := rfl
@[simp] theorem State.setClk_mode (f : Clock → Clock) : (s.setClk f).mode = s.mode := rfl
@[simp] theorem State.setClk_keeper (f : Clock → Clock) : (s.setClk f).keeper = s.keeper := rfl
@[simp] theorem State.setClk_latch (f : Clock → Clock) : (s.setClk f).latch = s.latch := rfl
@[simp] theorem State.setClk_feeders (f : Clock → Clock) : (s.setClk f).feeders = s.feeders := rfl
@[simp] theorem State.setClk_tiles (f : Clock → Clock) : (s.setClk f).tiles = s.tiles := rfl
@[simp] theorem State.setClk_hub (f : Clock → Clock) : (s.setClk f).hub = s.hub := rfl
@[simp] theorem State.setClk_ring (f : Clock → Clock) : (s.setClk f).ring = s.ring := rfl
@[simp] theorem State.setClk_bays (f : Clock → Clock) : (s.setClk f).bays = s.bays := rfl
@[simp] theorem State.setClk_keep (f : Clock → Clock) : (s.setClk f).keep = s.keep := rfl
@[simp] theorem State.setClk_ctxBay (f : Clock → Clock) : (s.setClk f).ctxBay = s.ctxBay := rfl
@[simp] theorem State.setClk_ptCount (f : Clock → Clock) : (s.setClk f).ptCount = s.ptCount := rfl
@[simp] theorem State.setClk_wb (f : Clock → Clock) : (s.setClk f).wb = s.wb := rfl
@[simp] theorem State.setClk_pipe (f : Clock → Clock) : (s.setClk f).pipe = s.pipe := rfl
@[simp] theorem State.setClk_voices (f : Clock → Clock) : (s.setClk f).voices = s.voices := rfl
@[simp] theorem State.setClk_eng (f : Clock → Clock) : (s.setClk f).eng = s.eng := rfl
@[simp] theorem State.setClk_timers (f : Clock → Clock) : (s.setClk f).timers = s.timers := rfl
@[simp] theorem State.setClk_ctxs (f : Clock → Clock) : (s.setClk f).ctxs = s.ctxs := rfl
@[simp] theorem State.setClk_huberr (f : Clock → Clock) : (s.setClk f).huberr = s.huberr := rfl
@[simp] theorem State.setClk_held (f : Clock → Clock) : (s.setClk f).held = s.held := rfl
@[simp] theorem State.setClk_hd (f : Clock → Clock) : (s.setClk f).hd = s.hd := rfl
@[simp] theorem State.setClk_sysLog (f : Clock → Clock) : (s.setClk f).sysLog = s.sysLog := rfl
@[simp] theorem State.setClk_ports (f : Clock → Clock) : (s.setClk f).ports = s.ports := rfl
@[simp] theorem State.setClk_link (f : Clock → Clock) : (s.setClk f).link = s.link := rfl
@[simp] theorem State.setClk_sec (f : Clock → Clock) : (s.setClk f).sec = s.sec := rfl

@[simp] theorem State.setStart_pending (f : Start → Start) : (s.setStart f).pending = s.pending := rfl
@[simp] theorem State.setStart_free (f : Start → Start) : (s.setStart f).free = s.free := rfl
@[simp] theorem State.setStart_c (f : Start → Start) : (s.setStart f).c = s.c := rfl
@[simp] theorem State.setStart_act (f : Start → Start) : (s.setStart f).act = s.act := rfl
@[simp] theorem State.setStart_nv (f : Start → Start) : (s.setStart f).nv = s.nv := rfl
@[simp] theorem State.setStart_clk (f : Start → Start) : (s.setStart f).clk = s.clk := rfl
@[simp] theorem State.setStart_start (f : Start → Start) : (s.setStart f).start = f s.start := rfl
@[simp] theorem State.setStart_wd (f : Start → Start) : (s.setStart f).wd = s.wd := rfl
@[simp] theorem State.setStart_mode (f : Start → Start) : (s.setStart f).mode = s.mode := rfl
@[simp] theorem State.setStart_keeper (f : Start → Start) : (s.setStart f).keeper = s.keeper := rfl
@[simp] theorem State.setStart_latch (f : Start → Start) : (s.setStart f).latch = s.latch := rfl
@[simp] theorem State.setStart_feeders (f : Start → Start) : (s.setStart f).feeders = s.feeders := rfl
@[simp] theorem State.setStart_tiles (f : Start → Start) : (s.setStart f).tiles = s.tiles := rfl
@[simp] theorem State.setStart_hub (f : Start → Start) : (s.setStart f).hub = s.hub := rfl
@[simp] theorem State.setStart_ring (f : Start → Start) : (s.setStart f).ring = s.ring := rfl
@[simp] theorem State.setStart_bays (f : Start → Start) : (s.setStart f).bays = s.bays := rfl
@[simp] theorem State.setStart_keep (f : Start → Start) : (s.setStart f).keep = s.keep := rfl
@[simp] theorem State.setStart_ctxBay (f : Start → Start) : (s.setStart f).ctxBay = s.ctxBay := rfl
@[simp] theorem State.setStart_ptCount (f : Start → Start) : (s.setStart f).ptCount = s.ptCount := rfl
@[simp] theorem State.setStart_wb (f : Start → Start) : (s.setStart f).wb = s.wb := rfl
@[simp] theorem State.setStart_pipe (f : Start → Start) : (s.setStart f).pipe = s.pipe := rfl
@[simp] theorem State.setStart_voices (f : Start → Start) : (s.setStart f).voices = s.voices := rfl
@[simp] theorem State.setStart_eng (f : Start → Start) : (s.setStart f).eng = s.eng := rfl
@[simp] theorem State.setStart_timers (f : Start → Start) : (s.setStart f).timers = s.timers := rfl
@[simp] theorem State.setStart_ctxs (f : Start → Start) : (s.setStart f).ctxs = s.ctxs := rfl
@[simp] theorem State.setStart_huberr (f : Start → Start) : (s.setStart f).huberr = s.huberr := rfl
@[simp] theorem State.setStart_held (f : Start → Start) : (s.setStart f).held = s.held := rfl
@[simp] theorem State.setStart_hd (f : Start → Start) : (s.setStart f).hd = s.hd := rfl
@[simp] theorem State.setStart_sysLog (f : Start → Start) : (s.setStart f).sysLog = s.sysLog := rfl
@[simp] theorem State.setStart_ports (f : Start → Start) : (s.setStart f).ports = s.ports := rfl
@[simp] theorem State.setStart_link (f : Start → Start) : (s.setStart f).link = s.link := rfl
@[simp] theorem State.setStart_sec (f : Start → Start) : (s.setStart f).sec = s.sec := rfl

@[simp] theorem State.setMode_pending (f : ModeSt → ModeSt) : (s.setMode f).pending = s.pending := rfl
@[simp] theorem State.setMode_free (f : ModeSt → ModeSt) : (s.setMode f).free = s.free := rfl
@[simp] theorem State.setMode_c (f : ModeSt → ModeSt) : (s.setMode f).c = s.c := rfl
@[simp] theorem State.setMode_act (f : ModeSt → ModeSt) : (s.setMode f).act = s.act := rfl
@[simp] theorem State.setMode_nv (f : ModeSt → ModeSt) : (s.setMode f).nv = s.nv := rfl
@[simp] theorem State.setMode_clk (f : ModeSt → ModeSt) : (s.setMode f).clk = s.clk := rfl
@[simp] theorem State.setMode_start (f : ModeSt → ModeSt) : (s.setMode f).start = s.start := rfl
@[simp] theorem State.setMode_wd (f : ModeSt → ModeSt) : (s.setMode f).wd = s.wd := rfl
@[simp] theorem State.setMode_mode (f : ModeSt → ModeSt) : (s.setMode f).mode = f s.mode := rfl
@[simp] theorem State.setMode_keeper (f : ModeSt → ModeSt) : (s.setMode f).keeper = s.keeper := rfl
@[simp] theorem State.setMode_latch (f : ModeSt → ModeSt) : (s.setMode f).latch = s.latch := rfl
@[simp] theorem State.setMode_feeders (f : ModeSt → ModeSt) : (s.setMode f).feeders = s.feeders := rfl
@[simp] theorem State.setMode_tiles (f : ModeSt → ModeSt) : (s.setMode f).tiles = s.tiles := rfl
@[simp] theorem State.setMode_hub (f : ModeSt → ModeSt) : (s.setMode f).hub = s.hub := rfl
@[simp] theorem State.setMode_ring (f : ModeSt → ModeSt) : (s.setMode f).ring = s.ring := rfl
@[simp] theorem State.setMode_bays (f : ModeSt → ModeSt) : (s.setMode f).bays = s.bays := rfl
@[simp] theorem State.setMode_keep (f : ModeSt → ModeSt) : (s.setMode f).keep = s.keep := rfl
@[simp] theorem State.setMode_ctxBay (f : ModeSt → ModeSt) : (s.setMode f).ctxBay = s.ctxBay := rfl
@[simp] theorem State.setMode_ptCount (f : ModeSt → ModeSt) : (s.setMode f).ptCount = s.ptCount := rfl
@[simp] theorem State.setMode_wb (f : ModeSt → ModeSt) : (s.setMode f).wb = s.wb := rfl
@[simp] theorem State.setMode_pipe (f : ModeSt → ModeSt) : (s.setMode f).pipe = s.pipe := rfl
@[simp] theorem State.setMode_voices (f : ModeSt → ModeSt) : (s.setMode f).voices = s.voices := rfl
@[simp] theorem State.setMode_eng (f : ModeSt → ModeSt) : (s.setMode f).eng = s.eng := rfl
@[simp] theorem State.setMode_timers (f : ModeSt → ModeSt) : (s.setMode f).timers = s.timers := rfl
@[simp] theorem State.setMode_ctxs (f : ModeSt → ModeSt) : (s.setMode f).ctxs = s.ctxs := rfl
@[simp] theorem State.setMode_huberr (f : ModeSt → ModeSt) : (s.setMode f).huberr = s.huberr := rfl
@[simp] theorem State.setMode_held (f : ModeSt → ModeSt) : (s.setMode f).held = s.held := rfl
@[simp] theorem State.setMode_hd (f : ModeSt → ModeSt) : (s.setMode f).hd = s.hd := rfl
@[simp] theorem State.setMode_sysLog (f : ModeSt → ModeSt) : (s.setMode f).sysLog = s.sysLog := rfl
@[simp] theorem State.setMode_ports (f : ModeSt → ModeSt) : (s.setMode f).ports = s.ports := rfl
@[simp] theorem State.setMode_link (f : ModeSt → ModeSt) : (s.setMode f).link = s.link := rfl
@[simp] theorem State.setMode_sec (f : ModeSt → ModeSt) : (s.setMode f).sec = s.sec := rfl

@[simp] theorem State.setWd_pending (f : Watchdog → Watchdog) : (s.setWd f).pending = s.pending := rfl
@[simp] theorem State.setWd_free (f : Watchdog → Watchdog) : (s.setWd f).free = s.free := rfl
@[simp] theorem State.setWd_c (f : Watchdog → Watchdog) : (s.setWd f).c = s.c := rfl
@[simp] theorem State.setWd_act (f : Watchdog → Watchdog) : (s.setWd f).act = s.act := rfl
@[simp] theorem State.setWd_nv (f : Watchdog → Watchdog) : (s.setWd f).nv = s.nv := rfl
@[simp] theorem State.setWd_clk (f : Watchdog → Watchdog) : (s.setWd f).clk = s.clk := rfl
@[simp] theorem State.setWd_start (f : Watchdog → Watchdog) : (s.setWd f).start = s.start := rfl
@[simp] theorem State.setWd_wd (f : Watchdog → Watchdog) : (s.setWd f).wd = f s.wd := rfl
@[simp] theorem State.setWd_mode (f : Watchdog → Watchdog) : (s.setWd f).mode = s.mode := rfl
@[simp] theorem State.setWd_keeper (f : Watchdog → Watchdog) : (s.setWd f).keeper = s.keeper := rfl
@[simp] theorem State.setWd_latch (f : Watchdog → Watchdog) : (s.setWd f).latch = s.latch := rfl
@[simp] theorem State.setWd_feeders (f : Watchdog → Watchdog) : (s.setWd f).feeders = s.feeders := rfl
@[simp] theorem State.setWd_tiles (f : Watchdog → Watchdog) : (s.setWd f).tiles = s.tiles := rfl
@[simp] theorem State.setWd_hub (f : Watchdog → Watchdog) : (s.setWd f).hub = s.hub := rfl
@[simp] theorem State.setWd_ring (f : Watchdog → Watchdog) : (s.setWd f).ring = s.ring := rfl
@[simp] theorem State.setWd_bays (f : Watchdog → Watchdog) : (s.setWd f).bays = s.bays := rfl
@[simp] theorem State.setWd_keep (f : Watchdog → Watchdog) : (s.setWd f).keep = s.keep := rfl
@[simp] theorem State.setWd_ctxBay (f : Watchdog → Watchdog) : (s.setWd f).ctxBay = s.ctxBay := rfl
@[simp] theorem State.setWd_ptCount (f : Watchdog → Watchdog) : (s.setWd f).ptCount = s.ptCount := rfl
@[simp] theorem State.setWd_wb (f : Watchdog → Watchdog) : (s.setWd f).wb = s.wb := rfl
@[simp] theorem State.setWd_pipe (f : Watchdog → Watchdog) : (s.setWd f).pipe = s.pipe := rfl
@[simp] theorem State.setWd_voices (f : Watchdog → Watchdog) : (s.setWd f).voices = s.voices := rfl
@[simp] theorem State.setWd_eng (f : Watchdog → Watchdog) : (s.setWd f).eng = s.eng := rfl
@[simp] theorem State.setWd_timers (f : Watchdog → Watchdog) : (s.setWd f).timers = s.timers := rfl
@[simp] theorem State.setWd_ctxs (f : Watchdog → Watchdog) : (s.setWd f).ctxs = s.ctxs := rfl
@[simp] theorem State.setWd_huberr (f : Watchdog → Watchdog) : (s.setWd f).huberr = s.huberr := rfl
@[simp] theorem State.setWd_held (f : Watchdog → Watchdog) : (s.setWd f).held = s.held := rfl
@[simp] theorem State.setWd_hd (f : Watchdog → Watchdog) : (s.setWd f).hd = s.hd := rfl
@[simp] theorem State.setWd_sysLog (f : Watchdog → Watchdog) : (s.setWd f).sysLog = s.sysLog := rfl
@[simp] theorem State.setWd_ports (f : Watchdog → Watchdog) : (s.setWd f).ports = s.ports := rfl
@[simp] theorem State.setWd_link (f : Watchdog → Watchdog) : (s.setWd f).link = s.link := rfl
@[simp] theorem State.setWd_sec (f : Watchdog → Watchdog) : (s.setWd f).sec = s.sec := rfl

@[simp] theorem State.setEng_pending (f : Engine → Engine) : (s.setEng f).pending = s.pending := rfl
@[simp] theorem State.setEng_free (f : Engine → Engine) : (s.setEng f).free = s.free := rfl
@[simp] theorem State.setEng_c (f : Engine → Engine) : (s.setEng f).c = s.c := rfl
@[simp] theorem State.setEng_act (f : Engine → Engine) : (s.setEng f).act = s.act := rfl
@[simp] theorem State.setEng_nv (f : Engine → Engine) : (s.setEng f).nv = s.nv := rfl
@[simp] theorem State.setEng_clk (f : Engine → Engine) : (s.setEng f).clk = s.clk := rfl
@[simp] theorem State.setEng_start (f : Engine → Engine) : (s.setEng f).start = s.start := rfl
@[simp] theorem State.setEng_wd (f : Engine → Engine) : (s.setEng f).wd = s.wd := rfl
@[simp] theorem State.setEng_mode (f : Engine → Engine) : (s.setEng f).mode = s.mode := rfl
@[simp] theorem State.setEng_keeper (f : Engine → Engine) : (s.setEng f).keeper = s.keeper := rfl
@[simp] theorem State.setEng_latch (f : Engine → Engine) : (s.setEng f).latch = s.latch := rfl
@[simp] theorem State.setEng_feeders (f : Engine → Engine) : (s.setEng f).feeders = s.feeders := rfl
@[simp] theorem State.setEng_tiles (f : Engine → Engine) : (s.setEng f).tiles = s.tiles := rfl
@[simp] theorem State.setEng_hub (f : Engine → Engine) : (s.setEng f).hub = s.hub := rfl
@[simp] theorem State.setEng_ring (f : Engine → Engine) : (s.setEng f).ring = s.ring := rfl
@[simp] theorem State.setEng_bays (f : Engine → Engine) : (s.setEng f).bays = s.bays := rfl
@[simp] theorem State.setEng_keep (f : Engine → Engine) : (s.setEng f).keep = s.keep := rfl
@[simp] theorem State.setEng_ctxBay (f : Engine → Engine) : (s.setEng f).ctxBay = s.ctxBay := rfl
@[simp] theorem State.setEng_ptCount (f : Engine → Engine) : (s.setEng f).ptCount = s.ptCount := rfl
@[simp] theorem State.setEng_wb (f : Engine → Engine) : (s.setEng f).wb = s.wb := rfl
@[simp] theorem State.setEng_pipe (f : Engine → Engine) : (s.setEng f).pipe = s.pipe := rfl
@[simp] theorem State.setEng_voices (f : Engine → Engine) : (s.setEng f).voices = s.voices := rfl
@[simp] theorem State.setEng_eng (f : Engine → Engine) : (s.setEng f).eng = f s.eng := rfl
@[simp] theorem State.setEng_timers (f : Engine → Engine) : (s.setEng f).timers = s.timers := rfl
@[simp] theorem State.setEng_ctxs (f : Engine → Engine) : (s.setEng f).ctxs = s.ctxs := rfl
@[simp] theorem State.setEng_huberr (f : Engine → Engine) : (s.setEng f).huberr = s.huberr := rfl
@[simp] theorem State.setEng_held (f : Engine → Engine) : (s.setEng f).held = s.held := rfl
@[simp] theorem State.setEng_hd (f : Engine → Engine) : (s.setEng f).hd = s.hd := rfl
@[simp] theorem State.setEng_sysLog (f : Engine → Engine) : (s.setEng f).sysLog = s.sysLog := rfl
@[simp] theorem State.setEng_ports (f : Engine → Engine) : (s.setEng f).ports = s.ports := rfl
@[simp] theorem State.setEng_link (f : Engine → Engine) : (s.setEng f).link = s.link := rfl
@[simp] theorem State.setEng_sec (f : Engine → Engine) : (s.setEng f).sec = s.sec := rfl

@[simp] theorem State.setPipe_pending (f : Pipe → Pipe) : (s.setPipe f).pending = s.pending := rfl
@[simp] theorem State.setPipe_free (f : Pipe → Pipe) : (s.setPipe f).free = s.free := rfl
@[simp] theorem State.setPipe_c (f : Pipe → Pipe) : (s.setPipe f).c = s.c := rfl
@[simp] theorem State.setPipe_act (f : Pipe → Pipe) : (s.setPipe f).act = s.act := rfl
@[simp] theorem State.setPipe_nv (f : Pipe → Pipe) : (s.setPipe f).nv = s.nv := rfl
@[simp] theorem State.setPipe_clk (f : Pipe → Pipe) : (s.setPipe f).clk = s.clk := rfl
@[simp] theorem State.setPipe_start (f : Pipe → Pipe) : (s.setPipe f).start = s.start := rfl
@[simp] theorem State.setPipe_wd (f : Pipe → Pipe) : (s.setPipe f).wd = s.wd := rfl
@[simp] theorem State.setPipe_mode (f : Pipe → Pipe) : (s.setPipe f).mode = s.mode := rfl
@[simp] theorem State.setPipe_keeper (f : Pipe → Pipe) : (s.setPipe f).keeper = s.keeper := rfl
@[simp] theorem State.setPipe_latch (f : Pipe → Pipe) : (s.setPipe f).latch = s.latch := rfl
@[simp] theorem State.setPipe_feeders (f : Pipe → Pipe) : (s.setPipe f).feeders = s.feeders := rfl
@[simp] theorem State.setPipe_tiles (f : Pipe → Pipe) : (s.setPipe f).tiles = s.tiles := rfl
@[simp] theorem State.setPipe_hub (f : Pipe → Pipe) : (s.setPipe f).hub = s.hub := rfl
@[simp] theorem State.setPipe_ring (f : Pipe → Pipe) : (s.setPipe f).ring = s.ring := rfl
@[simp] theorem State.setPipe_bays (f : Pipe → Pipe) : (s.setPipe f).bays = s.bays := rfl
@[simp] theorem State.setPipe_keep (f : Pipe → Pipe) : (s.setPipe f).keep = s.keep := rfl
@[simp] theorem State.setPipe_ctxBay (f : Pipe → Pipe) : (s.setPipe f).ctxBay = s.ctxBay := rfl
@[simp] theorem State.setPipe_ptCount (f : Pipe → Pipe) : (s.setPipe f).ptCount = s.ptCount := rfl
@[simp] theorem State.setPipe_wb (f : Pipe → Pipe) : (s.setPipe f).wb = s.wb := rfl
@[simp] theorem State.setPipe_pipe (f : Pipe → Pipe) : (s.setPipe f).pipe = f s.pipe := rfl
@[simp] theorem State.setPipe_voices (f : Pipe → Pipe) : (s.setPipe f).voices = s.voices := rfl
@[simp] theorem State.setPipe_eng (f : Pipe → Pipe) : (s.setPipe f).eng = s.eng := rfl
@[simp] theorem State.setPipe_timers (f : Pipe → Pipe) : (s.setPipe f).timers = s.timers := rfl
@[simp] theorem State.setPipe_ctxs (f : Pipe → Pipe) : (s.setPipe f).ctxs = s.ctxs := rfl
@[simp] theorem State.setPipe_huberr (f : Pipe → Pipe) : (s.setPipe f).huberr = s.huberr := rfl
@[simp] theorem State.setPipe_held (f : Pipe → Pipe) : (s.setPipe f).held = s.held := rfl
@[simp] theorem State.setPipe_hd (f : Pipe → Pipe) : (s.setPipe f).hd = s.hd := rfl
@[simp] theorem State.setPipe_sysLog (f : Pipe → Pipe) : (s.setPipe f).sysLog = s.sysLog := rfl
@[simp] theorem State.setPipe_ports (f : Pipe → Pipe) : (s.setPipe f).ports = s.ports := rfl
@[simp] theorem State.setPipe_link (f : Pipe → Pipe) : (s.setPipe f).link = s.link := rfl
@[simp] theorem State.setPipe_sec (f : Pipe → Pipe) : (s.setPipe f).sec = s.sec := rfl

@[simp] theorem State.setWb_pending (f : Weigh → Weigh) : (s.setWb f).pending = s.pending := rfl
@[simp] theorem State.setWb_free (f : Weigh → Weigh) : (s.setWb f).free = s.free := rfl
@[simp] theorem State.setWb_c (f : Weigh → Weigh) : (s.setWb f).c = s.c := rfl
@[simp] theorem State.setWb_act (f : Weigh → Weigh) : (s.setWb f).act = s.act := rfl
@[simp] theorem State.setWb_nv (f : Weigh → Weigh) : (s.setWb f).nv = s.nv := rfl
@[simp] theorem State.setWb_clk (f : Weigh → Weigh) : (s.setWb f).clk = s.clk := rfl
@[simp] theorem State.setWb_start (f : Weigh → Weigh) : (s.setWb f).start = s.start := rfl
@[simp] theorem State.setWb_wd (f : Weigh → Weigh) : (s.setWb f).wd = s.wd := rfl
@[simp] theorem State.setWb_mode (f : Weigh → Weigh) : (s.setWb f).mode = s.mode := rfl
@[simp] theorem State.setWb_keeper (f : Weigh → Weigh) : (s.setWb f).keeper = s.keeper := rfl
@[simp] theorem State.setWb_latch (f : Weigh → Weigh) : (s.setWb f).latch = s.latch := rfl
@[simp] theorem State.setWb_feeders (f : Weigh → Weigh) : (s.setWb f).feeders = s.feeders := rfl
@[simp] theorem State.setWb_tiles (f : Weigh → Weigh) : (s.setWb f).tiles = s.tiles := rfl
@[simp] theorem State.setWb_hub (f : Weigh → Weigh) : (s.setWb f).hub = s.hub := rfl
@[simp] theorem State.setWb_ring (f : Weigh → Weigh) : (s.setWb f).ring = s.ring := rfl
@[simp] theorem State.setWb_bays (f : Weigh → Weigh) : (s.setWb f).bays = s.bays := rfl
@[simp] theorem State.setWb_keep (f : Weigh → Weigh) : (s.setWb f).keep = s.keep := rfl
@[simp] theorem State.setWb_ctxBay (f : Weigh → Weigh) : (s.setWb f).ctxBay = s.ctxBay := rfl
@[simp] theorem State.setWb_ptCount (f : Weigh → Weigh) : (s.setWb f).ptCount = s.ptCount := rfl
@[simp] theorem State.setWb_wb (f : Weigh → Weigh) : (s.setWb f).wb = f s.wb := rfl
@[simp] theorem State.setWb_pipe (f : Weigh → Weigh) : (s.setWb f).pipe = s.pipe := rfl
@[simp] theorem State.setWb_voices (f : Weigh → Weigh) : (s.setWb f).voices = s.voices := rfl
@[simp] theorem State.setWb_eng (f : Weigh → Weigh) : (s.setWb f).eng = s.eng := rfl
@[simp] theorem State.setWb_timers (f : Weigh → Weigh) : (s.setWb f).timers = s.timers := rfl
@[simp] theorem State.setWb_ctxs (f : Weigh → Weigh) : (s.setWb f).ctxs = s.ctxs := rfl
@[simp] theorem State.setWb_huberr (f : Weigh → Weigh) : (s.setWb f).huberr = s.huberr := rfl
@[simp] theorem State.setWb_held (f : Weigh → Weigh) : (s.setWb f).held = s.held := rfl
@[simp] theorem State.setWb_hd (f : Weigh → Weigh) : (s.setWb f).hd = s.hd := rfl
@[simp] theorem State.setWb_sysLog (f : Weigh → Weigh) : (s.setWb f).sysLog = s.sysLog := rfl
@[simp] theorem State.setWb_ports (f : Weigh → Weigh) : (s.setWb f).ports = s.ports := rfl
@[simp] theorem State.setWb_link (f : Weigh → Weigh) : (s.setWb f).link = s.link := rfl
@[simp] theorem State.setWb_sec (f : Weigh → Weigh) : (s.setWb f).sec = s.sec := rfl

@[simp] theorem State.setVoice_pending (v : VoiceId) (f : VoiceVol → VoiceVol) : (s.setVoice v f).pending = s.pending := rfl
@[simp] theorem State.setVoice_free (v : VoiceId) (f : VoiceVol → VoiceVol) : (s.setVoice v f).free = s.free := rfl
@[simp] theorem State.setVoice_c (v : VoiceId) (f : VoiceVol → VoiceVol) : (s.setVoice v f).c = s.c := rfl
@[simp] theorem State.setVoice_act (v : VoiceId) (f : VoiceVol → VoiceVol) : (s.setVoice v f).act = s.act := rfl
@[simp] theorem State.setVoice_nv (v : VoiceId) (f : VoiceVol → VoiceVol) : (s.setVoice v f).nv = s.nv := rfl
@[simp] theorem State.setVoice_clk (v : VoiceId) (f : VoiceVol → VoiceVol) : (s.setVoice v f).clk = s.clk := rfl
@[simp] theorem State.setVoice_start (v : VoiceId) (f : VoiceVol → VoiceVol) : (s.setVoice v f).start = s.start := rfl
@[simp] theorem State.setVoice_wd (v : VoiceId) (f : VoiceVol → VoiceVol) : (s.setVoice v f).wd = s.wd := rfl
@[simp] theorem State.setVoice_mode (v : VoiceId) (f : VoiceVol → VoiceVol) : (s.setVoice v f).mode = s.mode := rfl
@[simp] theorem State.setVoice_keeper (v : VoiceId) (f : VoiceVol → VoiceVol) : (s.setVoice v f).keeper = s.keeper := rfl
@[simp] theorem State.setVoice_latch (v : VoiceId) (f : VoiceVol → VoiceVol) : (s.setVoice v f).latch = s.latch := rfl
@[simp] theorem State.setVoice_feeders (v : VoiceId) (f : VoiceVol → VoiceVol) : (s.setVoice v f).feeders = s.feeders := rfl
@[simp] theorem State.setVoice_tiles (v : VoiceId) (f : VoiceVol → VoiceVol) : (s.setVoice v f).tiles = s.tiles := rfl
@[simp] theorem State.setVoice_hub (v : VoiceId) (f : VoiceVol → VoiceVol) : (s.setVoice v f).hub = s.hub := rfl
@[simp] theorem State.setVoice_ring (v : VoiceId) (f : VoiceVol → VoiceVol) : (s.setVoice v f).ring = s.ring := rfl
@[simp] theorem State.setVoice_bays (v : VoiceId) (f : VoiceVol → VoiceVol) : (s.setVoice v f).bays = s.bays := rfl
@[simp] theorem State.setVoice_keep (v : VoiceId) (f : VoiceVol → VoiceVol) : (s.setVoice v f).keep = s.keep := rfl
@[simp] theorem State.setVoice_ctxBay (v : VoiceId) (f : VoiceVol → VoiceVol) : (s.setVoice v f).ctxBay = s.ctxBay := rfl
@[simp] theorem State.setVoice_ptCount (v : VoiceId) (f : VoiceVol → VoiceVol) : (s.setVoice v f).ptCount = s.ptCount := rfl
@[simp] theorem State.setVoice_wb (v : VoiceId) (f : VoiceVol → VoiceVol) : (s.setVoice v f).wb = s.wb := rfl
@[simp] theorem State.setVoice_pipe (v : VoiceId) (f : VoiceVol → VoiceVol) : (s.setVoice v f).pipe = s.pipe := rfl
@[simp] theorem State.setVoice_voices (v : VoiceId) (f : VoiceVol → VoiceVol) : (s.setVoice v f).voices = upd s.voices v f := rfl
@[simp] theorem State.setVoice_eng (v : VoiceId) (f : VoiceVol → VoiceVol) : (s.setVoice v f).eng = s.eng := rfl
@[simp] theorem State.setVoice_timers (v : VoiceId) (f : VoiceVol → VoiceVol) : (s.setVoice v f).timers = s.timers := rfl
@[simp] theorem State.setVoice_ctxs (v : VoiceId) (f : VoiceVol → VoiceVol) : (s.setVoice v f).ctxs = s.ctxs := rfl
@[simp] theorem State.setVoice_huberr (v : VoiceId) (f : VoiceVol → VoiceVol) : (s.setVoice v f).huberr = s.huberr := rfl
@[simp] theorem State.setVoice_held (v : VoiceId) (f : VoiceVol → VoiceVol) : (s.setVoice v f).held = s.held := rfl
@[simp] theorem State.setVoice_hd (v : VoiceId) (f : VoiceVol → VoiceVol) : (s.setVoice v f).hd = s.hd := rfl
@[simp] theorem State.setVoice_sysLog (v : VoiceId) (f : VoiceVol → VoiceVol) : (s.setVoice v f).sysLog = s.sysLog := rfl
@[simp] theorem State.setVoice_ports (v : VoiceId) (f : VoiceVol → VoiceVol) : (s.setVoice v f).ports = s.ports := rfl
@[simp] theorem State.setVoice_link (v : VoiceId) (f : VoiceVol → VoiceVol) : (s.setVoice v f).link = s.link := rfl
@[simp] theorem State.setVoice_sec (v : VoiceId) (f : VoiceVol → VoiceVol) : (s.setVoice v f).sec = s.sec := rfl

@[simp] theorem State.setTimer_pending (n : TimerId) (f : TimerSt → TimerSt) : (s.setTimer n f).pending = s.pending := rfl
@[simp] theorem State.setTimer_free (n : TimerId) (f : TimerSt → TimerSt) : (s.setTimer n f).free = s.free := rfl
@[simp] theorem State.setTimer_c (n : TimerId) (f : TimerSt → TimerSt) : (s.setTimer n f).c = s.c := rfl
@[simp] theorem State.setTimer_act (n : TimerId) (f : TimerSt → TimerSt) : (s.setTimer n f).act = s.act := rfl
@[simp] theorem State.setTimer_nv (n : TimerId) (f : TimerSt → TimerSt) : (s.setTimer n f).nv = s.nv := rfl
@[simp] theorem State.setTimer_clk (n : TimerId) (f : TimerSt → TimerSt) : (s.setTimer n f).clk = s.clk := rfl
@[simp] theorem State.setTimer_start (n : TimerId) (f : TimerSt → TimerSt) : (s.setTimer n f).start = s.start := rfl
@[simp] theorem State.setTimer_wd (n : TimerId) (f : TimerSt → TimerSt) : (s.setTimer n f).wd = s.wd := rfl
@[simp] theorem State.setTimer_mode (n : TimerId) (f : TimerSt → TimerSt) : (s.setTimer n f).mode = s.mode := rfl
@[simp] theorem State.setTimer_keeper (n : TimerId) (f : TimerSt → TimerSt) : (s.setTimer n f).keeper = s.keeper := rfl
@[simp] theorem State.setTimer_latch (n : TimerId) (f : TimerSt → TimerSt) : (s.setTimer n f).latch = s.latch := rfl
@[simp] theorem State.setTimer_feeders (n : TimerId) (f : TimerSt → TimerSt) : (s.setTimer n f).feeders = s.feeders := rfl
@[simp] theorem State.setTimer_tiles (n : TimerId) (f : TimerSt → TimerSt) : (s.setTimer n f).tiles = s.tiles := rfl
@[simp] theorem State.setTimer_hub (n : TimerId) (f : TimerSt → TimerSt) : (s.setTimer n f).hub = s.hub := rfl
@[simp] theorem State.setTimer_ring (n : TimerId) (f : TimerSt → TimerSt) : (s.setTimer n f).ring = s.ring := rfl
@[simp] theorem State.setTimer_bays (n : TimerId) (f : TimerSt → TimerSt) : (s.setTimer n f).bays = s.bays := rfl
@[simp] theorem State.setTimer_keep (n : TimerId) (f : TimerSt → TimerSt) : (s.setTimer n f).keep = s.keep := rfl
@[simp] theorem State.setTimer_ctxBay (n : TimerId) (f : TimerSt → TimerSt) : (s.setTimer n f).ctxBay = s.ctxBay := rfl
@[simp] theorem State.setTimer_ptCount (n : TimerId) (f : TimerSt → TimerSt) : (s.setTimer n f).ptCount = s.ptCount := rfl
@[simp] theorem State.setTimer_wb (n : TimerId) (f : TimerSt → TimerSt) : (s.setTimer n f).wb = s.wb := rfl
@[simp] theorem State.setTimer_pipe (n : TimerId) (f : TimerSt → TimerSt) : (s.setTimer n f).pipe = s.pipe := rfl
@[simp] theorem State.setTimer_voices (n : TimerId) (f : TimerSt → TimerSt) : (s.setTimer n f).voices = s.voices := rfl
@[simp] theorem State.setTimer_eng (n : TimerId) (f : TimerSt → TimerSt) : (s.setTimer n f).eng = s.eng := rfl
@[simp] theorem State.setTimer_timers (n : TimerId) (f : TimerSt → TimerSt) : (s.setTimer n f).timers = upd s.timers n f := rfl
@[simp] theorem State.setTimer_ctxs (n : TimerId) (f : TimerSt → TimerSt) : (s.setTimer n f).ctxs = s.ctxs := rfl
@[simp] theorem State.setTimer_huberr (n : TimerId) (f : TimerSt → TimerSt) : (s.setTimer n f).huberr = s.huberr := rfl
@[simp] theorem State.setTimer_held (n : TimerId) (f : TimerSt → TimerSt) : (s.setTimer n f).held = s.held := rfl
@[simp] theorem State.setTimer_hd (n : TimerId) (f : TimerSt → TimerSt) : (s.setTimer n f).hd = s.hd := rfl
@[simp] theorem State.setTimer_sysLog (n : TimerId) (f : TimerSt → TimerSt) : (s.setTimer n f).sysLog = s.sysLog := rfl
@[simp] theorem State.setTimer_ports (n : TimerId) (f : TimerSt → TimerSt) : (s.setTimer n f).ports = s.ports := rfl
@[simp] theorem State.setTimer_link (n : TimerId) (f : TimerSt → TimerSt) : (s.setTimer n f).link = s.link := rfl
@[simp] theorem State.setTimer_sec (n : TimerId) (f : TimerSt → TimerSt) : (s.setTimer n f).sec = s.sec := rfl

@[simp] theorem State.setCtx_pending (c : CtxId) (f : Ctx → Ctx) : (s.setCtx c f).pending = s.pending := rfl
@[simp] theorem State.setCtx_free (c : CtxId) (f : Ctx → Ctx) : (s.setCtx c f).free = s.free := rfl
@[simp] theorem State.setCtx_c (c : CtxId) (f : Ctx → Ctx) : (s.setCtx c f).c = s.c := rfl
@[simp] theorem State.setCtx_act (c : CtxId) (f : Ctx → Ctx) : (s.setCtx c f).act = s.act := rfl
@[simp] theorem State.setCtx_nv (c : CtxId) (f : Ctx → Ctx) : (s.setCtx c f).nv = s.nv := rfl
@[simp] theorem State.setCtx_clk (c : CtxId) (f : Ctx → Ctx) : (s.setCtx c f).clk = s.clk := rfl
@[simp] theorem State.setCtx_start (c : CtxId) (f : Ctx → Ctx) : (s.setCtx c f).start = s.start := rfl
@[simp] theorem State.setCtx_wd (c : CtxId) (f : Ctx → Ctx) : (s.setCtx c f).wd = s.wd := rfl
@[simp] theorem State.setCtx_mode (c : CtxId) (f : Ctx → Ctx) : (s.setCtx c f).mode = s.mode := rfl
@[simp] theorem State.setCtx_keeper (c : CtxId) (f : Ctx → Ctx) : (s.setCtx c f).keeper = s.keeper := rfl
@[simp] theorem State.setCtx_latch (c : CtxId) (f : Ctx → Ctx) : (s.setCtx c f).latch = s.latch := rfl
@[simp] theorem State.setCtx_feeders (c : CtxId) (f : Ctx → Ctx) : (s.setCtx c f).feeders = s.feeders := rfl
@[simp] theorem State.setCtx_tiles (c : CtxId) (f : Ctx → Ctx) : (s.setCtx c f).tiles = s.tiles := rfl
@[simp] theorem State.setCtx_hub (c : CtxId) (f : Ctx → Ctx) : (s.setCtx c f).hub = s.hub := rfl
@[simp] theorem State.setCtx_ring (c : CtxId) (f : Ctx → Ctx) : (s.setCtx c f).ring = s.ring := rfl
@[simp] theorem State.setCtx_bays (c : CtxId) (f : Ctx → Ctx) : (s.setCtx c f).bays = s.bays := rfl
@[simp] theorem State.setCtx_keep (c : CtxId) (f : Ctx → Ctx) : (s.setCtx c f).keep = s.keep := rfl
@[simp] theorem State.setCtx_ctxBay (c : CtxId) (f : Ctx → Ctx) : (s.setCtx c f).ctxBay = s.ctxBay := rfl
@[simp] theorem State.setCtx_ptCount (c : CtxId) (f : Ctx → Ctx) : (s.setCtx c f).ptCount = s.ptCount := rfl
@[simp] theorem State.setCtx_wb (c : CtxId) (f : Ctx → Ctx) : (s.setCtx c f).wb = s.wb := rfl
@[simp] theorem State.setCtx_pipe (c : CtxId) (f : Ctx → Ctx) : (s.setCtx c f).pipe = s.pipe := rfl
@[simp] theorem State.setCtx_voices (c : CtxId) (f : Ctx → Ctx) : (s.setCtx c f).voices = s.voices := rfl
@[simp] theorem State.setCtx_eng (c : CtxId) (f : Ctx → Ctx) : (s.setCtx c f).eng = s.eng := rfl
@[simp] theorem State.setCtx_timers (c : CtxId) (f : Ctx → Ctx) : (s.setCtx c f).timers = s.timers := rfl
@[simp] theorem State.setCtx_ctxs (c : CtxId) (f : Ctx → Ctx) : (s.setCtx c f).ctxs = upd s.ctxs c f := rfl
@[simp] theorem State.setCtx_huberr (c : CtxId) (f : Ctx → Ctx) : (s.setCtx c f).huberr = s.huberr := rfl
@[simp] theorem State.setCtx_held (c : CtxId) (f : Ctx → Ctx) : (s.setCtx c f).held = s.held := rfl
@[simp] theorem State.setCtx_hd (c : CtxId) (f : Ctx → Ctx) : (s.setCtx c f).hd = s.hd := rfl
@[simp] theorem State.setCtx_sysLog (c : CtxId) (f : Ctx → Ctx) : (s.setCtx c f).sysLog = s.sysLog := rfl
@[simp] theorem State.setCtx_ports (c : CtxId) (f : Ctx → Ctx) : (s.setCtx c f).ports = s.ports := rfl
@[simp] theorem State.setCtx_link (c : CtxId) (f : Ctx → Ctx) : (s.setCtx c f).link = s.link := rfl
@[simp] theorem State.setCtx_sec (c : CtxId) (f : Ctx → Ctx) : (s.setCtx c f).sec = s.sec := rfl

@[simp] theorem State.setPort_pending (p : PortId) (f : Port → Port) : (s.setPort p f).pending = s.pending := rfl
@[simp] theorem State.setPort_free (p : PortId) (f : Port → Port) : (s.setPort p f).free = s.free := rfl
@[simp] theorem State.setPort_c (p : PortId) (f : Port → Port) : (s.setPort p f).c = s.c := rfl
@[simp] theorem State.setPort_act (p : PortId) (f : Port → Port) : (s.setPort p f).act = s.act := rfl
@[simp] theorem State.setPort_nv (p : PortId) (f : Port → Port) : (s.setPort p f).nv = s.nv := rfl
@[simp] theorem State.setPort_clk (p : PortId) (f : Port → Port) : (s.setPort p f).clk = s.clk := rfl
@[simp] theorem State.setPort_start (p : PortId) (f : Port → Port) : (s.setPort p f).start = s.start := rfl
@[simp] theorem State.setPort_wd (p : PortId) (f : Port → Port) : (s.setPort p f).wd = s.wd := rfl
@[simp] theorem State.setPort_mode (p : PortId) (f : Port → Port) : (s.setPort p f).mode = s.mode := rfl
@[simp] theorem State.setPort_keeper (p : PortId) (f : Port → Port) : (s.setPort p f).keeper = s.keeper := rfl
@[simp] theorem State.setPort_latch (p : PortId) (f : Port → Port) : (s.setPort p f).latch = s.latch := rfl
@[simp] theorem State.setPort_feeders (p : PortId) (f : Port → Port) : (s.setPort p f).feeders = s.feeders := rfl
@[simp] theorem State.setPort_tiles (p : PortId) (f : Port → Port) : (s.setPort p f).tiles = s.tiles := rfl
@[simp] theorem State.setPort_hub (p : PortId) (f : Port → Port) : (s.setPort p f).hub = s.hub := rfl
@[simp] theorem State.setPort_ring (p : PortId) (f : Port → Port) : (s.setPort p f).ring = s.ring := rfl
@[simp] theorem State.setPort_bays (p : PortId) (f : Port → Port) : (s.setPort p f).bays = s.bays := rfl
@[simp] theorem State.setPort_keep (p : PortId) (f : Port → Port) : (s.setPort p f).keep = s.keep := rfl
@[simp] theorem State.setPort_ctxBay (p : PortId) (f : Port → Port) : (s.setPort p f).ctxBay = s.ctxBay := rfl
@[simp] theorem State.setPort_ptCount (p : PortId) (f : Port → Port) : (s.setPort p f).ptCount = s.ptCount := rfl
@[simp] theorem State.setPort_wb (p : PortId) (f : Port → Port) : (s.setPort p f).wb = s.wb := rfl
@[simp] theorem State.setPort_pipe (p : PortId) (f : Port → Port) : (s.setPort p f).pipe = s.pipe := rfl
@[simp] theorem State.setPort_voices (p : PortId) (f : Port → Port) : (s.setPort p f).voices = s.voices := rfl
@[simp] theorem State.setPort_eng (p : PortId) (f : Port → Port) : (s.setPort p f).eng = s.eng := rfl
@[simp] theorem State.setPort_timers (p : PortId) (f : Port → Port) : (s.setPort p f).timers = s.timers := rfl
@[simp] theorem State.setPort_ctxs (p : PortId) (f : Port → Port) : (s.setPort p f).ctxs = s.ctxs := rfl
@[simp] theorem State.setPort_huberr (p : PortId) (f : Port → Port) : (s.setPort p f).huberr = s.huberr := rfl
@[simp] theorem State.setPort_held (p : PortId) (f : Port → Port) : (s.setPort p f).held = s.held := rfl
@[simp] theorem State.setPort_hd (p : PortId) (f : Port → Port) : (s.setPort p f).hd = s.hd := rfl
@[simp] theorem State.setPort_sysLog (p : PortId) (f : Port → Port) : (s.setPort p f).sysLog = s.sysLog := rfl
@[simp] theorem State.setPort_ports (p : PortId) (f : Port → Port) : (s.setPort p f).ports = upd s.ports p f := rfl
@[simp] theorem State.setPort_link (p : PortId) (f : Port → Port) : (s.setPort p f).link = s.link := rfl
@[simp] theorem State.setPort_sec (p : PortId) (f : Port → Port) : (s.setPort p f).sec = s.sec := rfl

@[simp] theorem State.setLink_pending (f : Link → Link) : (s.setLink f).pending = s.pending := rfl
@[simp] theorem State.setLink_free (f : Link → Link) : (s.setLink f).free = s.free := rfl
@[simp] theorem State.setLink_c (f : Link → Link) : (s.setLink f).c = s.c := rfl
@[simp] theorem State.setLink_act (f : Link → Link) : (s.setLink f).act = s.act := rfl
@[simp] theorem State.setLink_nv (f : Link → Link) : (s.setLink f).nv = s.nv := rfl
@[simp] theorem State.setLink_clk (f : Link → Link) : (s.setLink f).clk = s.clk := rfl
@[simp] theorem State.setLink_start (f : Link → Link) : (s.setLink f).start = s.start := rfl
@[simp] theorem State.setLink_wd (f : Link → Link) : (s.setLink f).wd = s.wd := rfl
@[simp] theorem State.setLink_mode (f : Link → Link) : (s.setLink f).mode = s.mode := rfl
@[simp] theorem State.setLink_keeper (f : Link → Link) : (s.setLink f).keeper = s.keeper := rfl
@[simp] theorem State.setLink_latch (f : Link → Link) : (s.setLink f).latch = s.latch := rfl
@[simp] theorem State.setLink_feeders (f : Link → Link) : (s.setLink f).feeders = s.feeders := rfl
@[simp] theorem State.setLink_tiles (f : Link → Link) : (s.setLink f).tiles = s.tiles := rfl
@[simp] theorem State.setLink_hub (f : Link → Link) : (s.setLink f).hub = s.hub := rfl
@[simp] theorem State.setLink_ring (f : Link → Link) : (s.setLink f).ring = s.ring := rfl
@[simp] theorem State.setLink_bays (f : Link → Link) : (s.setLink f).bays = s.bays := rfl
@[simp] theorem State.setLink_keep (f : Link → Link) : (s.setLink f).keep = s.keep := rfl
@[simp] theorem State.setLink_ctxBay (f : Link → Link) : (s.setLink f).ctxBay = s.ctxBay := rfl
@[simp] theorem State.setLink_ptCount (f : Link → Link) : (s.setLink f).ptCount = s.ptCount := rfl
@[simp] theorem State.setLink_wb (f : Link → Link) : (s.setLink f).wb = s.wb := rfl
@[simp] theorem State.setLink_pipe (f : Link → Link) : (s.setLink f).pipe = s.pipe := rfl
@[simp] theorem State.setLink_voices (f : Link → Link) : (s.setLink f).voices = s.voices := rfl
@[simp] theorem State.setLink_eng (f : Link → Link) : (s.setLink f).eng = s.eng := rfl
@[simp] theorem State.setLink_timers (f : Link → Link) : (s.setLink f).timers = s.timers := rfl
@[simp] theorem State.setLink_ctxs (f : Link → Link) : (s.setLink f).ctxs = s.ctxs := rfl
@[simp] theorem State.setLink_huberr (f : Link → Link) : (s.setLink f).huberr = s.huberr := rfl
@[simp] theorem State.setLink_held (f : Link → Link) : (s.setLink f).held = s.held := rfl
@[simp] theorem State.setLink_hd (f : Link → Link) : (s.setLink f).hd = s.hd := rfl
@[simp] theorem State.setLink_sysLog (f : Link → Link) : (s.setLink f).sysLog = s.sysLog := rfl
@[simp] theorem State.setLink_ports (f : Link → Link) : (s.setLink f).ports = s.ports := rfl
@[simp] theorem State.setLink_link (f : Link → Link) : (s.setLink f).link = f s.link := rfl
@[simp] theorem State.setLink_sec (f : Link → Link) : (s.setLink f).sec = s.sec := rfl

@[simp] theorem State.setSec_pending (f : Sec → Sec) : (s.setSec f).pending = s.pending := rfl
@[simp] theorem State.setSec_free (f : Sec → Sec) : (s.setSec f).free = s.free := rfl
@[simp] theorem State.setSec_c (f : Sec → Sec) : (s.setSec f).c = s.c := rfl
@[simp] theorem State.setSec_act (f : Sec → Sec) : (s.setSec f).act = s.act := rfl
@[simp] theorem State.setSec_nv (f : Sec → Sec) : (s.setSec f).nv = s.nv := rfl
@[simp] theorem State.setSec_clk (f : Sec → Sec) : (s.setSec f).clk = s.clk := rfl
@[simp] theorem State.setSec_start (f : Sec → Sec) : (s.setSec f).start = s.start := rfl
@[simp] theorem State.setSec_wd (f : Sec → Sec) : (s.setSec f).wd = s.wd := rfl
@[simp] theorem State.setSec_mode (f : Sec → Sec) : (s.setSec f).mode = s.mode := rfl
@[simp] theorem State.setSec_keeper (f : Sec → Sec) : (s.setSec f).keeper = s.keeper := rfl
@[simp] theorem State.setSec_latch (f : Sec → Sec) : (s.setSec f).latch = s.latch := rfl
@[simp] theorem State.setSec_feeders (f : Sec → Sec) : (s.setSec f).feeders = s.feeders := rfl
@[simp] theorem State.setSec_tiles (f : Sec → Sec) : (s.setSec f).tiles = s.tiles := rfl
@[simp] theorem State.setSec_hub (f : Sec → Sec) : (s.setSec f).hub = s.hub := rfl
@[simp] theorem State.setSec_ring (f : Sec → Sec) : (s.setSec f).ring = s.ring := rfl
@[simp] theorem State.setSec_bays (f : Sec → Sec) : (s.setSec f).bays = s.bays := rfl
@[simp] theorem State.setSec_keep (f : Sec → Sec) : (s.setSec f).keep = s.keep := rfl
@[simp] theorem State.setSec_ctxBay (f : Sec → Sec) : (s.setSec f).ctxBay = s.ctxBay := rfl
@[simp] theorem State.setSec_ptCount (f : Sec → Sec) : (s.setSec f).ptCount = s.ptCount := rfl
@[simp] theorem State.setSec_wb (f : Sec → Sec) : (s.setSec f).wb = s.wb := rfl
@[simp] theorem State.setSec_pipe (f : Sec → Sec) : (s.setSec f).pipe = s.pipe := rfl
@[simp] theorem State.setSec_voices (f : Sec → Sec) : (s.setSec f).voices = s.voices := rfl
@[simp] theorem State.setSec_eng (f : Sec → Sec) : (s.setSec f).eng = s.eng := rfl
@[simp] theorem State.setSec_timers (f : Sec → Sec) : (s.setSec f).timers = s.timers := rfl
@[simp] theorem State.setSec_ctxs (f : Sec → Sec) : (s.setSec f).ctxs = s.ctxs := rfl
@[simp] theorem State.setSec_huberr (f : Sec → Sec) : (s.setSec f).huberr = s.huberr := rfl
@[simp] theorem State.setSec_held (f : Sec → Sec) : (s.setSec f).held = s.held := rfl
@[simp] theorem State.setSec_hd (f : Sec → Sec) : (s.setSec f).hd = s.hd := rfl
@[simp] theorem State.setSec_sysLog (f : Sec → Sec) : (s.setSec f).sysLog = s.sysLog := rfl
@[simp] theorem State.setSec_ports (f : Sec → Sec) : (s.setSec f).ports = s.ports := rfl
@[simp] theorem State.setSec_link (f : Sec → Sec) : (s.setSec f).link = s.link := rfl
@[simp] theorem State.setSec_sec (f : Sec → Sec) : (s.setSec f).sec = f s.sec := rfl

@[simp] theorem State.setNv_pending (f : Nv → Nv) : (s.setNv f).pending = s.pending := rfl
@[simp] theorem State.setNv_free (f : Nv → Nv) : (s.setNv f).free = s.free := rfl
@[simp] theorem State.setNv_c (f : Nv → Nv) : (s.setNv f).c = s.c := rfl
@[simp] theorem State.setNv_act (f : Nv → Nv) : (s.setNv f).act = s.act := rfl
@[simp] theorem State.setNv_nv (f : Nv → Nv) : (s.setNv f).nv = f s.nv := rfl
@[simp] theorem State.setNv_clk (f : Nv → Nv) : (s.setNv f).clk = s.clk := rfl
@[simp] theorem State.setNv_start (f : Nv → Nv) : (s.setNv f).start = s.start := rfl
@[simp] theorem State.setNv_wd (f : Nv → Nv) : (s.setNv f).wd = s.wd := rfl
@[simp] theorem State.setNv_mode (f : Nv → Nv) : (s.setNv f).mode = s.mode := rfl
@[simp] theorem State.setNv_keeper (f : Nv → Nv) : (s.setNv f).keeper = s.keeper := rfl
@[simp] theorem State.setNv_latch (f : Nv → Nv) : (s.setNv f).latch = s.latch := rfl
@[simp] theorem State.setNv_feeders (f : Nv → Nv) : (s.setNv f).feeders = s.feeders := rfl
@[simp] theorem State.setNv_tiles (f : Nv → Nv) : (s.setNv f).tiles = s.tiles := rfl
@[simp] theorem State.setNv_hub (f : Nv → Nv) : (s.setNv f).hub = s.hub := rfl
@[simp] theorem State.setNv_ring (f : Nv → Nv) : (s.setNv f).ring = s.ring := rfl
@[simp] theorem State.setNv_bays (f : Nv → Nv) : (s.setNv f).bays = s.bays := rfl
@[simp] theorem State.setNv_keep (f : Nv → Nv) : (s.setNv f).keep = s.keep := rfl
@[simp] theorem State.setNv_ctxBay (f : Nv → Nv) : (s.setNv f).ctxBay = s.ctxBay := rfl
@[simp] theorem State.setNv_ptCount (f : Nv → Nv) : (s.setNv f).ptCount = s.ptCount := rfl
@[simp] theorem State.setNv_wb (f : Nv → Nv) : (s.setNv f).wb = s.wb := rfl
@[simp] theorem State.setNv_pipe (f : Nv → Nv) : (s.setNv f).pipe = s.pipe := rfl
@[simp] theorem State.setNv_voices (f : Nv → Nv) : (s.setNv f).voices = s.voices := rfl
@[simp] theorem State.setNv_eng (f : Nv → Nv) : (s.setNv f).eng = s.eng := rfl
@[simp] theorem State.setNv_timers (f : Nv → Nv) : (s.setNv f).timers = s.timers := rfl
@[simp] theorem State.setNv_ctxs (f : Nv → Nv) : (s.setNv f).ctxs = s.ctxs := rfl
@[simp] theorem State.setNv_huberr (f : Nv → Nv) : (s.setNv f).huberr = s.huberr := rfl
@[simp] theorem State.setNv_held (f : Nv → Nv) : (s.setNv f).held = s.held := rfl
@[simp] theorem State.setNv_hd (f : Nv → Nv) : (s.setNv f).hd = s.hd := rfl
@[simp] theorem State.setNv_sysLog (f : Nv → Nv) : (s.setNv f).sysLog = s.sysLog := rfl
@[simp] theorem State.setNv_ports (f : Nv → Nv) : (s.setNv f).ports = s.ports := rfl
@[simp] theorem State.setNv_link (f : Nv → Nv) : (s.setNv f).link = s.link := rfl
@[simp] theorem State.setNv_sec (f : Nv → Nv) : (s.setNv f).sec = s.sec := rfl

@[simp] theorem State.setLatch_pending (f : Latch → Latch) : (s.setLatch f).pending = s.pending := rfl
@[simp] theorem State.setLatch_free (f : Latch → Latch) : (s.setLatch f).free = s.free := rfl
@[simp] theorem State.setLatch_c (f : Latch → Latch) : (s.setLatch f).c = s.c := rfl
@[simp] theorem State.setLatch_act (f : Latch → Latch) : (s.setLatch f).act = s.act := rfl
@[simp] theorem State.setLatch_nv (f : Latch → Latch) : (s.setLatch f).nv = s.nv := rfl
@[simp] theorem State.setLatch_clk (f : Latch → Latch) : (s.setLatch f).clk = s.clk := rfl
@[simp] theorem State.setLatch_start (f : Latch → Latch) : (s.setLatch f).start = s.start := rfl
@[simp] theorem State.setLatch_wd (f : Latch → Latch) : (s.setLatch f).wd = s.wd := rfl
@[simp] theorem State.setLatch_mode (f : Latch → Latch) : (s.setLatch f).mode = s.mode := rfl
@[simp] theorem State.setLatch_keeper (f : Latch → Latch) : (s.setLatch f).keeper = s.keeper := rfl
@[simp] theorem State.setLatch_latch (f : Latch → Latch) : (s.setLatch f).latch = f s.latch := rfl
@[simp] theorem State.setLatch_feeders (f : Latch → Latch) : (s.setLatch f).feeders = s.feeders := rfl
@[simp] theorem State.setLatch_tiles (f : Latch → Latch) : (s.setLatch f).tiles = s.tiles := rfl
@[simp] theorem State.setLatch_hub (f : Latch → Latch) : (s.setLatch f).hub = s.hub := rfl
@[simp] theorem State.setLatch_ring (f : Latch → Latch) : (s.setLatch f).ring = s.ring := rfl
@[simp] theorem State.setLatch_bays (f : Latch → Latch) : (s.setLatch f).bays = s.bays := rfl
@[simp] theorem State.setLatch_keep (f : Latch → Latch) : (s.setLatch f).keep = s.keep := rfl
@[simp] theorem State.setLatch_ctxBay (f : Latch → Latch) : (s.setLatch f).ctxBay = s.ctxBay := rfl
@[simp] theorem State.setLatch_ptCount (f : Latch → Latch) : (s.setLatch f).ptCount = s.ptCount := rfl
@[simp] theorem State.setLatch_wb (f : Latch → Latch) : (s.setLatch f).wb = s.wb := rfl
@[simp] theorem State.setLatch_pipe (f : Latch → Latch) : (s.setLatch f).pipe = s.pipe := rfl
@[simp] theorem State.setLatch_voices (f : Latch → Latch) : (s.setLatch f).voices = s.voices := rfl
@[simp] theorem State.setLatch_eng (f : Latch → Latch) : (s.setLatch f).eng = s.eng := rfl
@[simp] theorem State.setLatch_timers (f : Latch → Latch) : (s.setLatch f).timers = s.timers := rfl
@[simp] theorem State.setLatch_ctxs (f : Latch → Latch) : (s.setLatch f).ctxs = s.ctxs := rfl
@[simp] theorem State.setLatch_huberr (f : Latch → Latch) : (s.setLatch f).huberr = s.huberr := rfl
@[simp] theorem State.setLatch_held (f : Latch → Latch) : (s.setLatch f).held = s.held := rfl
@[simp] theorem State.setLatch_hd (f : Latch → Latch) : (s.setLatch f).hd = s.hd := rfl
@[simp] theorem State.setLatch_sysLog (f : Latch → Latch) : (s.setLatch f).sysLog = s.sysLog := rfl
@[simp] theorem State.setLatch_ports (f : Latch → Latch) : (s.setLatch f).ports = s.ports := rfl
@[simp] theorem State.setLatch_link (f : Latch → Latch) : (s.setLatch f).link = s.link := rfl
@[simp] theorem State.setLatch_sec (f : Latch → Latch) : (s.setLatch f).sec = s.sec := rfl

@[simp] theorem State.setCtxBay_pending (c : CtxId) (b : Bay) (f : CtxBay → CtxBay) : (s.setCtxBay c b f).pending = s.pending := rfl
@[simp] theorem State.setCtxBay_free (c : CtxId) (b : Bay) (f : CtxBay → CtxBay) : (s.setCtxBay c b f).free = s.free := rfl
@[simp] theorem State.setCtxBay_c (c : CtxId) (b : Bay) (f : CtxBay → CtxBay) : (s.setCtxBay c b f).c = s.c := rfl
@[simp] theorem State.setCtxBay_act (c : CtxId) (b : Bay) (f : CtxBay → CtxBay) : (s.setCtxBay c b f).act = s.act := rfl
@[simp] theorem State.setCtxBay_nv (c : CtxId) (b : Bay) (f : CtxBay → CtxBay) : (s.setCtxBay c b f).nv = s.nv := rfl
@[simp] theorem State.setCtxBay_clk (c : CtxId) (b : Bay) (f : CtxBay → CtxBay) : (s.setCtxBay c b f).clk = s.clk := rfl
@[simp] theorem State.setCtxBay_start (c : CtxId) (b : Bay) (f : CtxBay → CtxBay) : (s.setCtxBay c b f).start = s.start := rfl
@[simp] theorem State.setCtxBay_wd (c : CtxId) (b : Bay) (f : CtxBay → CtxBay) : (s.setCtxBay c b f).wd = s.wd := rfl
@[simp] theorem State.setCtxBay_mode (c : CtxId) (b : Bay) (f : CtxBay → CtxBay) : (s.setCtxBay c b f).mode = s.mode := rfl
@[simp] theorem State.setCtxBay_keeper (c : CtxId) (b : Bay) (f : CtxBay → CtxBay) : (s.setCtxBay c b f).keeper = s.keeper := rfl
@[simp] theorem State.setCtxBay_latch (c : CtxId) (b : Bay) (f : CtxBay → CtxBay) : (s.setCtxBay c b f).latch = s.latch := rfl
@[simp] theorem State.setCtxBay_feeders (c : CtxId) (b : Bay) (f : CtxBay → CtxBay) : (s.setCtxBay c b f).feeders = s.feeders := rfl
@[simp] theorem State.setCtxBay_tiles (c : CtxId) (b : Bay) (f : CtxBay → CtxBay) : (s.setCtxBay c b f).tiles = s.tiles := rfl
@[simp] theorem State.setCtxBay_hub (c : CtxId) (b : Bay) (f : CtxBay → CtxBay) : (s.setCtxBay c b f).hub = s.hub := rfl
@[simp] theorem State.setCtxBay_ring (c : CtxId) (b : Bay) (f : CtxBay → CtxBay) : (s.setCtxBay c b f).ring = s.ring := rfl
@[simp] theorem State.setCtxBay_bays (c : CtxId) (b : Bay) (f : CtxBay → CtxBay) : (s.setCtxBay c b f).bays = s.bays := rfl
@[simp] theorem State.setCtxBay_keep (c : CtxId) (b : Bay) (f : CtxBay → CtxBay) : (s.setCtxBay c b f).keep = s.keep := rfl
@[simp] theorem State.setCtxBay_ctxBay (c : CtxId) (b : Bay) (f : CtxBay → CtxBay) : (s.setCtxBay c b f).ctxBay = upd s.ctxBay (ordIx c) (fun v => upd v b f) := rfl
@[simp] theorem State.setCtxBay_ptCount (c : CtxId) (b : Bay) (f : CtxBay → CtxBay) : (s.setCtxBay c b f).ptCount = s.ptCount := rfl
@[simp] theorem State.setCtxBay_wb (c : CtxId) (b : Bay) (f : CtxBay → CtxBay) : (s.setCtxBay c b f).wb = s.wb := rfl
@[simp] theorem State.setCtxBay_pipe (c : CtxId) (b : Bay) (f : CtxBay → CtxBay) : (s.setCtxBay c b f).pipe = s.pipe := rfl
@[simp] theorem State.setCtxBay_voices (c : CtxId) (b : Bay) (f : CtxBay → CtxBay) : (s.setCtxBay c b f).voices = s.voices := rfl
@[simp] theorem State.setCtxBay_eng (c : CtxId) (b : Bay) (f : CtxBay → CtxBay) : (s.setCtxBay c b f).eng = s.eng := rfl
@[simp] theorem State.setCtxBay_timers (c : CtxId) (b : Bay) (f : CtxBay → CtxBay) : (s.setCtxBay c b f).timers = s.timers := rfl
@[simp] theorem State.setCtxBay_ctxs (c : CtxId) (b : Bay) (f : CtxBay → CtxBay) : (s.setCtxBay c b f).ctxs = s.ctxs := rfl
@[simp] theorem State.setCtxBay_huberr (c : CtxId) (b : Bay) (f : CtxBay → CtxBay) : (s.setCtxBay c b f).huberr = s.huberr := rfl
@[simp] theorem State.setCtxBay_held (c : CtxId) (b : Bay) (f : CtxBay → CtxBay) : (s.setCtxBay c b f).held = s.held := rfl
@[simp] theorem State.setCtxBay_hd (c : CtxId) (b : Bay) (f : CtxBay → CtxBay) : (s.setCtxBay c b f).hd = s.hd := rfl
@[simp] theorem State.setCtxBay_sysLog (c : CtxId) (b : Bay) (f : CtxBay → CtxBay) : (s.setCtxBay c b f).sysLog = s.sysLog := rfl
@[simp] theorem State.setCtxBay_ports (c : CtxId) (b : Bay) (f : CtxBay → CtxBay) : (s.setCtxBay c b f).ports = s.ports := rfl
@[simp] theorem State.setCtxBay_link (c : CtxId) (b : Bay) (f : CtxBay → CtxBay) : (s.setCtxBay c b f).link = s.link := rfl
@[simp] theorem State.setCtxBay_sec (c : CtxId) (b : Bay) (f : CtxBay → CtxBay) : (s.setCtxBay c b f).sec = s.sec := rfl

end Sys2Proof.Machine
end

