-- ==== Sys2Proof/Laws/Ops.lean ====
section
/-! SUPPORT. What the shared operations over the state do: events, accesses, received messages, and what they
keep. -/

namespace Sys2Proof

/-- An event queue never grows past 32 entries (R578). -/
theorem Ctx.push_length (x : Ctx) (e : Event) (h : x.queue.length ≤ 32) : (x.push e).queue.length ≤ 32 := by
  unfold Ctx.push
  split
  · exact h
  · split
    · simp only [List.length_append, List.length_singleton]; omega
    · exact h

theorem Ctx.push_pos (x : Ctx) (e : Event) : (x.push e).pos = x.pos := by
  unfold Ctx.push
  split
  · rfl
  · split <;> rfl

end Sys2Proof

namespace Sys2Proof.Machine

/-- An event to SYS changes SYS's queue and the log, and nothing else. -/
theorem post_eq (s : State) (code a0 a1 : Nat) :
    s.post code a0 a1 =
      let e : Event := ⟨BitVec.ofNat 16 code, BitVec.ofNat 16 a0, BitVec.ofNat 16 a1, s.c.mcount.setWidth 16⟩
      { s with ctxs := s.ctxs.set ctxSYS ((s.ctxs[ctxSYS]).push e), sysLog := lastN 16 (s.sysLog ++ [e]) } := by
  simp [State.post, State.postTo, State.setCtx, upd, ctxSYS, ctxDbg]

/-- A state is sound when its memory and its contexts are those of a sound one. -/
theorem sound_of {s t : State} (h : s.sound) (hm : t.nv.mem = s.nv.mem) (hc : t.ctxs = s.ctxs) : t.sound := by
  unfold State.sound at *
  rw [hm, hc]
  exact h

/-- A change of one context that keeps its queue within bounds keeps the state sound. -/
theorem setCtx_sound {s : State} {c : CtxId} {f : Ctx → Ctx} (h : s.sound)
    (hf : ∀ x : Ctx, x.queue.length ≤ 32 → x.pos ≤ 3 → (f x).queue.length ≤ 32 ∧ (f x).pos ≤ 3) : (s.setCtx c f).sound := by
  refine ⟨h.1, fun d => ?_⟩
  have := hf s.ctxs[c] (h.2 c).1 (h.2 c).2
  simp only [State.setCtx, upd_get]
  split
  · exact this
  · exact h.2 d

theorem postTo_sound {s : State} (h : s.sound) (c : CtxId) (code a0 a1 : Nat) : (s.postTo c code a0 a1).sound := by
  unfold State.postTo
  split
  · exact h
  · have hs := setCtx_sound (c := c) (f := fun x => x.push
      { code := BitVec.ofNat 16 code, arg0 := BitVec.ofNat 16 a0, arg1 := BitVec.ofNat 16 a1, mc := s.c.mcount.setWidth 16 }) h
      (fun x hq hp => ⟨Ctx.push_length x _ hq, by rw [Ctx.push_pos]; exact hp⟩)
    dsimp only
    split
    · exact sound_of hs rfl rfl
    · exact hs

theorem post_sound {s : State} (h : s.sound) (code a0 a1 : Nat) : (s.post code a0 a1).sound := postTo_sound h _ _ _ _

/-- A rejected access keeps it. -/
theorem reject_sound {s : State} (h : s.sound) (c : CtxId) (ofs : Nat) : (s.reject c ofs).sound := by
  have hs := setCtx_sound (c := c) (f := fun x => x.refuse (ha ofs) true) h (fun x hq hp => ⟨hq, hp⟩)
  unfold State.reject
  dsimp only
  split
  · exact sound_of hs rfl rfl
  · exact hs

/-- A SYS write is silent, or does its effect, or is rejected. -/
theorem sysWrite_cases (s : State) (c : CtxId) (ofs : Nat) (ok : Bool) (f : State → State) :
    (s.busOn = false ∧ s.sysWrite c ofs ok f = s) ∨
    (s.serves c ∧ isSys c = true ∧ ok = true ∧ s.sysWrite c ofs ok f = f s) ∨
    (s.busOn = true ∧ ¬ (s.mayWrite c = true ∧ isSys c = true ∧ ok = true) ∧ s.sysWrite c ofs ok f = s.reject c ofs) := by
  unfold State.sysWrite State.serves
  cases s.busOn <;> cases s.mayWrite c <;> cases isSys c <;> cases ok <;> simp

theorem ctxWrite_cases (s : State) (c : CtxId) (ofs : Nat) (ok : Bool) (f : State → State) :
    (s.busOn = false ∧ s.ctxWrite c ofs ok f = s) ∨
    (s.serves c ∧ ok = true ∧ s.ctxWrite c ofs ok f = f s) ∨
    (s.busOn = true ∧ ¬ (s.mayWrite c = true ∧ ok = true) ∧ s.ctxWrite c ofs ok f = s.reject c ofs) := by
  unfold State.ctxWrite State.serves
  cases s.busOn <;> cases s.mayWrite c <;> cases ok <;> simp

/-- A write that SYS may make and that is legal has its effect. -/
theorem sysWrite_serves {s : State} {c : CtxId} {ofs : Nat} {f : State → State} (h : s.servesSys c) :
    s.sysWrite c ofs true f = f s := by
  obtain ⟨⟨hb, hm⟩, hs⟩ := h
  simp [State.sysWrite, hb, hm, hs]

/-- What a rejected write leaves. -/
theorem rejected_reject (s : State) (c : CtxId) (ofs : Nat) : Rejected c ofs s (s.reject c ofs) := by
  unfold Rejected State.reject
  dsimp only
  split
  · refine ⟨rfl, rfl, fun d hd => ?_, ?_⟩
    · simp only [State.setSec, State.setCtx]; exact upd_other _ _ _ _ hd
    · simp [State.setCtx, State.setSec, Ctx.refuse, ha]
  · refine ⟨rfl, rfl, fun d hd => ?_, ?_⟩
    · simp only [State.setCtx]; exact upd_other _ _ _ _ hd
    · simp [State.setCtx, Ctx.refuse, ha]

/-- A port that takes a packet stores its MessageID, acknowledges it, and goes on to the message. -/
theorem pdRecv_takes {s : State} {p : PortId} {m : PdHdr} (h : s.takes p m) (f : State → State) :
    s.pdRecv p m false f = f { s with ports := s.ports.set p { s.ports[p] with pd := (s.ports[p]).pd.got m } } := by
  obtain ⟨h1, h2, h3, h4, h5, h6, h7, h8⟩ := h
  obtain ⟨sop, id, rev⟩ := m
  simp only [Fin.getElem_fin] at *
  subst h5
  have hst : (s.ports[p.val].state == TcState.source || s.ports[p.val].state == TcState.sink) = true := by
    rcases h2 with h | h <;> simp [h]
  simp [State.pdRecv, h1, hst, h3, h4, h6, h7, h8, State.setPd, State.setPort, upd, PdSt.setSop, PdSt.got]

/-- On a port that runs no exchange a partner's message changes nothing by itself. -/
theorem partnerStarts_idle {s : State} {p : PortId} (h : (s.ports[p]).pd.idle) (f : State → State) :
    s.partnerStarts p f = f s := by
  obtain ⟨g1, g2, g3, g0, g4, g5, g6, g7⟩ := h
  simp only [Fin.getElem_fin] at *
  have e : ∀ d : PdSt, d.exch = .idle → d.await = false → d.chunkIn = none → d.ownEx = false → d.ngWait = false →
      d.rpNg = false → d.swap = none →
      { d with exch := .idle, ownEx := false, ngWait := false, rpNg := false, await := false, chunkIn := none, swap := none } = d := by
    rintro ⟨⟩ rfl rfl rfl rfl rfl rfl rfl
    rfl
  have e' := e _ g1 g2 g0 g4 g5 g6 g7
  simp only [State.partnerStarts, State.dropOwn, PdSt.window, g1, g7, g6, State.setPd, State.setPort, upd, Fin.getElem_fin]
  simp only [Bool.false_and, Bool.false_eq_true, if_false, Bool.or_self,
    show (Exch.idle == Exch.srcTrans) = false from rfl, show (Exch.idle == Exch.snkTrans) = false from rfl,
    show (Exch.idle == Exch.reqWait) = false from rfl]
  simp only [Vector.getElem_set_self, Vector.set_set, g7]
  exact congrArg f (congrArg (fun v => { s with ports := v }) ((congrArg (fun d => s.ports.set p { s.ports[p.val] with pd := d }) e').trans
    (Vector.set_getElem_self ..)))

/-- A port that feeds no keeper is not unfed, and one without the link does not lose it. -/
theorem portUnfeed_calm {s : State} {p : PortId} (h : s.keeper.qual[p.val + 2] = false) : s.portUnfeed p = s := by
  simp [State.portUnfeed, h]

/-- No channel captures a source that none names. -/
theorem captureFrom_none {s : State} {x : BitVec 8} (h : ∀ n : TimerId, (s.act.timers[n]).capsel ≠ x) : s.captureFrom x = s := by
  have e : ∀ (l : List (Fin 16)), l.foldl (fun (t : State) (n : Fin 16) =>
      if t.act.timers[n].capsel = x ∧ t.act.timers[n].casc = false then
        let f := t.freeNat
        f.2.captureGroup n (f.2.peek n f.1)
      else t) s = s := by
    intro l
    induction l with
    | nil => rfl
    | cons n l ih => simp only [List.foldl_cons]; rw [if_neg (fun g => h n g.1)]; exact ih
  exact e _

theorem linkLoss_calm {s : State} {p : PortId} (h : s.link.active = false ∨ s.link.port ≠ p) (n : Nat) :
    s.linkLoss p n = s := by
  rcases h with h | h <;> simp [State.linkLoss, h]

end Sys2Proof.Machine
end

