-- ==== Sys2Proof/Laws/Ret.lean ====
section
/-! SUPPORT. What the operations over the state banks and the retention port do: a commit word and an install word
read as they were written, a written line reads as its content, and a requester that asks for the port waits for it
or holds it. -/

namespace Sys2Proof

/-- The low bits of the front part of a line that ends in a CRC. -/
theorem front_bits (a : BitVec 12) (d : BitVec 4) (b : BitVec 32) (c : BitVec 16) (k : Nat)
    (hk : k < 32) : ((a ++ (d ++ b)) ++ c : BitVec 64).getLsbD (16 + k) = b.getLsbD k := by
  simp only [BitVec.getLsbD_append]
  rw [if_neg (by omega), show 16 + k - 16 = k by omega, if_pos (by omega), if_pos (by omega)]

/-- The commit word carries its CSEQ in line 1. -/
theorem commitLine1_cseq (onB : Bool) (cseq : BitVec 32) (l0 : BitVec 64) :
    (commitLine1 onB cseq l0).extractLsb' 16 32 = cseq := by
  apply BitVec.eq_of_getLsbD_eq
  intro k hk
  simp only [BitVec.getLsbD_extractLsb', hk, decide_true, Bool.true_and]
  exact front_bits _ _ _ _ k hk

/-- A slot with a commit word for its bank is valid, and says that word (R357). -/
theorem slotWord_commit (onB : Bool) (cseq : BitVec 32) (l0 : BitVec 64) :
    slotWord onB #v[l0, commitLine1 onB cseq l0] = some (cseq, l0.extractLsb' 0 32) := by
  have h : (#v[l0, commitLine1 onB cseq l0] : Vector (BitVec 64) 2)[1].extractLsb' 16 32 = cseq :=
    commitLine1_cseq onB cseq l0
  unfold slotWord
  rw [h]
  exact if_pos rfl

/-- A written line reads as its content, and every other line as before (R362). -/
theorem Bank.line_writeLine (b : Bank) (i j : Nat) (x : BitVec 64) :
    (b.writeLine i x).line j = if j = i then x else b.line j := by
  simp only [Bank.line, Bank.writeLine, List.find?_cons]
  by_cases h : j = i
  · subst h; simp
  · rw [if_neg h, show ((i == j) = false) from beq_false_of_ne (Ne.symm h)]
    dsimp only
    rw [List.find?_filter]
    refine congrArg (fun o : Option (Nat × BitVec 64) => match o with | some x => x.2 | none => b.img.line j) ?_
    refine congrArg (fun f => b.part.find? f) ?_
    funext a
    by_cases q : a.1 = j
    · simp [q, h]
    · simp [q]

@[simp] theorem Bank.writeLine_img (b : Bank) (i : Nat) (x : BitVec 64) : (b.writeLine i x).img = b.img := rfl
@[simp] theorem Bank.writeLine_slot (b : Bank) (i : Nat) (x : BitVec 64) : (b.writeLine i x).slot = b.slot := rfl

/-- Written lines leave the bank's image and its commit slot. -/
theorem Bank.writeLines_img (img : Committed) (l : List Nat) (b : Bank) :
    (b.writeLines img l).img = b.img ∧ (b.writeLines img l).slot = b.slot := by
  induction l generalizing b with
  | nil => exact ⟨rfl, rfl⟩
  | cons i l ih => exact ih (b.writeLine i (img.line i))

/-- The lines of a commit: what the bank then reads is the snapshot (R357, R362). -/
theorem Bank.line_commit (b : Bank) (onB : Bool) (img : Committed) (cseq : BitVec 32) (i : Nat) :
    (b.commit onB img cseq).line i = img.line i := rfl

/-- A change of one bank leaves the other. -/
@[simp] theorem Nv.bank_setBank (n : Nv) (b c : Bool) (f : Bank → Bank) :
    (n.setBank b f).bank c = if c = b then f (n.bank b) else n.bank c := by
  cases b <;> cases c <;> rfl

/-- A requester asks for the port exactly when it holds it or waits for it. -/
theorem RetPort.asks_iff (p : RetPort) (r : PortReq) :
    p.asks r = true ↔ (∃ n, p.holder = some (r, n)) ∨ ∃ n, (r, n) ∈ p.waits := by
  unfold RetPort.asks
  cases h : p.holder with
  | none => simp
  | some x =>
    obtain ⟨a, n⟩ := x
    simp

end Sys2Proof
end

