-- ==== Sys2Proof/Laws/Ring.lean ====
section
/-! SUPPORT. What the ring's frames do: a run of bytes with its CRC checks, and bytes that no symbol error reached
arrive as they were sent. -/

namespace Sys2Proof

/-- A byte shifts through the CRC without feedback where the high byte is clear. -/
theorem crc16_low : ∀ l : Byte, (List.range 8).foldl (fun c _ => crc16Bit c) ((0 : BitVec 8) ++ l) = l ++ (0 : BitVec 8) := by
  decide

/-- The two bytes of a CRC state clear it. -/
theorem crc16_self (c : BitVec 16) : crc16Byte (crc16Byte c (c.extractLsb' 8 8)) (c.extractLsb' 0 8) = 0 := by
  have h : c ^^^ (c.extractLsb' 8 8 ++ (0 : BitVec 8)) = (0 : BitVec 8) ++ c.extractLsb' 0 8 := by
    apply BitVec.eq_of_getLsbD_eq
    intro i hi
    simp only [BitVec.getLsbD_xor, BitVec.getLsbD_append, BitVec.getLsbD_extractLsb']
    by_cases q : i < 8
    · simp [q]
    · simp [q, show 8 + (i - 8) = i by omega, show i - 8 < 8 by omega]
  unfold crc16Byte
  rw [h, crc16_low, BitVec.xor_self]
  decide

/-- Bytes followed by their CRC check (R125). -/
theorem crcChecks_withCrc (l : List Byte) : crcChecks (withCrc l) = true := by
  have h : crc16 (withCrc l) = crc16Byte (crc16Byte (crc16 l) ((crc16 l).extractLsb' 8 8)) ((crc16 l).extractLsb' 0 8) :=
    List.foldl_append
  unfold crcChecks
  rw [h, crc16_self]
  rfl

/-- Bytes that no symbol error reached on the way. -/
theorem arrive_clear (hits : List Hit) (n : Nat) (l : List Byte) (h : ∀ x ∈ hits, n < x.seg) :
    asArrived hits n l = l.map some := by
  unfold asArrived
  induction hits generalizing l with
  | nil => rfl
  | cons x r ih =>
    have hx : ¬ x.seg ≤ n := Nat.not_le.mpr (h x (List.mem_cons_self ..))
    simp only [List.foldl_cons, if_neg hx]
    exact ih l (fun y hy => h y (List.mem_cons_of_mem _ hy))

theorem allBytes_map (l : List Byte) : allBytes (l.map some) = some l := by
  induction l with
  | nil => rfl
  | cons b l ih => simp [allBytes, ih]

/-- A CMD frame that no symbol error reached arrives as it was sent. -/
theorem CmdFrame.arrived_clear (f : CmdFrame) (hits : List Hit) (n : Nat) (h : ∀ x ∈ hits, n < x.seg) :
    f.arrived hits n = some f := by
  unfold CmdFrame.arrived
  rw [if_neg]
  simp only [List.any_eq_true, decide_eq_true_eq, not_exists, not_and, Nat.not_le]
  exact fun x hx => h x hx

/-- An ERR among the symbols: no run of bytes. -/
theorem allBytes_none (l : List (Option Byte)) (h : none ∈ l) : allBytes l = none := by
  induction l with
  | nil => cases h
  | cons b l ih =>
    cases b with
    | none => rfl
    | some b => simp [allBytes, ih (by simpa using h)]

end Sys2Proof
end

