-- ==== Sys2Proof/Laws/Tile.lean ====
section
/-! SUPPORT. The named changes of one tile and of one channel: what each leaves as it was, and how a meaning that
makes one answers. -/

namespace Sys2Proof.Machine

variable {s : State} {h : Shelf} {p : Pos} {i : Instr} {ok : Bool} {P : State → Prop}

theorem onlyTile_setTile (s : State) (h : Shelf) (f : Tile → Tile) : OnlyTile h s (s.setTile h f) :=
  ⟨rfl, fun k hk => by simp only [State.setTile_tiles, upd_other _ _ _ _ hk]⟩

theorem setTile_tile (s : State) (h : Shelf) (f : Tile → Tile) : (s.setTile h f).tiles[h] = f s.tiles[h] := by
  simp

theorem setChan_chan (s : State) (h : Shelf) (p : Pos) (f : Chan → Chan) :
    (s.setTile h (fun t => t.setChan p f)).chan h p = f (s.chan h p) := by
  simp [State.chan, Tile.setChan]

theorem setTile_chan (s : State) (h : Shelf) (p : Pos) (f : Tile → Tile) :
    (s.setTile h f).chan h p = (f s.tiles[h]).chans[p] := by
  rw [State.chan, setTile_tile]

/-- A channel's change that reads its tile. -/
theorem setChan_chanT (s : State) (h : Shelf) (p : Pos) (f : Tile → Chan → Chan) :
    (s.setTile h (fun t => t.setChan p (f t))).chan h p = f s.tiles[h] (s.chan h p) := by
  simp [State.chan, Tile.setChan]

theorem onlyChan_setChan (s : State) (h : Shelf) (p : Pos) (f : Chan → Chan) :
    OnlyChan h p s (s.setTile h (fun t => t.setChan p f)) := by
  refine ⟨onlyTile_setTile .., by simp [Tile.setChan], fun q hq => ?_⟩
  simp only [State.chan, State.setTile_tiles, Fin.getElem_fin, upd_same, Tile.setChan]
  exact upd_other _ _ _ _ hq

theorem onlyChan_setTile (s : State) (h : Shelf) (p : Pos) (f : Tile → Chan → Chan) :
    OnlyChan h p s (s.setTile h (fun t => t.setChan p (f t))) := by
  refine ⟨onlyTile_setTile .., by simp [Tile.setChan], fun q hq => ?_⟩
  simp only [State.chan, State.setTile_tiles, Fin.getElem_fin, upd_same, Tile.setChan]
  exact upd_other _ _ _ _ hq

/-- A meaning that changes one tile under a condition answers, where the condition holds, the state with that tile
changed. -/
theorem Answers.tile {f : Tile → Tile} (he : exec i s = .next (s.tileIf h ok f)) (hok : ok = true)
    (hp : P (s.setTile h f)) : Answers i s P :=
  ⟨_, he.trans (by rw [State.tileIf, if_pos hok]), hp⟩

/-- The same for one channel of a tile that is out of reset. -/
theorem Answers.chan {g : Chan → Bool} {f : Chan → Chan} (he : exec i s = .next (s.chanIf h p g f))
    (hr : s.tiles[h].inReset = false) (hg : g (s.chan h p) = true)
    (hp : P (s.setTile h (fun t => t.setChan p f))) : Answers i s P := by
  refine Answers.tile he ?_ hp
  rw [hr, Bool.not_false, Bool.true_and]; exact hg

/-- Where the condition does not hold, the command changes nothing. -/
theorem tileIf_false {f : Tile → Tile} (hok : ok = false) : s.tileIf h ok f = s := by
  rw [State.tileIf, hok]; rfl

end Sys2Proof.Machine
end

