-- ==== Sys2Proof/Laws/Voice.lean ====
section
/-! SUPPORT. How a voice executes one instruction: what the fetch, the cycles and the arrival at the next instruction
answer when nothing stops them, and what each shape of instruction then answers. -/

namespace Sys2Proof.Machine

variable {s : State} {v : VoiceId} {w : BitVec 32} {op : BitVec 8} {n pc : Nat}

theorem fetchOp_eq (h : s.executes v w n) (ho : opOf w = op) : s.fetchOp v op = some w := by
  simp only [State.fetchOp, h.1, h.2.1, if_true, ho]

theorem charge_eq (h : s.executes v w n) (f : State → State) :
    s.charge v n f = f (s.setVoice v (fun x => { x with cycles := x.cycles + n })) := by
  rw [State.charge, if_pos h.2.2]

/-- A voice that may go on at an instruction arrives there. -/
theorem arrive_eq (h : s.goesOn v pc) : s.arrive v pc = s.setVoice v (fun x => { x with pc := pc }) := by
  obtain ⟨hl, hm, hb⟩ := h
  simp only [Fin.getElem_fin] at hl hm hb
  unfold State.arrive
  simp only [State.setVoice_voices, Fin.getElem_fin, upd_same]
  rw [if_neg (by omega)]
  have hk : (if s.voices[v.val].entry = some Entry.coda then none
      else (s.setVoice v (fun x => { x with pc := pc })).brkAt v pc) = none := by
    split
    · rfl
    · exact hb.resolve_left ‹_›
  rw [hk]
  simp only [State.meetWord, State.setVoice_voices, Fin.getElem_fin, upd_same]
  split
  · exact if_neg (hm _ ‹_›)
  · rfl

/-- A change of a voice's registers leaves where it may go on. -/
theorem goesOn_setVoice (f : VoiceVol → VoiceVol) (hp : (f s.voices[v]).prog = s.voices[v].prog)
    (he : (f s.voices[v]).entry = s.voices[v].entry) (hm : (f s.voices[v]).memErr = s.voices[v].memErr) : (s.setVoice v f).goesOn v pc ↔ s.goesOn v pc := by
  have hbk : (s.setVoice v f).brkAt v pc = s.brkAt v pc := rfl
  simp only [Fin.getElem_fin] at hp he hm
  unfold State.goesOn
  simp only [State.setVoice_voices, Fin.getElem_fin, upd_same, hp, he, hm, hbk]

/-- A change of what a voice retains leaves where it may go on. -/
theorem goesOn_setVRun (f : VoiceRun → VoiceRun) : (s.setVRun v f).goesOn v pc ↔ s.goesOn v pc := Iff.rfl

/-- Two changes of one voice are one. -/
@[simp] theorem setVoice_setVoice (s : State) (v : VoiceId) (f g : VoiceVol → VoiceVol) :
    (s.setVoice v f).setVoice v g = s.setVoice v (fun x => g (f x)) := by
  simp [State.setVoice]

/-- After a change of the voice's registers, the voice goes on to the next instruction. -/
theorem onward_setVoice (g : VoiceVol → VoiceVol) (hg : s.goesOn v (s.voices[v].pc + 1))
    (hpc : ∀ x, (g x).pc = x.pc ∧ (g x).prog = x.prog ∧ (g x).entry = x.entry ∧ (g x).memErr = x.memErr) :
    (s.setVoice v g).onward v = s.setVoice v (fun x => { g x with pc := s.voices[v].pc + 1 }) := by
  unfold State.onward
  rw [show ((s.setVoice v g).voices[v]).pc = s.voices[v].pc by
    simp only [State.setVoice_voices, Fin.getElem_fin, upd_same]; exact (hpc _).1]
  rw [arrive_eq ((goesOn_setVoice g (hpc _).2.1 (hpc _).2.2.1 (hpc _).2.2.2).2 hg), setVoice_setVoice]

/-- An instruction without an operand that changes its voice's registers only. -/
theorem plainOp_eq (h : s.executes v w n) (ho : opOf w = op) (hg : s.goesOn v (s.voices[v].pc + 1))
    {f : BitVec 32 → State → State} {g : VoiceVol → VoiceVol}
    (hf : f w (s.setVoice v (fun x => { x with cycles := x.cycles + n })) =
      s.setVoice v (fun x => g { x with cycles := x.cycles + n }))
    (hpc : ∀ x, (g x).pc = x.pc ∧ (g x).prog = x.prog ∧ (g x).entry = x.entry ∧ (g x).memErr = x.memErr) :
    s.plainOp v op n f = .next (s.setVoice v (fun x =>
      { g { x with cycles := x.cycles + n } with pc := s.voices[v].pc + 1 })) := by
  unfold State.plainOp
  rw [fetchOp_eq h ho]
  simp only [charge_eq h, hf]
  rw [onward_setVoice (fun x => g { x with cycles := x.cycles + n }) hg (fun x => hpc _)]

/-- A taken jump. -/
theorem jumpOp_eq (h : s.executes v w 3) (ho : opOf w = op) (hg : s.goesOn v (idxField w).toNat) {take : Bool → Bool}
    (ht : take s.voices[v].rlo = true) :
    s.jumpOp v op take = .next (s.setVoice v (fun x => { x with cycles := x.cycles + 3, pc := (idxField w).toNat })) := by
  unfold State.jumpOp
  rw [fetchOp_eq h ho]
  have hl := hg.1
  simp only [Fin.getElem_fin] at hl ht ⊢
  rw [if_neg (by omega), if_pos ht, charge_eq h, arrive_eq ((goesOn_setVoice _ rfl rfl rfl).2 hg), setVoice_setVoice]

/-- A jump that is not taken. -/
theorem jumpOp_not (h : s.executes v w 1) (ho : opOf w = op) (hl : (idxField w).toNat < s.voices[v].prog.code.length)
    (hg : s.goesOn v (s.voices[v].pc + 1)) {take : Bool → Bool} (ht : take s.voices[v].rlo = false) :
    s.jumpOp v op take =
      .next (s.setVoice v (fun x => { x with cycles := x.cycles + 1, pc := s.voices[v].pc + 1 })) := by
  unfold State.jumpOp
  rw [fetchOp_eq h ho]
  simp only [Fin.getElem_fin] at hl ht ⊢
  rw [if_neg (by omega), if_neg (by rw [ht]; decide), charge_eq h, onward_setVoice (fun x => { x with cycles := x.cycles + 1 }) hg (fun _ => ⟨rfl, rfl, rfl, rfl⟩)]
  rfl

/-- An instruction with an operand in range: the state after its effect `f`, which arrives at the next instruction. -/
theorem areaOp_eq {l : List Area} {a : Area} {i : Nat} {base : Area → Nat} {f : BitVec 32 → Area → Nat → State → State}
    (ho : opOf w = op) (hi : operand w s.voices[v].xr s.voices[v].prog.k.length l = .ok (a, i))
    (h : s.executes v w (opCycles w (base a))) :
    s.areaOp v op l base f =
      .next ((f w a i (s.setVoice v (fun x => { x with cycles := x.cycles + opCycles w (base a) }))).onward v) := by
  unfold State.areaOp
  rw [fetchOp_eq h ho]
  simp only [hi, charge_eq h]

/-- An instruction whose operand fails a check faults its voice. -/
theorem areaOp_fault {l : List Area} {c : FaultCause} {base : Area → Nat} {f : BitVec 32 → Area → Nat → State → State}
    (hr : s.runs v = true) (hc : s.voices[v].prog.code[s.voices[v].pc]? = some w)
    (ho : opOf w = op) (hi : operand w s.voices[v].xr s.voices[v].prog.k.length l = .error c) :
    s.areaOp v op l base f = .next (s.voiceFault v c s.voices[v].pc) := by
  unfold State.areaOp
  have : s.fetchOp v op = some w := by simp only [State.fetchOp, hr, hc, if_true, ho]
  rw [this]
  simp only [hi]

end Sys2Proof.Machine
end

