-- ==== Sys2Proof/WellFormed.lean ====
section
/-! DEFINITION. Well-formed commands: operands that the hardware outside the block can give. -/

namespace Sys2Proof

/-- A host cycle carries one of the contexts T0 to T3 and SYS; the debug context works through DBGACC. -/
def CtxId.onBus (c : CtxId) : Bool := c != ctxDbg

/-- Pieces of a channel's output that fit in a tick, in the widths of VOUT and IOUT (Table BT-3). -/
def outsInRange (l : List OutSample) : Bool :=
  decide ((l.map OutSample.us).sum ≤ 1000) && l.all (fun x => decide (x.vout < 16384 ∧ x.iout < 16384))

/-- What a tile measures in a tick: at most one sample a microsecond (R256), and its outputs. -/
def TickObs.inRange (o : TickObs) : Bool :=
  decide (o.samples.length ≤ 1000) && (List.finRange 4).all (fun p => outsInRange o.outs[p])

/-- The checks, one per kind of operand that the types do not bound. -/
def Instr.wf : Instr → Bool
  | .tileMeasureBeat _ o | .tileTickBeat _ o | .flywheelBeat _ o => o.inRange
  | .pulseStart _ _ vin vout | .attemptRetry _ _ vin vout => decide (vin < 32768 ∧ vout < 16384)
  | .restStart _ _ iout => decide (iout < 16384)
  | .restWindowClose _ _ samples => decide (samples.length ≤ 1000)
  | .pltExpire _ _ outs | .attemptCounterClear _ _ outs => outsInRange outs
  | .doorEdgeAccept _ _ _ us => decide (us < 1000)
  | .illegalContext _ hctx _ => decide (5 ≤ hctx.toNat)
  | .ptBlockWrite c _ _ data => c.onBus && decide (1 ≤ data.length ∧ data.length ≤ 32)
  | .vcmdRun c _ | .vcmdStop c _ | .vcmdInstall c _ | .engctlRun c | .engctlStop c | .engctlGack c |
    .wdctlWrite c _ | .wdkick c _ _ | .clkctlRetry c | .srcselWrite c _ | .feedctlClrlo c _ | .shipctl c _ _ |
    .modectlDormreq c | .rstctl c _ | .clrlock c _ | .swapcmdPrSwap c _ | .swapcmdVconnSwap c _ | .linkctlForget c |
    .linkctlWrite c _ _ | .hostReadAbort c | .hostWriteAbort c | .unassignedOffset c _ _ | .registerWrite c _ _ |
    .evqdataRead c | .evqctlClr c | .ctxstatClear c _ | .intctlWrite c _ | .winselWrite c _ _ |
    .winptrWrite c _ _ _ | .windataRead c _ | .windataWrite c _ _ | .winctlFlush c _ |
    .wideFieldLowRead c _ | .wideFieldLowWrite c _ _ | .hpageWrite c _ | .layoutWrite c _ _ | .cabbudWrite c _ |
    .reserveWrite c _ | .tmrsync c _ | .ctofsWrite c _ | .membctlEnum c | .ordlvlStop c _ | .ordlvlGo c _ |
    .ordlvlLock c _ | .ordlvlUnlock c _ | .ordlvlLampa c _ _ _ | .ordlvlLampb c _ _ _ | .ordlvlEmrel c _ _ |
    .ordedgeUnlkp c _ _ | .ordedgeClrflt c _ | .ordedgeEnd c _ | .ordedgeCont c _ | .ordedgeRestart c _ |
    .tioordWrite c _ _ | .ptReadByte c _ _ | .ptWriteByte c _ _ _ | .ptReadWord c _ _ | .ptWriteWord c _ _ _ |
    .ptBlockRead c _ _ | .capqRead c _ | .secctlField c | .secctlSealed c | .acodeOpen c _ | .acodeClose c |
    .acodePending c _ | .acodeCommit c _ | .pendingCodeLapse c | .refusalPeriodEnd c => c.onBus
  | .sourceCapabilities _ _ pdos => decide (1 ≤ pdos.length ∧ pdos.length ≤ 7)
  | .request _ _ pos _ _ _ => decide (pos ≤ 15)
  | .baySettingWrite c _ ofs _ => c.onBus && decide (0x40 ≤ ofs ∧ ofs ≤ 0x4B)
  | .voiceImageWrite c _ ofs _ => c.onBus && decide (ofs < 0xC20)
  | _ => true

end Sys2Proof
end

