-- ==== Sys2Proof/Tests/Slice0.lean ====
section
/-! SUPPORT. Tests of single commands against the spec, ill-formed terms that the checks refuse, and for each statement
with hypotheses concrete states and operands that meet them, clause by clause. -/

set_option maxRecDepth 20000

namespace Sys2Proof.Tests

open Sys2Proof Sys2Proof.Machine

/-! ### Small states -/

/-- Every tile is `t`. -/
def tiles (t : Tile) : State := { tiles := Vector.replicate 32 t }
/-- A tile out of reset whose four channels are `c`. -/
def live (c : Chan) : Tile := { inReset := false, clk := .locked, safe := false, bypass := false, number := some 3
                                chans := Vector.replicate 4 c }
def chans (c : Chan) : State := tiles (live c)
/-- Four channels with a bay master. -/
def masters (m : BayMaster) : State := chans { smb := m }

/-! ### Ill-formed commands -/

theorem ill_adc : (Instr.tileMeasureBeat 0 { outs := Vector.replicate 4 [{ us := 1001 }] }).wf = false := by decide
theorem ill_adc_bay : (Instr.flywheelBeat 0 { outs := Vector.replicate 4 [{ vout := 16384 }] }).wf = false := by decide
theorem ill_pulse : (Instr.pulseStart 0 0 32768 0).wf = false := by decide
theorem ill_retry : (Instr.attemptRetry 0 0 0 16384).wf = false := by decide
theorem ill_rest : (Instr.restStart 0 0 16384).wf = false := by decide
theorem ill_window : (Instr.restWindowClose 0 0 (List.replicate 1001 0)).wf = false := by decide
theorem ill_plt : (Instr.pltExpire 0 0 [{ us := 600 }, { us := 401 }]).wf = false := by decide
theorem ill_door : (Instr.doorEdgeAccept 0 0 true 1000).wf = false := by decide
theorem ill_context : (Instr.illegalContext 0 4 false).wf = false := by decide
theorem ill_block : (Instr.ptBlockWrite ctxSYS 0 0 []).wf = false := by decide
theorem ill_bus : (Instr.registerWrite ctxDbg 0 0).wf = false := by decide
theorem ill_caps : (Instr.sourceCapabilities 0 {} []).wf = false := by decide
theorem ill_request : (Instr.request 0 {} 16 0 0 false).wf = false := by decide
theorem ill_setting : (Instr.baySettingWrite ctxSYS 0 0x4C 0).wf = false := by decide
theorem ill_image : (Instr.voiceImageWrite ctxSYS 0 0xC20 0).wf = false := by decide
theorem well_formed : (Instr.ptBlockWrite ctxSYS 0 0 [1]).wf = true ∧ (Instr.measureBeat {} {}).wf = true ∧
    (Instr.tileTickBeat 0 { samples := [1], outs := Vector.replicate 4 [{ us := 1000 }] }).wf = true := by decide

/-! ### Witnesses: tiles and the ring -/

theorem wit_StepRunsFrontCommand : ({ pending := [.haul] } : State).pending = .haul :: [] := rfl

theorem wit_TileEntersTileSafe : ((chans {}).tiles[(0 : Shelf)]).inReset = false ∧
    ((tiles { live {} with clk := .holdover }).tiles[(31 : Shelf)]).clk = .holdover ∧
    ((tiles { live {} with refBad := 2 }).tiles[(0 : Shelf)]).refBad = 2 := by decide

theorem wit_TileClockRecovery : ((tiles { live {} with clk := .unlocked }).tiles[(0 : Shelf)]).clk = .unlocked ∧
    ((tiles { live {} with clk := .holdover }).tiles[(0 : Shelf)]).clk = .holdover ∧
    (let t := (tiles { live {} with bypass := true, goodBeats := 2 }).tiles[(0 : Shelf)]
     t.inReset = false ∧ t.clk = .locked ∧ t.bypass = true ∧ 2 ≤ t.goodBeats) := by decide

theorem wit_TileBeatsCountAndLatch : (let t := (tiles { live {} with noCmd := 2 }).tiles[(0 : Shelf)]
    t.inReset = false ∧ t.clk = .locked ∧ t.cmdHeard = false ∧ t.noCmd = 2 ∧ t.clk ≠ .unlocked) := by decide

/-- A CMD frame of four tiles whose records order bay position 0 to pulse its lock. -/
def frame : CmdFrame := { ntiles := 4, blocks := Vector.replicate 24 { recs := #v[
  { lock := 2, edgeseq := 1, lkpulse := 10 }, { lock := 2, lkpulse := 10 }, { lock := 1 }, { mode := 3 }] } }

theorem wit_TileAppliesCmdFrame : (let t := (tiles { live {} with accepted := some frame, tick := 1 }).tiles[(0 : Shelf)]
    t.inReset = false ∧ t.accepted = some frame ∧ t.tick = 1 ∧ t.number = some 3 ∧ 3 < frame.ntiles ∧
    ((frame.blocks[(3 : TileNo)]).tflags.setWidth 7 : BitVec 7) = 0 ∧ frame.epoch = t.epoch ∧
    t.pendEpoch ≠ some frame.epoch ∧ t.safe = false ∧ (frame.blocks[(3 : TileNo)]).tflags.getLsbD 7 = false) ∧
    (let r := (frame.blocks[(3 : TileNo)]).recs
     r[0].reserved 10 = false ∧ r[0].mode = 0 ∧ r[0].lock = 2 ∧ r[0].edgeseq ≠ (({} : Chan)).edgeSeq ∧
     r[1].lock = 2 ∧ r[1].edgeseq = (({} : Chan)).edgeSeq ∧ r[2].lock = 1 ∧ r[3].reserved 10 = true) ∧
    (let t := (tiles { live {} with accepted := some frame, tick := 1, safe := true }).tiles[(0 : Shelf)]
     t.safe = true ∧ t.adcfail = false ∧ t.adc.die < 180 * 64) ∧
    (let t := (chans {}).tiles[(0 : Shelf)]
     t.accepted = none ∧ t.tick ≠ 1) := by decide

theorem wit_TileResetAndRelease : (State.reset.tiles[(0 : Shelf)]).inReset = true := by decide

theorem wit_ShedStopsNamedBays : ((chans {}).tiles[(0 : Shelf)]).inReset = false ∧ (ShedSet.mk' 3 1).valid = true ∧
    (ShedSet.mk' 3 1).d1 = 3 ∧ ((ShedSet.mk' 3 1).d2.extractLsb' 4 4).getLsbD 0 = true ∧ shedAll.d1 = 0xFF ∧
    shedAll.valid = true ∧ ({ d1 := 3 } : ShedSet).valid = false := by decide

theorem wit_PulseAndRestOfChannel : (let s := chans { order := { mode := 1 }, att := 2 }
    let t := s.tiles[(0 : Shelf)]
    t.inReset = false ∧ t.safe = false ∧ t.vinlow = false ∧ t.vinov = false ∧ (s.chan 0 0).mayStart = true ∧ (s.chan 0 0).att = 2) ∧
    (let c := (chans { restIn := some 0, order := { mode := 1 } }).chan 0 0
     c.restIn = some 0 ∧ c.order.mode = 1 ∧ c.shedS = none) ∧
    (let c := (chans { winDue := true, winOpen := some (-4000) }).chan 0 0
     c.winDue = true ∧ c.winOpen = some (-4000) ∧ (-4000 : Int) + 4000 ≤ (([] : List (BitVec 14)).length : Int)) := by decide

theorem wit_ChannelProtections :
    (let c := (chans { pulsing := true, order := { mode := 1 } }).chan 0 0
     c.pulsing = true ∧ min 21000 (5 * (10 * c.order.iset.toNat) + 1000) ≤ 4 * 400 ∧
     500 * c.use.plt.toNat ≤ c.plt + 2000 ∧ 0 < c.use.plt.toNat ∧
     ¬ (min 21000 (5 * (10 * c.order.iset.toNat) + 1000) ≤ 4 * 0 ∨ 2 * 160 < c.vStart ∨ (160 < 160 ∧ 50 ≤ 0)) ∧
     100000 ≤ c.clean + 100000) ∧
    (((chans { pulsing := true }).chan 0 0).seeOuts [{ us := 1000, peak := 9000 }, { us := 1000, peak := 9000 }]).pltDone = true ∧
    (let s := chans { retryWait := true, retryTicks := 990, order := { mode := 1 } }
     let c := s.chan 0 0
     c.retryWait = true ∧ c.order.mode = 1 ∧ 990 ≤ c.retryTicks ∧ c.rest = none ∧ (s.tiles[(0 : Shelf)]).buckOk = true ∧
     ({ c with retryWait := false } : Chan).mayStart = true) ∧
    (let c := (chans { retryWait := true, retryTicks := 1000, order := { mode := 1 }, rest := some 3 }).chan 0 0
     c.retryWait = true ∧ c.order.mode = 1 ∧ 990 ≤ c.retryTicks ∧ c.rest.isSome = true) ∧
    ((chans { therm := true }).chan 0 0).therm = true ∧ 190 * 64 ≤ 12160 ∧ 11200 ≤ 175 * 64 := by decide

theorem wit_BayInputsAndDrivers : ((chans {}).chan 0 0).door ≠ false ∧
    (let c := (chans { lockDrv := .full, lockTicks := 200 }).chan 0 0
     c.lockDrv = .full ∧ 200 ≤ c.lockTicks ∧ c.lockDrv ≠ .off) ∧ ((chans {}).chan 0 0).lockDrv = .off ∧
    ((chans { lampAOn := true }).chan 0 0).lampAOn = true ∧ ((chans { lampBOn := true }).chan 0 0).lampBOn = true ∧
    ((chans { pulseLeft := some 0 }).chan 0 0).pulseLeft = some 0 ∧ ((chans { revpol := true }).chan 0 0).revpol = true ∧
    ((chans { probing := true }).chan 0 0).probing = true := by decide

theorem wit_TileSupplyAndTio : (let t := (chans {}).tiles[(0 : Shelf)]
    t.tioLevel[(3 : Fin 4)] ≠ true ∧ t.tioUse.getLsbD 11 = true ∧ 8 ≤ 8) ∧
    ((tiles { live {} with tioUse := 0 }).tiles[(0 : Shelf)]).tioUse.getLsbD 11 = false := by decide

theorem wit_BayMasterTransactions :
    (let m := ((masters { idDone := true }).chan 0 0).smb
     ((masters {}).chan 0 0).use.smben = true ∧ ((masters {}).chan 0 0).use.pecen = false ∧
     m.idDone = true ∧ m.pollNext = none ∧ m.pollTicks = 0 ∧ m.cur = none ∧ m.waiting = [] ∧ m.recoverDue = false ∧
     m.readAfter = false ∧ m.mailbox = none ∧ m.identNext = none ∧ m.identOn = false) ∧
    (let j : SmbJob := { tx := .poll 5 }
     let m := ((masters { cur := some j, pollNext := some 6 }).chan 0 0).smb
     m.cur = some j ∧ j.tx = .poll 5 ∧ j.nackTried = false ∧ j.arbTries < 3 ∧ m.pollNext = some 6 ∧ m.waiting = []) ∧
    (let j : SmbJob := { tx := .poll 6, nackTried := true, arbTries := 3 }
     let m := ((masters { cur := some j, nackRun := 2 }).chan 0 0).smb
     m.cur = some j ∧ j.nackTried = true ∧ 3 ≤ j.arbTries ∧ m.nackRun = 2) ∧
    (((chans { use := { pecen := true } }).chan 0 0).use.pecen = true ∧
     crc8 [0x16, pollCode 0, 0x17, 1, 2] ≠ crc8 [0x16, pollCode 0, 0x17, 1, 2] + 1) ∧
    packWins [0x16] (PackMsg.hostNotify 0x16 5 none).bytes = true ∧
    (let j : SmbJob := { tx := .loopback }
     let m := ((masters { cur := some j, lbFails := 2, words := Vector.replicate 7 0xFFFF }).chan 0 0).smb
     m.cur = some j ∧ j.tx = .loopback ∧ m.lbFails = 2 ∧ m.recoverDue = false ∧
     packWins ([0x10, 0x16] ++ [m.words[(0 : Fin 7)].extractLsb' 0 8, m.words[(0 : Fin 7)].extractLsb' 8 8])
       (PackMsg.hostNotify 0x16 0x7FFF none).bytes = true) ∧
    (let j : SmbJob := { tx := .loopback }
     let m := ((masters { cur := some j, lbPasses := 2 }).chan 0 0).smb
     m.cur = some j ∧ m.lbPasses = 2 ∧ m.lbFails < 2) ∧
    (let j : SmbJob := { tx := .poll 0 }
     let m := ((masters { waiting := [(j, .nack)] }).chan 0 0).smb
     m.waitOf 0 = some .nack ∧ m.waiting = [(j, .nack)] ∧ m.cur = none) ∧
    (let j : SmbJob := { tx := .poll 0 }
     let m := ((masters { waiting := [(j, .bus)] }).chan 0 0).smb
     m.waitOf 0 = some .bus ∧ m.waiting = [(j, .bus)] ∧ m.cur = none) := by decide

/-- A ring on which a CMD frame runs. -/
def ring (t : Tile) (r : Ring) : State := { tiles t with ring := { r with cmd := some frame } }

theorem wit_CmdFrameOnTheRing :
    (let s := ring (live {}) {}
     s.ring.cmd = some frame ∧ (s.tiles[(0 : Shelf)]).clk ≠ .unlocked ∧ s.ring.cmdHits = [] ∧
     (s.tiles[(0 : Shelf)]).cmdok = false ∧ s.ring.rptSent = false ∧ s.act.ring.rpten = true ∧ s.ring.cmdBack = false) ∧
    (let s := ring { live {} with cmdok := true } { cmdHits := [⟨5, 109, none⟩] }
     s.ring.cmdHits = [⟨5, 109, none⟩] ∧ (5 ≤ 31 ∧ 4 < 5) ∧ 109 < frame.bytes.length ∧ (s.tiles[(0 : Shelf)]).cmdok = true) ∧
    (let s := ring (live {}) { rptDue := true }
     s.ring.rptDue = true ∧ s.clk.tick = 0) := by decide

theorem wit_TileFillsSlotAndEcho :
    (let s := ring { live {} with safe := true } {}
     let t := s.tiles[(0 : Shelf)]
     t.inReset = false ∧ t.clk ≠ .unlocked ∧ t.bypass = false ∧ t.number = some 3 ∧ s.ring.telHead = [] ∧
     s.ring.telHits[(3 : TileNo)] = [] ∧ s.ring.tel[(3 : TileNo)] = none ∧ 3 < frame.ntiles ∧ t.safe = true) ∧
    (ring (live {}) { tel := Vector.replicate 24 (some {}) }).ring.tel[(3 : TileNo)] ≠ none ∧
    (let s : State := { ring (live {}) { echo := some (Vector.replicate 24 none) } with
      c := { map := Vector.replicate 24 (some 1) } }
     s.ring.echo = some (Vector.replicate 24 none) ∧ 3 < s.ntiles ∧ s.ring.echoHead = [] ∧
     s.ring.echoHits[(3 : TileNo)] = []) := by decide

/-- A service frame to tile 3 on the ring. -/
def service (w : Bool) (a : Word) (l : Nat) (d : List Byte) (hits : List Hit) : State :=
  ring (live {}) { svcLive := true, svc := some { job := .dly 3, hits := hits
                                                  frame := { tile := 3, write := w, addr := a, len := l, sseq := 5, data := d } } }

theorem wit_TileAnswersServiceFrames :
    (let s := service true 2 2 [1, 2] []
     s.ring.poll = none ∧ s.ring.svcLive = true ∧ (s.tiles[(0 : Shelf)]).number = some 3 ∧
     (s.tiles[(0 : Shelf)]).lastSseq ≠ some 5 ∧ s.ring.svc.map (·.frame.status) = some 0 ∧
     s.ring.svc.map (·.frame.data) = some [1, 2] ∧ s.ring.svc.map (·.hits) = some []) ∧
    (let s : State := { service true 0x20 2 [1, 2] [] with tiles := Vector.replicate 32 { live {} with lastSseq := some 5 } }
     (s.tiles[(0 : Shelf)]).lastSseq = some 5 ∧ s.ring.svc.map (·.frame.addr) = some 0x20) ∧
    (service true 3 2 [1, 2] []).ring.svc.map (·.frame.addr) = some 3 ∧
    (service false 4 2 [] []).ring.svc.map (·.frame.len) = some 2 ∧
    (let f : SvcFrame := { sseq := 1, tile := 0, addr := 0x0020, len := 2, data := [0x12, 0x34] }
     let x : SvcRun := { job := .dly 0, hits := [⟨0, 5, some 0x21⟩], frame := f }
     let s := ring { live {} with number := some 0 } { svcLive := true, svc := some x }
     s.ring.svc = some x ∧ (s.tiles[(31 : Shelf)]).number = some x.frame.tile) ∧
    (let s := ring { live {} with number := none } { poll := some 7 }
     let t := s.tiles[(0 : Shelf)]
     s.ring.poll = some 7 ∧ s.ring.pollHits = [] ∧ s.ring.pollStat = 0 ∧ t.number = none ∧ t.telTop = none) ∧
    ((tiles { live {} with number := none, telTop := some 7 }).tiles[(0 : Shelf)]).telTop = some 7 := by decide

theorem wit_ShedSetsAreWatched : (let s : State := { ring := { running := true, sheds := [{ set := shedAll, again := true }] } }
    s.ring.running = true ∧ s.ring.sheds = { set := shedAll, again := true } :: [] ∧ ShedSet.mk' 0 1 ≠ shedAll) ∧
    (State.reset.ring.running = false ∧ State.reset.ring.sheds = { set := shedAll } :: [{ set := shedAll }]) := by decide

/-- The hub runs measures. -/
def tutti : State := { start := { stage := .tutti, recalled := true } }

theorem wit_HubServiceFrames :
    (let s : State := { tutti with pipe := { haulDone := true }, hub := Vector.replicate 24 { qual := .done, dlyDue := true } }
     s.ring.poll = none ∧ s.running = true ∧ s.pipe.haulDone = true ∧ s.nv.snap = none ∧ s.ring.svcLive = false ∧
     s.ring.svc = none ∧ s.nextJob = some (.dly 0)) ∧
    (let x : SvcRun := { job := .dly 3, back := true, frame := { status := 0x01 } }
     x.back = true ∧ x.wait = false ∧ x.job = .dly 3 ∧ x.frame.status = 0x01 ∧ x.hits = [] ∧ x.tries < 4) ∧
    (let x : SvcRun := { job := .dly 3, tries := 4, hits := [⟨32, 0, none⟩] }
     4 ≤ x.tries ∧ x.hits = [⟨32, 0, none⟩] ∧ 0 < x.frame.bytes.length) := by decide

theorem wit_RingMembershipCommands :
    (let s : State := { tutti with pipe := { haulDone := true }, ring := { echoDue := true, enumDue := true } }
     s.running = true ∧ s.pipe.haulDone = true ∧ s.nv.snap = none ∧ s.ring.echo = none ∧ s.ring.echoDue = true ∧
     s.ring.enumDue = true) ∧
    (let s : State := { start := { stage := .muster }, pipe := { haulDone := true }, ring := { mustPoll := [23] } }
     s.running = true ∧ s.ring.svcLive = false ∧ s.ring.poll = none ∧ s.ring.enum_ = none ∧ s.ring.mustPoll = 23 :: [] ∧
     s.start.stage = .muster) ∧
    (let e : Vector (Option Nat) 24 := Vector.replicate 24 (some 1856)
     let s : State := { tutti with c := { map := Vector.replicate 24 (some 1) }, ring := { echo := some e } }
     s.ring.echo = some e ∧ s.ring.echoHead = [] ∧ s.ring.echoHits[(23 : TileNo)] = [] ∧ e[(23 : TileNo)] = some 1856 ∧
     23 < s.ntiles) ∧
    (({ ring := { echo := some (Vector.replicate 24 none), echoHead := [⟨1, 0, none⟩] } } : State).ring.echoHead ≠ []) ∧
    (let s : State := { hub := Vector.replicate 24 { rejoin := true }, clk := { ticks := 100000 } }
     (s.hub[(23 : TileNo)]).rejoin = true ∧ (s.hub[(23 : TileNo)]).dropTick + 100 * s.act.ring.rejoin.toNat ≤ s.clk.ticks) := by
  decide

theorem wit_HubBeats :
    (let s : State := { tutti with clk := { tick := 9 }, pipe := { ldDone := true, haulDone := true }
                                   ring := { built := some frame } }
     s.running = true ∧ s.wdQuiet = true ∧ s.mode.dorm ≠ .ports ∧ s.wd.trap = false ∧ s.clk.tick + 1 = s.period ∧
     s.pipe.ldDone = true ∧ s.pipe.haulDone = true ∧ s.eng.haltDue = false ∧ s.ring.built = some frame ∧
     s.nv.snap = none) ∧
    (let s : State := { start := { stage := .muster } }
     s.running = true ∧ s.wdQuiet = true ∧ s.start.stage = .muster ∧ s.start.meas = 0 ∧ s.pipe.haulDone = false ∧ s.ring.built = none) ∧
    (let s : State := { tutti with wd := { counting := true } }
     s.wdQuiet = true ∧ s.clk.tick + 1 < s.period ∧ s.start.stage = .tutti ∧ s.wd.counting = true ∧
     s.eng.halted = false ∧ 0 < s.act.wb.canonper.toNat ∧ s.wd.recDue = false) := by decide

/-- Every number has a tile; those below 3 have been taken in this measure. -/
def facing (q : Qual) (x : Option TelSlot) (r : Ring) : State :=
  { tutti with c := { map := Vector.replicate 24 (some 1) }
               hub := Vector.ofFn fun k => { qual := q, cls := if k.val < 3 then .valid else .pending }
               ring := { r with tel := Vector.replicate 24 x } }

theorem wit_FaceTakesSlots :
    (let s := facing .done none {}
     s.running = true ∧ s.pipe.closed = false ∧ s.wd.trap = false ∧ s.clk.tick = 0 ∧ 3 < s.ntiles ∧
     (∀ k : TileNo, (s.hub[k]).cls = .pending ↔ (3 : TileNo) ≤ k) ∧ s.ring.tel[(3 : TileNo)] = none ∧
     s.ring.telHits[(3 : TileNo)] = []) ∧
    (let s := facing .done (some { tileno := 3 }) { telHits := Vector.replicate 24 [⟨32, 53, none⟩], cmd := some frame }
     s.ring.tel[(3 : TileNo)] = some { tileno := 3 } ∧ s.ring.telHits[(3 : TileNo)] = [⟨32, 53, none⟩] ∧
     s.act.ring.rpten = true ∧ s.ring.rptSent = false ∧ s.ring.cmd ≠ none) ∧
    (let s := facing .done (some { tileno := 4 }) {}
     s.ring.tel[(3 : TileNo)] = some { tileno := 4 } ∧ s.ring.telHits[(3 : TileNo)] = []) ∧
    (let s := facing .push (some { tileno := 3, cmdok := true }) {}
     s.ring.tel[(3 : TileNo)] = some { tileno := 3, cmdok := true } ∧ (s.hub[(3 : TileNo)]).qual = .push) ∧
    ((facing .done none {}).hub[(3 : TileNo)]).qual = .done := by decide

theorem wit_PipelineStages :
    (let s : State := { start := { stage := .muster }, pipe := { closed := true } }
     s.running = true ∧ s.pipe.closed = true ∧ s.pipe.wbDone = false) ∧
    (let s : State := { tutti with pipe := { closed := true, wbDone := true } }
     s.running = true ∧ s.wd.trap = false ∧ s.pipe.wbDone = true ∧ s.pipe.ldDone = false ∧ s.eng.slot = none ∧
     s.eng.next = none ∧ s.eng.haltDue = false) ∧
    (let s : State := { tutti with pipe := { closed := true } }
     s.start.stage = .tutti ∧ s.pipe.wbDone = false ∧ s.pipe.ldDone = false ∧ ∀ b : Bay, (s.bays[b]).wb.bad = false) ∧
    (let s : State := { tutti with pipe := { ldDone := true }, nv := { snap := some {} } }
     s.pipe.ldDone = true ∧ s.pipe.haulDone = false ∧ s.nv.snap.isSome = true) ∧
    tutti.nv.snap = none := by decide

/-- A retention memory at the journal of an empty committed state: the inactive bank holds what the journal would write,
but for the lines `bad`, which are uncorrectable. -/
def journalNv (bad : List Nat) : Nv := { snap := some {}, defer := true, bankB := { img := { cseq := 1 }, bad := bad } }
def journal : State := { tutti with pipe := { haulDone := true }, nv := journalNv [7] }

theorem journal_seq (bad : List Nat) : (journalNv bad).nextSeq = 1 := by
  have h : (journalNv bad).activeWord = none := by
    show slotWord false (Vector.replicate 2 0) = none
    decide +kernel
  unfold Nv.nextSeq
  rw [h]
theorem journal_room (bad : List Nat) : (journalNv bad).room = 1022 := by
  unfold Nv.room
  exact if_pos (by show ((Vector.replicate 2 (0 : BitVec 64))[1].extractLsb' 56 8 == 0) = true; decide)
theorem journal_stale (bad : List Nat) :
    (journalNv bad).staleLines {} = (List.range bankLines).filter (fun i => bad.contains i) := by
  unfold Nv.staleLines Nv.target
  rw [journal_seq]
  apply congrArg (fun f => (List.range bankLines).filter f)
  funext i
  simp [journalNv, Nv.bank, Bank.line]

theorem wit_JournalCommitsOrDefers :
    (journal.running = true ∧ journal.pipe.haulDone = true ∧ journal.nv.snap = some {} ∧ journal.latch.breset ≠ .preparing ∧
     journal.latch.shipDue = false ∧ journal.start.rstDue = false ∧ journal.mode.dorm ≠ .journal ∧
     journal.c.push.due = false ∧ journal.wd.recDue = false) ∧
    ((journalNv [7]).staleLines {}).length ≤ (journalNv [7]).room ∧
    (7 : Nat) ∈ ((journalNv [7]).staleLines {}).take (journalNv [7]).room ∧
    ((journalNv (List.range bankLines)).room < ((journalNv (List.range bankLines)).staleLines {}).length ∧
     (journalNv (List.range bankLines)).defer = true) ∧
    ({ slot := #v[0, 0x5C00000000000000] } : Bank).isVoid = false := by
  have h7 : (List.range bankLines).filter (fun i => [7].contains i) = [7] := by decide +kernel
  have all : (List.range bankLines).filter (fun i => (List.range bankLines).contains i) = List.range bankLines :=
    List.filter_eq_self.mpr (fun i hi => by simpa using hi)
  refine ⟨⟨by decide, rfl, rfl, by decide, rfl, rfl, by decide, rfl, rfl⟩, ?_, ?_, ⟨?_, rfl⟩, by decide⟩
  · rw [journal_stale, journal_room, h7]; decide
  · rw [journal_stale, journal_room, h7]; decide
  · rw [journal_stale, journal_room, all, List.length_range]; decide

theorem wit_GuardsHoldTheCabinet :
    (let s : State := { tutti with clk := { tick := 9 } }
     s.running = true ∧ s.wd.trap = false ∧ s.c.guard = false ∧ s.pipe.ldDone = false ∧ s.pipe.haulDone = false ∧
     s.clk.tick + 1 = s.period ∧ ∀ k : TileNo, s.ring.shedCnt[k] < 2) ∧
    (let s : State := { tutti with clk := { tick := 1 }, c := { guard := true }
                                   voices := Vector.replicate 5 { prog := { coda := some 0, code := [0x02000000] } } }
     s.c.guard = true ∧ (s.voices[voiceSYS]).prog.coda = some 0 ∧ 0 < (s.voices[voiceSYS]).prog.code.length ∧
     (s.voices[voiceSYS]).memErr = none ∧ s.pipe.wbDone = false ∧ s.pipe.ldDone = false ∧
     s.clk.tick = 1) := by decide

/-! ### Witnesses: charging and the pool -/

/-- The hub runs measures, every bay's record is `r`, and every bay is in use and live. -/
def charging (r : BayRun) : State :=
  { tutti with c := { bays := Vector.replicate 96 r, map := Vector.replicate 24 (some 1) }
               hub := Vector.replicate 24 { qual := .done }, bays := Vector.replicate 96 { tilest := 0, temp := some 250 } }

theorem wit_ChargeTimersEndCharges :
    (let r : BayRun := { pack := .ready, base := .prechg, preTicks := 1800000 }
     let s := charging r
     s.running = true ∧ s.bayPresent 95 = true ∧ (s.bays[(95 : Bay)]).tilest = 0 ∧ (s.bays[(95 : Bay)]).safety = .none ∧
     (s.bays[(95 : Bay)]).badWord = false ∧ (s.bays[(95 : Bay)]).temp.isSome = true ∧ (s.bayEnv 95).charge = true ∧
     (s.c.bays[(95 : Bay)]).base = .prechg ∧ r.pack = .ready ∧ r.held = false ∧ r.resume = false ∧ r.interrupted = false) ∧
    (let s := charging { pack := .ready, base := .cv, chem := .liion, tchg := 100000000 }
     s.act.bays[(0 : Bay)].tmaxT .liion ≤ (s.c.bays[(0 : Bay)]).tchg) ∧
    (let s := charging { pack := .ready, base := .cc, norest := 10000000 }
     8 * s.act.bays[(0 : Bay)].pperT ≤ (s.c.bays[(0 : Bay)]).norest) ∧
    (let s := charging { pack := .ready, base := .cc, chem := .nicd, tchg := 100000000 }
     s.act.bays[(0 : Bay)].tmaxT .nicd ≤ (s.c.bays[(0 : Bay)]).tchg) ∧
    (let s := charging { pack := .ready, base := .topoff, chem := .nicd, topTicks := 100000000 }
     s.act.bays[(0 : Bay)].topT .nicd ≤ (s.c.bays[(0 : Bay)]).topTicks) ∧
    (let s : State := { charging { pack := .ready, base := .maint, chem := .nicd, maintTicks := 100000000 } with
      act := { bays := Vector.replicate 96 { maint := 2 } } }
     s.act.bays[(0 : Bay)].maintT .nicd ≠ 0 ∧ s.act.bays[(0 : Bay)].maintT .nicd ≤ (s.c.bays[(0 : Bay)]).maintTicks ∧
     (s.c.bays[(0 : Bay)]).tempSusp = false) ∧
    (let s := charging { pack := .ready, base := .cc, hlRun := true, hlTicks := 100000000 }
     s.act.bays[(0 : Bay)].hlT ≤ (s.c.bays[(0 : Bay)]).hlTicks) ∧
    (({ tutti with c := { keep := { base := .cv, taper := 300000 } } } : State).c.keep.base = .cv) ∧
    (let s : State := { charging { pack := .shorted } with clk := { ticks := 10000 } }
     (s.c.bays[(0 : Bay)]).pack = .shorted ∧ (s.bays[(0 : Bay)]).probeT + 10000 ≤ s.clk.ticks) ∧
    (let s : State := { tutti with clk := { ticks := 1000000 }, bays := Vector.replicate 96 { wb := { granted := true } } }
     (s.bays[(0 : Bay)]).wb.granted = true ∧ (s.bays[(0 : Bay)]).wb.gend = .running ∧
     (s.bays[(0 : Bay)]).wb.gtick + s.act.bays[(0 : Bay)].pperT ≤ s.clk.ticks) := by decide

theorem wit_SharesAddUpToThePool : 0 < (#v[1, 1, 1, 0] : Vector (BitVec 4) 4)[0].toNat +
    (#v[1, 1, 1, 0] : Vector (BitVec 4) 4)[1].toNat + (#v[1, 1, 1, 0] : Vector (BitVec 4) 4)[2].toNat +
    (#v[1, 1, 1, 0] : Vector (BitVec 4) 4)[3].toNat := by decide

theorem wit_GrantsStayWithinPool : (5 : Nat) ≤ 5 := by decide

/-! ### Witnesses: Refrain -/

/-- Voice 1 is in its slot at the instruction word `w`, whose successor is a FIN. -/
def voice (w : BitVec 32) (x : VoiceVol) : State :=
  { tutti with eng := { slot := some 1, ran := true }
               voices := Vector.replicate 5 { x with active := true, prog := { code := [w, 0x02000000, 0x02000000] } } }

theorem voice_executes : (voice 0x01000000 { entry := some .main }).executes 1 0x01000000 4 ∧
    (voice 0x01000000 { entry := some .main }).goesOn 1 1 :=
  ⟨⟨by decide, by decide, by decide⟩, by decide, fun e h => (nomatch (show none = some e from h)), .inr (by decide)⟩

theorem wit_RefrainRegisterInstructions : opOf 0x01000000 = 0x01 ∧ opOf 0x30000002 = 0x30 ∧
    (idxField 0x30000002).toNat < ((voice 0x30000002 {}).voices[(1 : VoiceId)]).prog.code.length ∧
    ((voice 0 { rlo := true, entry := some .main }).voices[(1 : VoiceId)]).raised.length < 4 ∧
    ((voice 0 { entry := some .main }).voices[(1 : VoiceId)]).entry ≠ some .coda := by decide

theorem wit_RefrainReadingInstructions :
    operand 0x10000000 0 0 [.i, .q, .m, .e, .t, .c] = .ok (.i, 0) ∧
    operand 0x406001FF 0 0 [.w, .k, .b, .s, .t, .c] = .ok (.w, 511) ∧
    operand 0x40680000 511 0 [.w, .k, .b, .s, .t, .c] = .ok (.w, 511) := ⟨rfl, rfl, rfl⟩

theorem wit_RefrainWritingInstructions : operand 0x181006BF 0 0 [.q, .m] = .ok (.q, 1727) ∧
    operand 0x1C3003FF 0 0 [.e] = .ok (.e, 1023) ∧ operand 0x42600000 0 0 [.w] = .ok (.w, 0) := ⟨rfl, rfl, rfl⟩

theorem wit_RefrainBranchStack : opOf 0x20000000 = 0x20 ∧ opOf 0x06000000 = 0x06 ∧ opOf 0x02000000 = 0x02 ∧
    ((voice 0x20000000 { stack := List.replicate 7 (true, .and) }).voices[(1 : VoiceId)]).stack.length < 8 ∧
    ((voice 0x20000000 { stack := List.replicate 8 (true, .and) }).voices[(1 : VoiceId)]).stack.length = 8 ∧
    (voice 0x06000000 { entry := some .drop }).goesOn 1 ((voice 0x06000000 {}).voices[(1 : VoiceId)]).prog.main :=
  ⟨by decide, by decide, by decide, by decide, by decide, by decide,
   fun e h => (nomatch (show none = some e from h)), .inr (by decide)⟩

theorem wit_RefrainTimersAndCounters : opOf 0x6040007F = 0x60 ∧ areaField 0x6040007F = 4 ∧
    (127 : Fin 128).val = ((0x6040007F : BitVec 32).extractLsb' 0 7).toNat ∧ opOf 0x68500000 = 0x68 ∧
    areaField 0x68500000 = 5 ∧
    (let q : SoftTimer := { run := true, pre := 5, acc := 5 }
     let s : State := { voice 0 {} with c := { voices := Vector.replicate 5 { t := Vector.replicate 128 q } } }
     let q := ((s.c.voices[(1 : VoiceId)]).t[(0 : Fin 128)])
     q.run = true ∧ q.pre.toNat * 10 ^ q.base.toNat ≤ q.acc ∧ s.eng.slot = some 1 ∧
     (s.voices[(1 : VoiceId)]).active = true ∧ (s.voices[(1 : VoiceId)]).cycles = 0) := by decide

theorem wit_RefrainFaultingInstructions : (opOf 0x00000000).toNat = 0 ∧ (opOf 0x10A00000).toNat = 0x10 ∧
    (areaField 0x10A00000).toNat = 10 ∧ (areaField 0x42500000).toNat ≠ 6 ∧
    ((0x10000700 : BitVec 32).extractLsb' 0 19).toNat = 1792 ∧
    128 ≤ ((0x6048007F : BitVec 32).extractLsb' 0 7).toNat + (16 : Word).toNat / 16 ∧
    (voice 0x30000003 {}).runs 1 = true ∧ ((voice 0 { entry := some .coda }).voices[(1 : VoiceId)]).entry = some .coda ∧
    ((voice 0x30000003 {}).voices[(1 : VoiceId)]).prog.code.length ≤ (idxField 0x30000003).toNat := by decide

/-- Every voice is in RUN; the Weighbridge is over and the slot of SYS comes next. -/
def slots (x : VoiceVol) : State :=
  { tutti with pipe := { closed := true, wbDone := true }, eng := { next := some voiceSYS }
               c := { voices := Vector.replicate 5 { state := .run } }, voices := Vector.replicate 5 x }

theorem wit_VoiceSlotsBegin :
    (let s := slots { dropDue := true, prog := { code := [0x02000000], drop := some 0 } }
     let x := s.voices[voiceSYS]
     s.running = true ∧ s.wd.trap = false ∧ s.pipe.wbDone = true ∧ s.eng.slot = none ∧ s.eng.next = some voiceSYS ∧
     s.eng.cmdRun = false ∧ s.eng.cmdStop = false ∧ x.cmdRun = false ∧ x.cmdStop = false ∧ x.cmdInst = none ∧
     x.toStop = false ∧ s.voiceRuns voiceSYS = true ∧ x.prog.main < x.prog.code.length ∧
     s.brkAt voiceSYS x.prog.main = none ∧ x.dropDue = true ∧ x.prog.drop = some 0 ∧ 0 < x.prog.code.length) ∧
    (({} : VoiceVol).dropDue = false ∧ ({} : VoiceVol).prog.drop = none) ∧
    ({ slots {} with c := {} }).voiceRuns voiceSYS = false := by decide

theorem wit_VoiceSlotsLatch :
    (let s := voice 0 { entry := some .main, spent := true }
     let x := s.voices[(1 : VoiceId)]
     s.eng.slot = some 1 ∧ s.eng.ran = true ∧ x.active = true ∧ x.spent = true ∧ x.entry ≠ some .coda ∧ x.broken = false) ∧
    (let s : State := { tutti with eng := { slot := some 1, ran := true }, voices := Vector.replicate 5 { raised := [⟨7, true⟩] } }
     let x := s.voices[(1 : VoiceId)]
     x.active = false ∧ x.broken = false ∧ x.faulted = false ∧ x.raised = [⟨7, true⟩]) ∧
    (({ broken := true, faulted := true } : VoiceVol).active = false ∧ ({} : VoiceVol).raised = []) ∧
    (({ tutti with eng := { slot := some 1 } } : State).eng.ran = false) := by decide

/-- The hub runs, and every context is open. -/
def host : State := { tutti with sec := { sess := Vector.replicate 5 { open_ := true } } }

theorem host_serves (c : CtxId) (h : c ≠ ctxDbg) : host.serves c := by
  refine ⟨by decide, ?_⟩
  revert h; revert c; decide

theorem wit_VoiceAndEngineCommands :
    (isSys ctxSYS = true ∧ isSys 0 = false ∧ (host.c.voices[(0 : VoiceId)]).state = .empty ∧
     (host.voices[(0 : VoiceId)]).instBusy = false ∧ host.c.guard = false ∧ (host.voices[voiceSYS]).instBusy = false) ∧
    (let s : State := { host with c := { guard := true, engStop := true } }
     s.c.guard = true ∧ s.eng.lastOver = false ∧ s.eng.thisOver = false) ∧
    (let s : State := { slots {} with eng := { next := some voiceSYS, cmdStop := true, cmdRun := true } }
     s.running = true ∧ s.wd.trap = false ∧ s.pipe.wbDone = true ∧ s.eng.slot = none ∧ s.eng.next = some voiceSYS ∧
     s.eng.cmdStop = true) ∧
    (let s : State := { slots {} with eng := { next := some voiceSYS, cmdRun := true }, c := { engStop := true } }
     s.eng.cmdStop = false ∧ s.eng.cmdRun = true ∧ s.c.engStop = true ∧ s.c.guard = false) ∧
    (let s : State := { slots { cmdRun := true } with c := { voices := Vector.replicate 5 { state := .fault } } }
     (s.voices[voiceSYS]).toStop = false ∧ (s.voices[voiceSYS]).cmdInst = none ∧ (s.voices[voiceSYS]).cmdRun = true ∧
     (s.voices[voiceSYS]).cmdStop = false ∧ (s.voices[voiceSYS]).restore = [] ∧ (s.c.voices[voiceSYS]).state = .fault) ∧
    (let s : State := { slots { cmdInst := some 0 } with c := {} }
     (s.voices[voiceSYS]).cmdInst = some 0 ∧ (s.c.voices[voiceSYS]).state ≠ .run) ∧
    (({ host with eng := { haltDue := true } } : State).eng.haltDue = true) := by decide

/-- An image for voice 0 of one FIN: FORMAT, LEN, MAIN, no DROP, no CODA, no constants, PROGID 0, its CRC. -/
def image : Memory :=
  [(0x41001, 1), (0x41007, 1), (0x4100D, 0x0F), (0x4100E, 0xFF), (0x4100F, 0xFF), (0x41011, 0x0F), (0x41012, 0xFF), (0x41013, 0xFF),
   (0x4101C, 0x88), (0x4101D, 0xAD), (0x4101E, 0xED), (0x4101F, 0xEB), (0x41020, 2)]
def zeros : List Byte := List.replicate 36 0

theorem image_crc : imgCrc image (progBase 0 false) = imgWord image (progBase 0 false) 7 := by
  have h : ∀ x y : BitVec 32, zeros.foldl crc32Byte x = y → ∀ l : List Byte,
      (zeros ++ l).foldl crc32Byte x = l.foldl crc32Byte y := fun x y h l => by rw [List.foldl_append, h]
  have e : image.run (progBase 0 false) 28 ++ image.run (progBase 0 false + 32) (4 * (imgLen image (progBase 0 false) - 8)) =
      (image.run (progBase 0 false) 28 ++ [2, 0, 0, 0]) ++ (zeros ++ (zeros ++ (zeros ++ (zeros ++ (zeros ++ (zeros ++ [])))))) := by
    decide +kernel
  have i : (image.run (progBase 0 false) 28 ++ [2, 0, 0, 0]).foldl crc32Byte 0xFFFFFFFF = 0x7b27cb4d := by decide +kernel
  unfold imgCrc crc32
  rw [e, List.foldl_append, i, h _ 0xbadbace1 (by decide +kernel), h _ 0x084aa270 (by decide +kernel), h _ 0x4ef76643 (by decide +kernel),
    h _ 0x1af4ca8f (by decide +kernel), h _ 0x770f4ee4 (by decide +kernel), h _ 0x77521214 (by decide +kernel)]
  decide

theorem image_safe : (List.range 1728).all (fun j => (loadProgram image (progBase 0 false)).safe.getLsbD j = false) = true := by
  decide +kernel

theorem wit_InstallsSwitchWhole :
    (let s : State := { voices := Vector.replicate 5 { instBusy := true, instCtx := 0 }
                        nv := { port := { holder := some (.install 0, 3) } } }
     (s.voices[(0 : VoiceId)]).instBusy = true ∧ s.nv.port.holds (.install 0) = true ∧
     (s.voices[(0 : VoiceId)]).instCtx ≠ ctxDbg) ∧
    (let w : InstWord := { area := true }
     let s : State := { nv := { mem := image, inst := Vector.replicate 5 #v[instLine 0 w, 0] } }
     s.nv.activeInst 0 = some (0, w) ∧ s.nv.stagedArea 0 = false) ∧
    ({} : Nv).activeInst 0 = none ∧ imgWord [] (progBase 0 false) 0 ≠ 0x00010000 ∧
    (let m := image
     let b := progBase 0 false
     imgWord m b 0 = 0x00010000 ∧ 4 * imgLen m b ≤ progSize 0 ∧ imgWord m b 1 = 1 ∧ 1 ≤ progLimit 0 ∧
     imgWord m b 5 = 0 ∧ imgWord m b 2 = 0 ∧ imgWord m b 3 = 0x000FFFFF ∧ imgWord m b 4 = 0x000FFFFF ∧
     installOk (imgWord m b 8) 1 0 false = true) ∧ imgCrc image (progBase 0 false) = imgWord image (progBase 0 false) 7 :=
  ⟨by decide, by decide +kernel, by decide, by decide, by decide, image_crc⟩

/-! ### Witnesses: timers, watchdog, power, starts -/

/-- The hub runs, every context is open, and every timer channel has the settings `g` and the state `q`. -/
def timers (g : TimerSet) (q : TimerSt) : State :=
  { host with act := { timers := Vector.replicate 16 g }, timers := Vector.replicate 16 q }

theorem wit_TimerChannels :
    (let s := timers { en := true, per := 8, cmp := 5 } {}
     let g := s.act.timers[(15 : TimerId)]
     g.en = true ∧ g.casc = false ∧ g.clksel = 0 ∧ s.frozen 15 = false ∧ g.oneshot = false ∧
     (s.timers[(15 : TimerId)]).stopped = false ∧ (∀ k, nextChan 15 = some k → s.act.timers[k].casc = false) ∧
     8 - 0 + 1 ≤ (0 + 96000) / 2 ^ g.presc.toNat - 0 ∧ 0 < 5 ∧ 5 ≤ 8) ∧
    (let s : State := { timers { en := true, per := 8, cmp := 5 } {} with c := { tcount := Vector.replicate 16 6 } }
     5 ≤ (s.c.tcount[(0 : TimerId)]).toNat ∧ (s.c.tcount[(0 : TimerId)]).toNat ≤ 8) ∧
    (let g : TimerSet := { en := true, casc := true, per := 9 }
     let s : State := { host with act := { timers := (Vector.replicate 16 { g with casc := false }).set 1 g } }
     nextChan 0 = some 1 ∧ s.act.timers[(1 : TimerId)].casc = true ∧ s.frozen 1 = false ∧
     (s.timers[(1 : TimerId)]).stopped = false ∧ s.c.tcount[(1 : TimerId)] ≠ s.act.timers[(1 : TimerId)].per) ∧
    (let s := timers { en := true, oneshot := true, per := 8, cmp := 9, capsel := 0x3F } { queue := List.replicate 4 (1, 2) }
     let g := s.act.timers[(0 : TimerId)]
     g.oneshot = true ∧ g.casc = false ∧ 8 ≤ g.capsel.toNat ∧ g.capsel.toNat < 0x40 ∧ 4 ≤ (s.timers[(0 : TimerId)]).queue.length) ∧
    (let s := timers {} { queue := [(1, 2)] }
     s.running = true ∧ s.held = none ∧ s.isOpen 4 = true ∧ (4 : CtxId) ≠ ctxDbg ∧ isSys 4 = true ∧
     (s.timers[(0 : TimerId)]).queue = (1, 2) :: []) ∧
    (let s := timers { owner := 0 } {}
     s.chanOwner 0 = 0 ∧ s.chanOwner 0 ≠ ctxSYS ∧ (∀ k : TimerId, s.act.timers[k].casc = false) ∧
     (1 : Word).getLsbD (0 : TimerId).val = true) := by decide

theorem wit_WatchdogTrapsAndResets :
    (host.wd.en = false ∧ ((9 : Word).extractLsb' 0 4).toNat ≤ 9 ∧ (9 : Word).extractLsb' 6 10 = 0 ∧ isSys ctxSYS = true ∧
     host.busOn = true ∧ host.powered = true ∧ host.wd.trap = false) ∧
    (let s : State := { host with wd := { en := true, keyB := true, counting := true, hard := true, count := 262144 } }
     s.wd.en = true ∧ s.wd.trap = false ∧ s.wd.counting = true ∧ s.eng.halted = false ∧ s.wd.hard = true ∧
     32 * s.wd.period < s.wd.count + 32 ∧ s.wd.hardT = none ∧ s.busOn = true) ∧
    (let s : State := { host with pipe := { closed := true }, eng := { slot := some 2 }
                                  nv := { port := { holder := some (.journal, 4) } } }
     s.pipe.closed = true ∧ s.eng.slot = some 2 ∧ s.nv.port.asks .journal = true ∧ (s.voices[voiceSYS]).prog.coda = none) ∧
    (let x := ({ host with voices := Vector.replicate 5 { prog := { coda := some 0, code := [0x02000000] } } } : State).voices[voiceSYS]
     x.prog.coda = some 0 ∧ 0 < x.prog.code.length ∧ x.memErr = none) := by
  decide

/-- CODA runs at a SNAP with the tag 1; a FIN follows. -/
def coda (w : Watchdog) (p : RetPort) : State :=
  { host with wd := { w with trap := true, coda := true }, nv := { port := p }
              voices := Vector.replicate 5 { active := true, entry := some .coda, prog := { code := [0x07000001, 0x02000000] } } }

theorem wit_CodaWritesOneRecord :
    (let s := coda {} {}
     Memory.wf s.nv.mem = true ∧ s.wd.lapsed = false ∧ s.executes voiceSYS 0x07000001 2 ∧ s.goesOn voiceSYS 1 ∧
     opOf 0x07000001 = 0x07 ∧ (s.voices[voiceSYS]).cycles < 192000 ∧ s.wd.coda = true ∧ s.wd.written = false ∧
     s.wd.snapped = false ∧ s.nv.port.asks .journal = false ∧ s.nv.port.asks .coda = false ∧ s.wd.hardT = none) ∧
    (coda { snapped := true, written := true } {}).wd.snapped = true ∧
    (coda {} { holder := some (.journal, 9), waits := [(.coda, 256)] }).nv.port.asks .journal = true ∧
    (coda {} { holder := some (.journal, 9), waits := [(.coda, 256)] }).nv.port.asks .coda = true ∧
    (let s : State := { host with wd := { trap := true, recDue := true }, nv := { port := { holder := some (.coda, 256) } } }
     s.wd.recDue = true ∧ s.nv.port.asks .journal = false ∧ s.running = true ∧ s.clk.tick + 1 < s.period ∧
     s.start.stage = .tutti ∧ s.wdQuiet = true ∧ Memory.wf s.nv.mem = true) :=
  ⟨⟨by decide, by decide, ⟨by decide, by decide, by decide⟩, ⟨by decide, by decide, .inl (by decide)⟩, by decide, by decide, by decide,
    by decide, by decide, by decide, by decide, by decide⟩, by decide, by decide, by decide, by decide⟩

/-- An empty memory has room for a coda record: slot 0 is the choice unless it is kept. -/
theorem wit_codaChoice : codaChoice {} 0 = some 0 := by
  have h : ∀ k : Fin 4, codaValid {} k = false := by
    intro k
    have e : Memory.word ({} : Nv).mem (codaBase k) = 0 := by simp [Memory.word, Memory.get, Memory.blank]
    simp only [codaValid, codaChecks, e]
    rfl
  simp only [codaChoice, h]
  rfl

theorem wit_ClockCommands :
    (let s : State := { host with clk := { retry := true } }
     s.running = true ∧ s.clk.retry = true ∧ s.c.set.clk.srcsel = 0 ∧ s.clk.srcRc = true ∧ s.clk.slew = false) ∧
    (let s : State := { host with clk := { srcRc := false } }
     s.clk.srcRc = false ∧ s.clk.slew = false) ∧
    (State.reset.running = false ∧ State.reset.powered = true ∧ State.reset.clk.xtal = .running ∧
     State.reset.clk.noTry = false) ∧
    (let s : State := { host with clk := { slew := true, srcRc := true }, mode := { dorm := .calib, calOk := true } }
     s.clk.slew = true ∧ s.mode.calOk = true ∧ s.mode.dorm = .calib ∧ s.clk.slewRc = false) ∧
    (let s : State := { host with clk := { slew := true, slewRc := true, xtal := .qualified } }
     s.clk.slew = true ∧ s.mode.calOk = false ∧ s.clk.slewRc = true ∧ s.clk.xtal = .qualified) ∧
    (let s : State := { host with clk := { calib := .normal }, mode := { dorm := .calib } }
     s.clk.calib ≠ .none ∧ s.clk.calib = .normal ∧ s.mode.dorm = .calib ∧ s.clk.slew = false) ∧
    ((1 : Word).extractLsb' 7 9 = 0 ∧ (1 : Word).getLsbD 1 = false ∧ (1 : Word).getLsbD 6 = false ∧ (1 : Word).getLsbD 0 = true ∧
     (2 : Word).getLsbD 1 = true ∧ host.c.set.clk.srcsel.getLsbD 1 = false) := by decide

/-- The hub runs with both feeders in a state. -/
def feeders (x : Feeder) : State := { host with feeders := Vector.replicate 2 x }

theorem wit_FeederStates : (1 : FeederId) ≠ 0 ∧
    (let s := feeders { state := .wait, inqual := true }
     s.act.power.feed[(0 : FeederId)].en = true ∧ (s.inTutti && s.latch.breset != .cut) = true ∧ s.mode.dorm = .none ∧
     (s.feeders[(0 : FeederId)]).inqual = true ∧ (s.feeders[(0 : FeederId)]).state = .wait ∧
     (s.feeders[(1 : FeederId)]).state ≠ .ramp) ∧ ((feeders {}).feeders[(0 : FeederId)]).state = .off ∧
    (let s : State := { host with feeders := #v[{ state := .ramp, att := 2 }, { state := .wait }] }
     (s.feeders[(1 : FeederId)]).state = .wait ∧ (s.feeders[(0 : FeederId)]).state = .ramp ∧ ¬ (s.feeders[(0 : FeederId)]).att < 2) ∧
    (let x : Feeder := { state := .ramp, inqual := true, lowUs := 0 }
     100 ≤ (x.sees [{ us := 100, vds := 299 }]).lowUs ∧ (x.sees [{ us := 100, vds := 299 }]).rampUs < 200000) ∧
    (let x : Feeder := { state := .ramp, rampUs := 199900 }
     200000 ≤ (x.sees [{ us := 100, vds := 300 }]).rampUs ∧ (x.sees [{ us := 100, vds := 300 }]).lowUs < 100) ∧
    (let x : Feeder := { state := .on, plt := 1900 }
     x.use.pltUs ≤ (x.sees [{ us := 100, vsns := 37500 }]).plt ∧ 2 * x.use.vlimUv ≤ 75000 ∧ 74999 < 2 * x.use.vlimUv ∧
     x.use.vlimUv ≤ 37500 ∧ ¬ (x.use.vlimUv ≤ 37499 ∨ 1000 * x.use.plimW * x.use.rsnsUo ≤ 0 * 37499)) ∧
    (let s : State := { feeders { state := .on, onT := 200, clean := 10000000 } with mode := { mode := .holdover } }
     let x := s.feeders[(0 : FeederId)]
     x.state = .on ∧ x.revblk = false ∧ s.mode.mode = .holdover ∧ 200 ≤ x.onT ∧ 10000000 ≤ (x.sees []).clean) ∧
    ((feeders { state := .retry, retryT := 990 }).feeders[(0 : FeederId)]).retryT = 990 ∧
    ((feeders { state := .lockout }).feeders[(1 : FeederId)]).state = .lockout ∧
    (({ start := { stage := .muster }, feeders := Vector.replicate 2 { state := .ramp } } : State).inTutti = false) := by decide

/-- The hub runs with the keeper `k`. -/
def keeper (k : Keeper) : State := { host with keeper := k }

theorem wit_KeeperAndBattery : (keeper {}).keeper.batsw = false ∧
    (let c : Contract := { mv := 15000, ma := 3000 }
     let q : Port := { state := .sink, snkFet := true, pd := { contract := some c } }
     let s : State := { keeper { probed := true } with ports := Vector.replicate 2 q, act := { power := { kpri := #v[3, 0, 0, 0] } } }
     s.powered = true ∧ s.latch.breset ≠ .cut ∧ (2 : Fin 4).val = 2 + (0 : PortId).val ∧
     s.portFeeds 0 = true ∧ s.keeper.qual = Vector.replicate 4 false ∧ s.keeper.src = 0 ∧ s.keeper.pendSrc = none ∧
     s.mode.dorm = .none ∧ (2 : Fin 4) ∈ priList s.act.power.kpri ∧ s.keeper.probed = true) ∧
    (let s := keeper { src := srcCode 3, qual := #v[false, false, false, true] }
     s.keeper.src = srcCode 3 ∧ s.keeper.pendSrc = none ∧ ¬ (s.keeper.step = .probing ∨ s.keeper.step = .charging) ∧
     ∀ i : Fin 4, s.keeper.qual[i] = decide (i = 3)) ∧
    (let s := { keeper { src := srcCode 1, qual := #v[true, true, false, false], qualT := Vector.replicate 4 10000 } with
                act := { power := { kpri := #v[1, 2, 0, 0] } } }
     s.keeper.src = srcCode 1 ∧ s.keeper.qual[(0 : Fin 4)] = true ∧ (0 : Fin 4) ∈ priList s.act.power.kpri ∧
     (1 : Fin 4) ∈ priList s.act.power.kpri ∧ kholdMs s.act.power.khold ≤ s.keeper.qualT[(0 : Fin 4)] ∧
     (priList s.act.power.kpri).idxOf (0 : Fin 4) < (priList s.act.power.kpri).idxOf (1 : Fin 4)) ∧
    (keeper { pendSrc := some (srcCode 0) }).keeper.pendSrc = some (srcCode 0) ∧
    (keeper { step := .opened }).keeper.step = .opened ∧ (keeper { step := .probing }).keeper.step = .probing ∧
    (975 * 16384 ≤ 1000 * 15975 ∧ 1000 * 15974 < 975 * 16384) ∧
    (let s := { keeper { batst := .missing, shutRun := 3, qual := #v[true, false, false, false] } with
                act := { power := { kpri := #v[1, 0, 0, 0] } } }
     s.running = true ∧ s.keeper.batst = .missing ∧ 3 ≤ s.keeper.shutRun ∧ (0 : Fin 4) ∈ priList s.act.power.kpri ∧
     s.keeper.qual[(0 : Fin 4)] = true) ∧
    (let s := keeper { batst := .shorted, shortT := 60000 }
     s.keeper.batst = .shorted ∧ 60000 ≤ s.keeper.shortT) ∧
    (keeper { batsw := true }).powered = true ∧ batocMa (keeper {}).act.power.batoc < 1000000 ∧
    (keeper {}).keeper.hot = false ∧ (keeper { hot := true }).keeper.hot = true ∧
    ({ start := { stage := .held } } : State).start.stage = .held := by decide

theorem wit_LatchButtonAndTriggers :
    (host.latch.ship = false ∧ host.alive = true ∧ host.mode.dorm = .none) ∧
    (let s : State := { host with latch := { pressed := true }, mode := { mode := .holdover } }
     s.latch.pressed = true ∧ s.latch.ship = false ∧ s.latch.breset = .none ∧ s.latch.counted = true ∧
     s.mode.mode = .holdover ∧ s.keeper.qual = Vector.replicate 4 false ∧ s.running = true) ∧
    (host.mode.mode ≠ .holdover ∧ host.inTutti = true) ∧
    (let s : State := { host with latch := { ship := true, breset := .cut }, clk := { ticks := 1000 }
                                  mode := { mode := .holdover, lowFrom := some 0 } }
     s.latch.ship = true ∧ s.latch.breset = .cut ∧ s.mode.lowFrom = some 0 ∧ 0 + 1000 ≤ s.clk.ticks) ∧
    (let s : State := { host with latch := { breset := .preparing }, clk := { ticks := 60000 }
                                  act := { mode := { holddorm := 1 } } }
     s.latch.breset = .preparing ∧ 0 < s.act.mode.holddorm.toNat ∧
     s.act.mode.holddorm.toNat * 60000 + max s.mode.holdTick s.mode.doorTick ≤ s.clk.ticks) ∧
    (0x5A18 : Word) ≠ 0x5A17 := by decide

theorem wit_ResetsAndWakes :
    (host.powered = true ∧ host.start.pfail = false ∧ host.start.isDorm = false ∧ host.latch.ship = false ∧
     host.latch.breset ≠ .cut ∧ host.wd.recDue = false ∧ ({} : CutObs).snap = false ∧ host.held = none ∧
     host.sec.accOp = none ∧ host.cutOp = none) ∧
    (let s : State := { host with held := some (.read 4 0 false) }
     s.cutOp = some (.read 4 0 false) ∧ ∀ y ∈ s.heldWords (.read 4 0 false), s.nvMayWrite 4 (2 * y.1) = true) ∧
    (let s : State := { start := { stage := .held, pfail := true, cause := 2 } }
     s.start.stage = .held ∧ s.start.pfail = true ∧ s.start.cause = 2 ∧ s.start.isDorm = false) ∧
    (let s : State := { host with pipe := { haulDone := true } }
     s.running = true ∧ s.pipe.haulDone = true ∧ s.nv.snap = none) ∧ host.pipe.haulDone = false ∧
    (let s : State := { host with mode := { dorm := .ports }, clk := { tick := 9 } }
     s.running = true ∧ s.mode.dorm = .ports ∧ s.start.isDorm = false ∧ s.clk.tick + 1 = s.period) ∧
    (let s : State := { start := { stage := .held, isDorm := true }, act := { mode := { wakeen := 1 } } }
     s.start.isDorm = true ∧ s.start.pfail = false ∧ s.start.stage = .held ∧ s.wakeOn .btn = true ∧ s.wakeOn .host = false ∧
     s.wakeOn .timer = true ∧ s.act.mode.wakeivl.toNat * 60 * 32000 ≤ 115200000 ∧ s.act.mode.wakeen.getLsbD 0 = true) := by decide

theorem wit_StartStages :
    (let s : State := { start := { stage := .held } }
     s.start.stage = .held ∧ s.start.pfail = false ∧ s.start.isDorm = false ∧ s.sec.coreReset = false) ∧
    ({ start := { ccOff := true } } : State).start.ccOff = true ∧ State.reset.start.stage = .tacet ∧ State.reset.start.cause = 1 ∧
    State.reset.start.strapDue = true ∧ (({ start := { cause := 2, strapDue := false } } : State).start.cause ≠ 7) ∧
    (let s : State := { start := { stage := .recall } }
     s.start.stage = .recall ∧ s.start.recalled = false ∧ s.sec.level = .develop) ∧
    (let s : State := { start := { stage := .recall, recalled := true }, sec := { level := .sealed_ } }
     s.start.recalled = true ∧ 384 ≤ s.start.sinceT + 384 ∧ s.sec.level ≠ .develop) ∧
    (let s : State := { start := { stage := .muster }, clk := { ticks := 1000 } }
     s.start.stage = .muster ∧ s.start.mustDone = false ∧ 250 * s.act.ring.mustmax.toNat ≤ s.clk.ticks) := by decide

theorem wit_chosenBank :
    (let l : BitVec 64 := 0
     let n : Nv := { header := true, bankA := { slot := #v[l, commitLine1 false 1 l] } }
     n.choose true false = some (false, false)) ∧ ({} : Nv).choose false false = none := by decide +kernel

/-! ### Witnesses: ports, link, host, security -/

/-- The hub runs, every context is open, and both ports are `q`. -/
def ports (q : Port) : State := { host with ports := Vector.replicate 2 q }
/-- A port in a state with an attached partner of Power Delivery. -/
def attached (st : TcState) (d : PdSt) : State :=
  ports { state := st, srcFet := st == .source, snkFet := st == .sink, pd := { d with on := true, seen := true } }

theorem port_takes (d : PdSt) (h : d.bist = .none) (h' : d.hr = .none) (hs : d.sops = Vector.replicate 3 {}) :
    (attached .source d).takes 0 {} ∧ (attached .sink d).takes 0 {} := by
  refine ⟨⟨rfl, .inl rfl, rfl, h, rfl, rfl, h', ?_⟩, ⟨rfl, .inr rfl, rfl, h, rfl, rfl, h', ?_⟩⟩ <;>
  · show d.sops[0].rx ≠ _
    rw [hs]
    decide

theorem port_calm (d : PdSt) (st : TcState) : (attached st d).calm 0 :=
  ⟨rfl, .inl rfl, show ∀ (n : TimerId) (k : Fin 3), (host.act.timers[n]).capsel ≠ portSrc 0 k by decide⟩

theorem wit_TypeCPorts : (ports {}).calm 0 ∧
    (let q := (ports { term := .rd, started := true }).ports[(0 : PortId)]
     q.state = .unattached ∧ q.started = true ∧ q.scanDue = false ∧ host.mode.dorm ≠ .ports ∧ q.scanning = false ∧ q.accign = false ∧ q.term ≠ .open_ ∧ q.role = .snk ∧ q.useRole = 3) ∧
    (let q := (ports { role := .src, term := .rp 3 }).ports[(0 : PortId)]
     q.role = .src ∧ q.useRole = 3 ∧ q.term ≠ .open_) ∧
    (let s := ports { state := .attachWait, role := .src, tried := true }
     let q := s.ports[(0 : PortId)]
     q.tried = true ∧ q.useTry = true ∧ q.useRole = 3 ∧ (s.act.ports[(0 : PortId)]).moisten = true ∧
     wetPins #v[none, some 499, none, none] ≠ 0 ∧ wetPins #v[none, some 500, none, none] = 0) ∧
    (({ state := .attachWait, role := .src } : Port).tried = false) ∧
    ((ports { state := .tryRole }).ports[(0 : PortId)]).trySub = .snk ∧
    ((ports { state := .tryRole, trySub := .src }).ports[(0 : PortId)]).trySub = .src ∧
    (let q := (ports { state := .source, srcFet := true, trips := [0, 0] }).ports[(0 : PortId)]
     q.srcFet = true ∧ q.pd.contract = none ∧ q.pd.swap = none ∧ q.leaving = false ∧ q.trips = 0 :: 0 :: [] ∧
     host.clk.ticks - 0 ≤ 10000) ∧
    (let q := (ports { state := .source, srcFet := true, pd := { contract := some { ma := 3000 } } }).ports[(0 : PortId)]
     1125 * q.allowed < 1000 * 3376 ∧ 3000 ≤ q.allowed ∧ q.trips = []) ∧
    (let q := (ports { dis := true, leaving := true, vconn := true, scanning := true }).ports[(0 : PortId)]
     q.dis = true ∧ q.leaving = true ∧ q.vconn = true ∧ q.scanning = true ∧ q.state ≠ .wet ∧ q.term = .dead) ∧
    (let q := (ports { state := .sink }).ports[(0 : PortId)]
     q.pd.exch ≠ .snkTrans ∧ q.pd.hr = .none ∧ q.pd.swap = none ∧ q.state = .sink ∧ q.ovpMv < 30000) ∧
    ({ swap := some ⟨.pr, .oldOff, true, false⟩ } : PdSt).inSwap = true ∧ ({} : PdSt).inSwap = false ∧
    (let q := (ports { state := .recovery, started := true, locked := true }).ports[(0 : PortId)]
     q.state = .recovery ∧ q.started = true ∧ q.locked = true) ∧ (host.act.ports[(0 : PortId)]).role ≠ 0 ∧
    (let s : State := { ports { state := .wet, scanning := true } with clk := { ticks := 4992 } }
     let q := s.ports[(0 : PortId)]
     q.state = .wet ∧ q.scanning = true ∧ q.scanAt + 5000 ≤ s.clk.ticks + 8 ∧
     wetPins (Vector.replicate 4 (some 2001)) = 0) ∧
    ((ports { state := .wet }).clk.ticks + 8 < 4950) ∧ host.servesSys 4 :=
  ⟨⟨rfl, .inl rfl, by decide⟩, by decide, by decide, by decide, by decide, by decide, by decide, by decide, by decide, by decide,
   by decide, by decide, by decide, by decide, by decide, by decide, by decide, ⟨host_serves 4 (by decide), by decide⟩⟩

theorem wit_PdQueriesAreAnswered : (attached .source {}).takes 0 {} ∧ (attached .sink {}).takes 0 {} ∧
    ((attached .source {}).ports[(0 : PortId)]).pd.idle ∧
    ((host.act.ports[(0 : PortId)]).role.getLsbD 1 = true ∧ (host.act.ports[(0 : PortId)]).role.getLsbD 0 = true ∧
     (host.act.ports[(0 : PortId)]).linken = true ∧ host.link.active = false) ∧
    (let s : State := { host with act := { ports := Vector.replicate 2 { role := 0, linken := false } } }
     (s.act.ports[(0 : PortId)]).role.getLsbD 1 = false ∧ (s.act.ports[(0 : PortId)]).role.getLsbD 0 = false ∧
     (s.act.ports[(0 : PortId)]).linken = false) ∧
    (let e : ExtPart := { size := 27, data := List.replicate 26 0 }
     e.chunked = true ∧ e.num = 0 ∧ e.data.length = 26 ∧ 26 < e.size ∧ e.size ≤ 260) ∧
    (({ chunked := false } : ExtPart).chunked = false ∧ ({ size := 261 } : ExtPart).num = 0) ∧
    ({ pd := { out := some { msg := .vdmAck (.enter 0xD17C 1) 0 [] }, await := true } } : Port).entering = true ∧
    ((attached .source { revBad := true }).ports[(0 : PortId)]).pd.revBad = true ∧
    (let c : Contract := { mv := 5000 }
     ((attached .source { contract := some c }).ports[(0 : PortId)]).pd.contract = some c ∧ c.mv = 5000) :=
  ⟨(port_takes {} rfl rfl rfl).1, (port_takes {} rfl rfl rfl).2, ⟨rfl, rfl, rfl, rfl, rfl, rfl, rfl, rfl⟩,
   by decide, by decide, by decide, by decide, by decide, by decide, by decide⟩

theorem wit_PdSourceContracts : (attached .source {}).calm 0 ∧ (attached .source {}).takes 0 {} ∧
    (let q := (attached .source {}).ports[(0 : PortId)]
     q.state = .source ∧ q.pd.on = true ∧ q.leaving = false ∧ q.pd.swap = none ∧ q.pd.contract = none ∧ q.srcFet = true ∧
     q.pd.revBad = false ∧ q.pd.noPd = false ∧ q.pd.exch = .idle ∧ q.pd.await = false ∧ q.pd.hr = .none ∧ q.pd.hrcnt < 2) ∧
    (let x : PdOut := { msg := .accept }
     let d := ((attached .source { out := some x, await := true, sent := 3, exch := .srcTrans, capsTries := 48 }).ports[(0 : PortId)]).pd
     d.out = some x ∧ d.await = true ∧ x.sop = ({} : PdHdr).sop ∧ x.id = ({} : PdHdr).id ∧ d.exch = .srcTrans ∧ 3 ≤ d.sent ∧
     d.capsTries + 1 < 50 ∧ d.hadOne = false ∧ d.move ≠ .ready) ∧
    (let o : Pdo := { mv := 5000, ma := 3000 }
     let d := ((attached .source { offered := [o], exch := .capsWait, hrcnt := 2 }).ports[(0 : PortId)]).pd
     d.offered[1 - 1]? = some o ∧ d.exch = .capsWait ∧ 3000 ≤ o.ma ∧ o.ma < 3010 ∧ 2 ≤ d.hrcnt) ∧
    (let c : Contract := { mv := 9000, ma := 3000 }
     let s := attached .source { next := some c, move := .waiting, sameV := true, contract := some c }
     let d := (s.ports[(0 : PortId)]).pd
     d.next = some c ∧ d.move = .waiting ∧ d.sameV = true ∧ d.own = [] ∧ d.contract = some c ∧
     advertise (host.act.ports[(0 : PortId)]) 30 ≠ d.offered ∧ s.running = true ∧ s.clk.tick = 0) ∧
    (let d := ((attached .source { own := [.sourceCaps], ngWait := true, hr := .srcOff, move := .moving }).ports[(0 : PortId)]).pd
     d.own = [.sourceCaps] ∧ d.ngWait = true ∧ d.hr = .srcOff ∧ d.move = .moving) ∧
    ((attached .source {}).ports[(0 : PortId)]).dis = false ∧
    ((attached .source { out := some { msg := .sourceCaps [] false false } }).takes 0 {}) :=
  ⟨port_calm _ _, (port_takes {} rfl rfl rfl).1, by decide, by decide, by decide, by decide, by decide, by decide,
   (port_takes _ rfl rfl rfl).1⟩

theorem wit_PdSinkContracts : (attached .sink {}).calm 0 ∧ (attached .sink { exch := .reqWait }).takes 0 {} ∧
    (let q := (attached .sink {}).ports[(0 : PortId)]
     q.state = .sink ∧ q.pd.on = true ∧ q.leaving = false ∧ q.pd.swap = none ∧ q.pd.hrcnt < 2 ∧ q.pd.noPd = false ∧
     q.pd.revBad = false) ∧ ((attached .sink {}).ports[(0 : PortId)]).pd.idle ∧
    choosePdo (host.act.ports[(0 : PortId)]) [{ mv := 5000, ma := 3000 }] = some (1, { mv := 5000, ma := 3000 }) ∧
    (let c : Contract := { mv := 5000, ma := 3000 }
     let d := ((attached .sink { next := some c, exch := .snkTrans, contract := some c, hr := .snkWait, waitDue := true
                                 own := [.request], choice := some (1, { mv := 5000, ma := 3000 })
                                 chunkOut := some (.sourceExt, 1), hrcnt := 2 }).ports[(0 : PortId)]).pd
     d.next = some c ∧ d.exch = .snkTrans ∧ d.contract = some c ∧ within5 4750 c.mv = true ∧ within5 4749 c.mv = false ∧
     d.hr = .snkWait ∧ d.waitDue = true ∧ d.own = [.request] ∧ d.choice.isSome = true ∧ d.chunkOut = some (.sourceExt, 1) ∧ 2 ≤ d.hrcnt) ∧
    ({ hrcnt := 2 } : PdSt).seen = false ∧
    ((attached .sink { chunkOut := some (.sourceExt, 1) }).ports[(0 : PortId)]).pd.window = false :=
  ⟨port_calm _ _, (port_takes _ rfl rfl rfl).2, by decide, ⟨rfl, rfl, rfl, rfl, rfl, rfl, rfl, rfl⟩, by decide, by decide, by decide,
   by decide⟩

/-- A swap with which the hub becomes the source, or does not. -/
def swapping (st : TcState) (k : SwapKind) (x : SwapStep) (toSrc : Bool) : State :=
  attached st { exch := .swap, contract := some {}, swap := some ⟨k, x, true, toSrc⟩ }

theorem wit_SwapsOfRoles : (swapping .sink .pr .oldReady true).takes 0 {} ∧ (swapping .sink .pr .oldReady true).calm 0 ∧
    (attached .source { contract := some {} }).takes 0 {} ∧
    ((attached .source { contract := some {} }).ports[(0 : PortId)]).pd.idle ∧
    (let g := host.act.ports[(0 : PortId)]
     g.role = 3 ∧ g.prswen = true ∧ g.vcswen = true) ∧ (4750 : Nat) < 4751 ∧
    (let s := swapping .source .pr .oldOff false
     (s.ports[(0 : PortId)]).pd.swap = some ⟨.pr, .oldOff, true, false⟩ ∧ (s.ports[(0 : PortId)]).leaving = false) ∧
    (let s := swapping .sink .pr .newOn true
     (s.ports[(0 : PortId)]).pd.move ≠ .moving ∧ SwapStep.newOn ≠ .asked ∧ SwapKind.pr ≠ .vconn ∧
     (s.ports[(0 : PortId)]).pd.hrcnt < 2) ∧
    (let s := attached .sink { contract := some {} }
     s.frsArmed 0 = true ∧ (s.ports[(0 : PortId)]).pd.swap = none) ∧ (attached .source {}).frsArmed 0 = false ∧
    (let s : State := { attached .sink { contract := some {} } with c := { link := .agreed }, act := { link := { linkauto := true } }
                                                                    link := { active := true, holdRun := 10 } }
     s.c.link = .agreed ∧ s.link.active = true ∧ s.link.port = 0 ∧ s.act.link.linkauto = true ∧ s.mode.mode = .operate ∧
     10 ≤ s.link.holdRun ∧ (s.ports[(0 : PortId)]).pd.exch = .idle ∧ (s.ports[(0 : PortId)]).pd.await = false) ∧ host.servesSys 4 :=
  ⟨(port_takes _ rfl rfl rfl).2, port_calm _ _, (port_takes _ rfl rfl rfl).1, ⟨rfl, rfl, rfl, rfl, rfl, rfl, rfl, rfl⟩, by decide,
   by decide, by decide, by decide, by decide, by decide, by decide, ⟨host_serves 4 (by decide), by decide⟩⟩

theorem wit_DiscoveryOpensTheLink :
    (let s := ports { state := .source, dfp := true, pd := { contract := some {}, discDue := true } }
     let q := s.ports[(0 : PortId)]
     q.state = .source ∧ q.pd.contract = some {} ∧ q.pd.discDue = true ∧ q.dfp = true ∧
     (s.act.ports[(0 : PortId)]).linken = true ∧ s.link.active = false ∧ s.link.forgot = false ∧ q.pd.exch = .idle ∧
     q.pd.await = false ∧ q.pd.own = [] ∧ (0x0440D17C : BitVec 32).setWidth 16 = 0xD17C#16 ∧ (0xD17C0000 : BitVec 32).extractLsb' 16 16 = 0xD17C#16) ∧ (attached .source { contract := some {} }).ports[(0 : PortId)].dfp = false ∧
    (attached .source { contract := some {}, exch := .vdmWait .identity }).takes 0 {} ∧
    (let x : PdOut := { msg := .vdmAck (.enter 0xD17C 1) 0xD17CA144 [] }
     ((attached .source { contract := some {}, out := some x, await := true }).ports[(0 : PortId)]).pd.out = some x) :=
  ⟨by decide, by decide, (port_takes _ rfl rfl rfl).1, by decide⟩

theorem wit_CabinetLinkFrames : host.act.link.sharen = false ∧ host.wb.pool ≤ host.poolNow ∧
    (let y : PeerOut := { seq := 7, msg := .hello {}, tries := 3 }
     let s : State := { host with clk := { ticks := 300 }
                                  link := { active := true, lastAck := some 7, hello := some y, split := some y, riseDue := some 5 } }
     s.link.active = true ∧ s.running = true ∧ s.link.lastAck = some 7 ∧ s.link.hello = some y ∧ y.seq = 7 ∧ 3 ≤ y.tries ∧
     s.link.leader = false ∧ s.link.master = false ∧ s.link.riseDue = some 5 ∧ s.link.peer = none ∧
     s.link.heard + 300 ≤ s.clk.ticks ∧ s.link.statusAt + 100 ≤ s.clk.ticks ∧ s.link.mineAck = false) ∧
    (let x : Hello := { ver := 1 }
     x.ver = 1 ∧ x.sharen = false ∧ ({ ver := 2 } : Hello).ver ≠ 1) ∧
    (let s : State := { host with c := { link := .entered }, link := { active := true, mineAck := true } }
     s.link.mineAck = true ∧ s.c.link = .entered ∧ s.link.hello = none) ∧
    (let x : Hello := { timepri := 1 }
     let s : State := { host with c := { link := .agreed }, link := { active := true, peer := some x } }
     s.c.link = .agreed ∧ s.link.master = false ∧ s.link.peer = some x ∧ x.timepri ≠ 0) ∧
    (let s : State := { host with c := { link := .agreed }, link := { master := true, active := true }, clk := { ticks := 10000 } }
     s.c.link = .agreed ∧ s.link.master = true ∧ s.link.timeAt + 10000 ≤ s.clk.ticks) ∧
    (let g := host.c.set.link
     g.shmin.toNat ≤ g.shcap.toNat ∧ g.shfall.toNat ≤ g.shcap.toNat ∧ g.shcap.toNat ≤ 32000 ∧ g.shcap.toNat < 65535) ∧
    isSys 0 = false ∧ host.servesSys 4 ∧ host.mayWrite 0 = true :=
  ⟨by decide, by decide, by decide, by decide, by decide, by decide, by decide, by decide, by decide,
   ⟨host_serves 4 (by decide), by decide⟩, by decide⟩

theorem wit_HostBusCycles : host.busOn = true ∧ (5 : Nat) ≤ (5 : BitVec 3).toNat ∧ 64 ≤ (64 : BitVec 7).toNat ∧
    host.isOpen 0 = true ∧ host.mayWrite 0 = true ∧ isSys 0 = false ∧ host.mayWrite ctxSYS = true ∧ isSys ctxSYS = true ∧
    (let e : Event := { code := 0x2001 }
     let s : State := { host with ctxs := Vector.replicate 6 { queue := [e], pos := 3 } }
     (s.ctxs[(0 : CtxId)]).queue = e :: [] ∧ (s.ctxs[(0 : CtxId)]).pos = 3) ∧
    (let g := host.c.set.layout
     let w : Word := 0x0832
     w &&& 0x8080 = 0 ∧ 4 ≤ (w.extractLsb' 0 7).toNat ∧ (w.extractLsb' 0 7).toNat ≤ 100 ∧
     1 ≤ (w.extractLsb' 8 7).toNat ∧ (w.extractLsb' 8 7).toNat ≤ 80 ∧
     15 + ((w.extractLsb' 8 7).toNat + (g.t[0].toNat + g.t[1].toNat + g.t[2].toNat + g.t[3].toNat)) + 6 ≤
       10 * (w.extractLsb' 0 7).toNat) ∧
    (let g := host.c.set.layout
     let w : Word := 0x0101
     w &&& 0x8080 = 0 ∧ 1 ≤ (w.extractLsb' 0 7).toNat ∧
     15 + (g.sys.toNat + (1 + 1 + g.t[2].toNat + g.t[3].toNat)) + 6 ≤ 10 * g.period.toNat ∧
     15 + (g.sys.toNat + (g.t[0].toNat + g.t[1].toNat + 1 + 1)) + 6 ≤ 10 * g.period.toNat) ∧
    host.c.link ≠ .agreed ∧ host.act.wb.cabbud.toNat ≤ (32000 : Word).toNat ∧ (100 : Word).toNat ≤ host.act.wb.reserve.toNat ∧
    (1 : Word).toNat < host.act.wb.cabbud.toNat ∧
    (let s : State := { host with ctxs := Vector.replicate 6 { stage := [(116, 1), (118, 2)] } }
     (s.ctxs[ctxSYS]).staged 116 = some 1 ∧ (s.ctxs[ctxSYS]).staged 118 = some 2) ∧
    ({ host with c := { link := .agreed }, link := { peer := some { timepri := 1 }, active := true } } : State).follower = true := by
  decide

/-- Both windows of every context are `k`. -/
def windows (k : Win) : State := { host with ctxs := Vector.replicate 6 { wins := Vector.replicate 2 k } }

theorem wit_HostWindows : host.alive = true ∧ host.mayWrite 4 = true ∧
    (let s := windows { sel := 9, ptr := 0x3A000 }
     let k := ((s.ctxs[(4 : CtxId)]).wins[(0 : Fin 2)])
     s.held = none ∧ k.wbuf = [] ∧ k.sel = 9 ∧ k.inc = 1 ∧ nvMayRead 4 (2 * k.ptr) = true ∧ s.nvMayWrite 4 (2 * k.ptr) = true ∧
     k.rbuf = none ∧ (k.ptr + 1) % 128 ≠ 0 ∧ k.ptr + 1 < 0x40000) ∧
    (((0x3A07F : Nat) + 1) % 128 = 0 ∧ 0x31000 ≤ 256 * ((0x3A000 : Nat) / 128)) ∧
    nvMayRead 4 0x63000 = false ∧ host.nvMayWrite 4 0x63000 = false ∧
    (let s : State := { windows { inc := 1, wbuf := [(0x3A000, 1)] } with
      held := some (.reg 4 0 .ctl 5), nv := { port := { holder := some (.host, 32) } } }
     let k := ((s.ctxs[(4 : CtxId)]).wins[(0 : Fin 2)])
     s.alive = true ∧ s.mayWrite 4 = true ∧ s.held = some (.reg 4 0 .ctl (BitVec.ofNat 16 (4 + k.inc.toNat))) ∧
     s.nv.port.turn.holds .host = true ∧ k.wbuf = [(0x3A000, 1)] ∧ s.nvMayWrite 4 (2 * 0x3A000) = true ∧
     s.nvMayWrite 4 (2 * 0x31800) = false) ∧
    (let s : State := { windows { sel := 9, ptr := 0x3A000 } with
      held := some (.read 4 0 false), nv := { port := { holder := some (.host, 32) } } }
     s.held = some (.read 4 0 false) ∧ s.nv.port.turn.holds .host = true ∧ nvMayRead 4 (2 * 0x3A000) = true) ∧
    (9 : Word).toNat ≤ 9 ∧ (10 : Word).toNat > 9 ∧ bankMax 1 < (96 : Word).toNat := by decide

/-- The hub runs with every bay present. -/
def full : State := { host with hub := Vector.replicate 24 { qual := .done } }

theorem wit_OrdersAndPassThroughs : full.serves 4 ∧
    (full.ownsBay 4 95 = true ∧ full.bayPresent 95 = true ∧ ((full.c.lvl[(4 : Fin 5)])[(95 : Bay)]).modeo ≠ 3 ∧
     ((full.c.lvl[(4 : Fin 5)])[(95 : Bay)]).locko ≠ 3 ∧ ((full.c.lvl[(4 : Fin 5)])[(95 : Bay)]).emrel = false ∧
     ((full.ctxBay[(4 : Fin 5)])[(95 : Bay)]).pt.queued = none ∧ host.bayPresent 0 = false) ∧
    isSys 1 = false ∧ full.ownsBay 1 0 = false ∧ ((full.c.set.bays[(0 : Bay)]).put 0x40 0xFFFF = none) ∧
    (∃ g, (full.c.set.bays[(0 : Bay)]).put 0x40 0 = some g) ∧
    ((∀ k : Fin 4, (0 : Word).extractLsb' (2 * k.val) 2 ≠ 3) ∧ (3 : Word).extractLsb' (2 * (0 : Fin 4).val) 2 = 3) ∧
    (mayVoice 0 0 = true ∧ mayVoice 0 1 = false ∧ (full.c.voices[(0 : VoiceId)]).state ≠ .run) :=
  ⟨⟨by decide, by decide⟩, by decide, by decide, by decide, by decide, ⟨_, rfl⟩, by decide, by decide⟩

theorem wit_LevelsAndAccessCodes :
    (let s : State := { host with sec := { admin := some 5, newLevel := some .field, levelDue := true
                                           codes := Vector.replicate 4 (some 9) } }
     s.sec.admin = some 5 ∧ s.sec.level = .develop ∧ s.sec.newLevel = some .field ∧ s.sec.levelDue = true ∧
     s.eng.halted = false ∧ s.eng.haltReq = false ∧ s.eng.brkHit = false ∧ s.busOn = true ∧
     s.running = true ∧ s.ownCode 0 = some 9 ∧ s.ownCode 0 ≠ some 5 ∧ s.sec.admin ≠ some 6 ∧
     (s.sec.sess[ordIx 0]).refusing = false ∧ (s.sec.sess[ordIx 0]).open_ = false) ∧ host.serves ctxSYS ∧
    host.sec.admin = none ∧ host.sec.newLevel = none ∧ ({ admin := some 5 } : Sec).newLevel = none ∧
    (let s : State := { host with sec := { sess := Vector.replicate 5 { open_ := true, pending := some 7, pendTo := some 1000 }
                                           level := .sealed_ } }
     (s.sec.sess[ordIx 0]).open_ = true ∧ (s.sec.sess[ordIx 0]).pending = some 7 ∧
     (s.sec.sess[ordIx 0]).pendTo = some 1000 ∧ s.clk.ticks ≤ 1000 ∧ s.sec.level = .sealed_) ∧
    (let s : State := { host with sec := { sess := Vector.replicate 5 { refusing := true, refuseTo := some 0 } } }
     (s.sec.sess[ordIx 0]).refusing = true ∧ (s.sec.sess[ordIx 0]).refuseTo = some 0 ∧ s.clk.ticks ≤ 0) :=
  ⟨by decide, host_serves _ (by decide), by decide, by decide, by decide, by decide, by decide⟩

theorem wit_DebugAndTestAccess :
    (host.start.stage ≠ .off ∧ host.start.isDorm = false ∧ host.latch.ship = false ∧ host.sec.coreReset = false ∧
     host.held = none ∧ host.sec.level = .develop ∧ host.dbgEffect = .none ∧ host.start.stage ≠ .held ∧
     host.eng.halted = false ∧ host.eng.haltReq = false ∧ host.eng.brkHit = false) ∧
    (let s : State := { host with sec := { level := .field, granted := .control } }
     s.dbgEffect = .control ∧ s.sec.level = .field ∧ s.sec.lockout = false ∧ s.sec.failures < 8 ∧ s.eng.halted = false ∧
     s.sec.accOp = none) ∧
    (let s : State := { host with sec := { level := .field, granted := .observe, accOp := some (.read 5 0 false) } }
     s.dbgEffect ≠ .none ∧ s.sec.accOp = some (.read 5 0 false)) ∧
    (let s : State := { host with sec := { level := .sealed_, granted := .observe, failures := 8 } }
     s.dbgEffect = .observe ∧ s.sec.level = .sealed_ ∧ 8 ≤ s.sec.failures) ∧
    ({ host with sec := { level := .field, granted := .observe } } : State).dbgEffect = .observe ∧
    (let s : State := { host with sec := { level := .field, lockout := true, lockTo := some 1, nonceTo := some 0 }
                                  clk := { ticks := 1 } }
     s.sec.lockout = true ∧ s.sec.lockTo = some 1 ∧ s.clk.ticks ≤ 1 ∧ s.sec.nonceTo = some 0 ∧ 0 < s.clk.ticks) ∧
    (({ host with eng := { halted := true } } : State).eng.halted = true) ∧ (4 : BitVec 3).toNat < 5 ∧ 5 ≤ (5 : BitVec 3).toNat ∧
    (0x200F : Word).extractLsb' 0 8 = 0x0F ∧ (0x2001 : Word).extractLsb' 0 8 = 0x01 ∧
    (0x200F : Word).extractLsb' 8 8 = 0x20 := by decide

/-- A response to a challenge exists for every key and number. -/
theorem wit_debugResponse (key : BitVec 256) (n : BitVec 64) : ∃ (s : State) (resp : BitVec 64), s.sec.request ≠ .none ∧
    s.sec.key = some key ∧ s.sec.nonce = some n ∧ s.sec.nonceTo = some s.clk.ticks ∧
    resp = debugResponse key n (BitVec.ofNat 8 s.sec.request.code) (BitVec.ofNat 8 s.sec.level.code) :=
  ⟨{ host with sec := { level := .field, request := .observe, key := some key, nonce := some n, nonceTo := some 0 } }, _,
   (by show Dbg.observe ≠ .none; decide), rfl, rfl, rfl, rfl⟩

theorem wit_RetentionMemoryReads : Memory.wf image = true ∧ Memory.wf [] = true := by decide

theorem wit_StepKeepsSound : (∃ t, step State.reset = .next t) ∧ Memory.wf State.reset.nv.mem = true ∧
    ∀ c : CtxId, (State.reset.ctxs[c]).queue.length ≤ 32 ∧ (State.reset.ctxs[c]).pos ≤ 3 :=
  ⟨⟨_, rfl⟩, rfl, by decide⟩

end Sys2Proof.Tests
end

section
/-! What the commands of the staged start do: the keeper's choice and the watchdog as frames, Recall cut into its parts
with what each part leaves, and the obligation about the four stages (chapter 18). -/

namespace Sys2Proof

/-- A bank that passes a full verification passes the other one (R365, R367). -/
theorem Nv.loads_of_full {n : Nv} {b full : Bool} (h : n.loads b true = true) : n.loads b full = true := by
  simp only [Nv.loads, Bool.and_eq_true, Bool.or_eq_true] at h ⊢
  exact ⟨h.1, .inr (h.2.resolve_left (by decide))⟩

/-- No bank is chosen exactly where the memory has no header, or no bank with a commit word is usable (R358, R365). -/
theorem Nv.choose_eq_none {n : Nv} {a b : Bool} : n.choose a b = none ↔
    n.header = false ∨ (n.word false = none ∨ a = false) ∧ (n.word true = none ∨ b = false) := by
  unfold Nv.choose
  cases n.header with
  | false => simp
  | true =>
    cases n.word false <;> cases n.word true <;> simp
    split <;> cases a <;> cases b <;> simp

/-- Where no bank is chosen, none is chosen among fewer usable ones. -/
theorem Nv.choose_none_of_le {n : Nv} {a b a' b' : Bool} (ha : a' = true → a = true) (hb : b' = true → b = true)
    (h : n.choose a b = none) : n.choose a' b' = none := by
  have le {x x' : Bool} (hx : x' = true → x = true) (g : x = false) : x' = false := by
    cases x' with
    | false => rfl
    | true => exact (hx rfl).symm.trans g
  rw [Nv.choose_eq_none] at h ⊢
  exact h.imp_right (And.imp (Or.imp_right (le ha)) (Or.imp_right (le hb)))

/-- The bank under which Recall loads is the one chosen by the cause alone: where no bank stands without a full
verification, none stands with it (R365, R367). -/
theorem Nv.choose_cold (n : Nv) (first ok : Bool) :
    let cold := first || (n.choose (n.loads false false) (n.loads true false)).isNone
    n.choose (n.loads false cold && (!cold || ok)) (n.loads true cold && (!cold || ok)) =
      n.choose (n.loads false first && (!first || ok)) (n.loads true first && (!first || ok)) := by
  cases first with
  | true => rfl
  | false =>
    cases h : n.choose (n.loads false false) (n.loads true false) with
    | some x => simp
    | none =>
      have le (b : Bool) : (n.loads b true && ok) = true → n.loads b false = true :=
        fun g => Nv.loads_of_full (Bool.and_eq_true_iff.mp g).1
      simpa [h] using Nv.choose_none_of_le (le false) (le true) h

/-- Where a bank is chosen, its choice asks for a full verification by the cause alone. -/
theorem Nv.cold_of_choose {n : Nv} {first ok : Bool} {x : Bool × Bool}
    (h : n.choose (n.loads false first && (!first || ok)) (n.loads true first && (!first || ok)) = some x) :
    (first || (n.choose (n.loads false false) (n.loads true false)).isNone) = first := by
  cases first with
  | true => rfl
  | false => simp_all

/-- A port that a start hands to its controller enters UNATTACHED as a sink where its role allows one (R474, R481). -/
theorem Port.unattach_sink {q : Port} {g : PortSet} (hr : g.role.getLsbD 0 = true) (hd : q.scanDue = false) :
    (q.unattach g false).state = .unattached ∧ (q.unattach g false).term = .rd := by
  have h0 : g.role ≠ 0 := by intro h; simp [h] at hr
  have h2 : g.role ≠ 2 := by intro h; simp [h] at hr
  simp only [Port.unattach, if_neg h0, if_neg h2]
  simp [Port.fetsOff, hd, roleTerm]

end Sys2Proof

namespace Sys2Proof.Machine

/-! ### The keeper's choice and the watchdog -/

/-- What the keeper's choice leaves: it changes the keeper and the events, and the start-up regulator stays as it was. -/
structure KeeperActs (s t : State) : Prop where
  c : t.c = s.c
  act : t.act = s.act
  nv : t.nv = s.nv
  clk : t.clk = s.clk
  start : t.start = s.start
  mode : t.mode = s.mode
  tiles : t.tiles = s.tiles
  ring : t.ring = s.ring
  ports : t.ports = s.ports
  regulator : t.keeper.regulator = s.keeper.regulator

theorem keeperActs_refl (s : State) : KeeperActs s s := ⟨rfl, rfl, rfl, rfl, rfl, rfl, rfl, rfl, rfl, rfl⟩

theorem KeeperActs.trans {s t u : State} (h : KeeperActs s t) (g : KeeperActs t u) : KeeperActs s u where
  c := Eq.trans g.c h.c
  act := Eq.trans g.act h.act
  nv := Eq.trans g.nv h.nv
  clk := Eq.trans g.clk h.clk
  start := Eq.trans g.start h.start
  mode := Eq.trans g.mode h.mode
  tiles := Eq.trans g.tiles h.tiles
  ring := Eq.trans g.ring h.ring
  ports := Eq.trans g.ports h.ports
  regulator := Eq.trans g.regulator h.regulator

theorem KeeperActs.ite {c : Prop} [Decidable c] {s t u : State} (h : KeeperActs s t) (g : KeeperActs s u) :
    KeeperActs s (if c then t else u) := by
  split
  · exact h
  · exact g

theorem keeperActs_setKeeper {s : State} {f : Keeper → Keeper} (h : (f s.keeper).regulator = s.keeper.regulator) :
    KeeperActs s (s.setKeeper f) :=
  ⟨rfl, rfl, rfl, rfl, rfl, rfl, rfl, rfl, rfl, h⟩

theorem keeperActs_post (s : State) (code a0 a1 : Nat) : KeeperActs s (s.post code a0 a1) := by
  rw [post_eq]; exact ⟨rfl, rfl, rfl, rfl, rfl, rfl, rfl, rfl, rfl, rfl⟩

theorem keeperActs_keeperMove (s : State) : ∀ o : Option (Fin 4), KeeperActs s (s.keeperMove o)
  | some _ => ⟨rfl, rfl, rfl, rfl, rfl, rfl, rfl, rfl, rfl, rfl⟩
  | none => (keeperActs_setKeeper (s := s) rfl).trans (keeperActs_post ..)

theorem keeperActs_detectStart (s : State) : KeeperActs s s.detectStart := by
  unfold State.detectStart
  split <;> exact keeperActs_setKeeper rfl

theorem probeLost_regulator (k : Keeper) : (Keeper.probeLost k).regulator = k.regulator := by
  unfold Keeper.probeLost
  split <;> rfl

/-- The keeper's choice touches the keeper and the events alone. -/
theorem keeperActs_keeperAct (s : State) : KeeperActs s s.keeperAct := by
  unfold State.keeperAct
  extract_lets cur lost t ok u
  have ht : KeeperActs s t := .ite (keeperActs_setKeeper (probeLost_regulator _)) (keeperActs_refl s)
  have hu : KeeperActs t u := .ite (keeperActs_refl t) (keeperActs_keeperMove ..)
  exact .ite (keeperActs_refl s) ((ht.trans hu).trans (.ite (keeperActs_detectStart u) (keeperActs_refl u)))

/-- SLOW periods in a stage without ticks touch the watchdog and the free values alone. -/
theorem wdPasses_frame (s : State) (n : Nat) :
    s.wdPasses n = { s with wd := (s.wdPasses n).wd, free := (s.wdPasses n).free } := by
  unfold State.wdPasses
  split
  · rfl
  · split <;> rfl

/-! ### Recall in parts -/

/-- No voice has a program, and no image has been loaded that could give it one. -/
def State.NoPrograms (s : State) : Prop := s.start.imgvalid = false ∧ ∀ v : VoiceId, (s.c.voices[v]).state = .empty

/-- A start's values with those that a part of Recall may change taken from another's. -/
def Start.recallFrom (x y : Start) : Start :=
  { x with safestart := y.safestart, safeDue := y.safeDue, batskip := y.batskip }

/-- The committed state with what a part of Recall may change taken from another: voices, link, charges, timers. -/
def Committed.recallFrom (x y : Committed) : Committed :=
  { x with voices := y.voices, link := y.link, bays := y.bays, keep := y.keep, tcount := y.tcount }

/-- What a part of Recall after the image leaves. It gives no program to a voice where no image has been loaded. -/
structure RecallPart (s t : State) : Prop where
  start : t.start = Start.recallFrom s.start t.start
  c : t.c = Committed.recallFrom s.c t.c
  nv : t.nv = s.nv
  act : t.act = s.act
  ports : t.ports = s.ports
  tiles : t.tiles = s.tiles
  voices : s.NoPrograms → t.NoPrograms

theorem recallPart_refl (s : State) : RecallPart s s := ⟨rfl, rfl, rfl, rfl, rfl, rfl, id⟩

theorem RecallPart.trans {s t u : State} (h : RecallPart s t) (g : RecallPart t u) : RecallPart s u where
  start := by rw [g.start, h.start]; rfl
  c := by rw [g.c, h.c]; rfl
  nv := Eq.trans g.nv h.nv
  act := Eq.trans g.act h.act
  ports := Eq.trans g.ports h.ports
  tiles := Eq.trans g.tiles h.tiles
  voices := g.voices ∘ h.voices

theorem RecallPart.foldl {α : Type} {f : State → α → State} (h : ∀ s x, RecallPart s (f s x)) :
    ∀ (l : List α) (s : State), RecallPart s (l.foldl f s)
  | [], s => recallPart_refl s
  | x :: l, s => (h s x).trans (RecallPart.foldl h l (f s x))

theorem KeeperActs.recallPart {s t : State} (h : KeeperActs s t) : RecallPart s t := by
  refine ⟨?_, ?_, h.nv, h.act, h.ports, h.tiles, fun ⟨hi, he⟩ => ⟨?_, ?_⟩⟩
  · rw [h.start]; rfl
  · rw [h.c]; rfl
  · rwa [h.start]
  · rwa [h.c]

theorem recallPart_setClk (s : State) (f : Clock → Clock) : RecallPart s (s.setClk f) :=
  ⟨rfl, rfl, rfl, rfl, rfl, rfl, id⟩

/-- A start that is a safe start has used what made it one (R472). -/
theorem recallPart_safestart (s : State) :
    RecallPart s (s.setStart (fun x => { x with safestart := x.safeDue, safeDue := false })) :=
  ⟨rfl, rfl, rfl, rfl, rfl, rfl, id⟩

/-- A change of the committed state that leaves the voices and what Recall has loaded. -/
theorem recallPart_setC (s : State) (f : Committed → Committed) (hf : ∀ c, f c = Committed.recallFrom c (f c))
    (hv : ∀ c, (f c).voices = c.voices) : RecallPart s (s.setC f) :=
  ⟨rfl, hf s.c, rfl, rfl, rfl, rfl, fun ⟨hi, he⟩ => ⟨hi, fun v => by rw [State.setC_c, hv]; exact he v⟩⟩

theorem recallPart_recallCharges (s : State) : RecallPart s s.recallCharges := ⟨rfl, rfl, rfl, rfl, rfl, rfl, id⟩

/-- A change of one voice that leaves an empty one empty. -/
theorem recallPart_setVRun (s : State) (v : VoiceId) (f : VoiceRun → VoiceRun)
    (hf : s.start.imgvalid = false → (f s.c.voices[v]).state = .empty) : RecallPart s (s.setVRun v f) := by
  refine ⟨rfl, rfl, rfl, rfl, rfl, rfl, fun ⟨hi, he⟩ => ⟨hi, fun w => ?_⟩⟩
  simp only [State.setVRun, State.setC_c, upd_get]
  split
  · exact hf hi
  · exact he w

theorem recallPart_recallProgram (s : State) (v : VoiceId) : RecallPart s (s.recallProgram v) := by
  unfold State.recallProgram
  split
  · exact recallPart_setVRun s v _ (fun _ => rfl)
  · split
    · next hi =>
      exact (recallPart_setVRun s v _ (fun h => absurd (hi.symm.trans h) (by decide))).trans
        ⟨rfl, rfl, rfl, rfl, rfl, rfl, id⟩
    · exact recallPart_setVRun s v _ (fun _ => rfl)

theorem recallPart_startVoices (s : State) (warm safe : Bool) : RecallPart s (s.startVoices warm safe) := by
  refine ⟨rfl, rfl, rfl, rfl, rfl, rfl, fun ⟨hi, he⟩ => ⟨hi, fun v => ?_⟩⟩
  have hv := he v
  simp only [Fin.getElem_fin] at hv
  simp [State.startVoices, hv]

theorem recallPart_recallClock (s : State) (xtal : Bool) : RecallPart s (s.recallClock xtal) := by
  unfold State.recallClock
  split
  · exact recallPart_setClk s _
  · split
    · exact recallPart_setClk s _
    · exact (recallPart_setClk s _).trans (keeperActs_post ..).recallPart

theorem recallPart_recallBattery (s : State) (o : RecallObs) (cold noSrc : Bool) :
    RecallPart s (s.recallBattery o cold noSrc) := by
  unfold State.recallBattery
  split
  · split <;> exact ⟨rfl, rfl, rfl, rfl, rfl, rfl, id⟩
  · exact ⟨rfl, rfl, rfl, rfl, rfl, rfl, id⟩

theorem recallPart_timersStart (s : State) (valid : Bool) : RecallPart s (s.timersStart valid) := by
  refine RecallPart.foldl (fun t n => ?_) _ s
  dsimp only
  split <;> exact ⟨rfl, rfl, rfl, rfl, rfl, rfl, id⟩

/-! ### The ports and what Recall leaves -/

/-- Both ports start, each as if it were alone. -/
theorem portStart_both (s : State) (b : Vector Bool 2) (p : PortId) :
    (((s.portStart 0 b[(0 : PortId)]).portStart 1 b[(1 : PortId)]).ports)[p] = ((s.portStart p b[p]).ports)[p] := by
  match p with
  | 0 => exact upd_other _ _ _ _ (by decide)
  | 1 => simp [State.portStart, State.pset, upd_getNat]

/-- A port that may sink starts as an unattached sink; its sink FET stays closed while Rp is seen (R481). -/
theorem portStart_sink {s : State} {p : PortId} {b : Bool} (hc : s.start.ccOff = false)
    (hr : (s.act.ports[p]).role.getLsbD 0 = true) :
    let y := ((s.portStart p b).ports)[p]
    y.state = .unattached ∧ y.term = .rd ∧ y.snkFet = ((s.ports[p]).snkFet && b) := by
  obtain ⟨hs, ht⟩ := Port.unattach_sink (q := { s.ports[p] with scanDue := false }) hr rfl
  simp only [Fin.getElem_fin] at hr hs ht
  cases hf : s.ports[p.val].snkFet && b <;>
    simp [State.portStart, State.pset, hc, hr, hs, ht, hf]

/-- The banks as Recall finds them, with the time that it took. -/
def State.recallFound (s : State) (o : RecallObs) : State :=
  ((s.setClk (fun c => c.slow o.slow)).wdPasses o.slow).setNv (fun n => n.found o)

/-- No bank loads without a full verification, or the start is the first one. -/
def State.recallCold (s : State) : Bool :=
  s.start.cause == 1 || (s.nv.choose (s.nv.loads false false) (s.nv.loads true false)).isNone

/-- What Recall makes of the state `q` into which its image has been loaded. -/
structure Recalls (o : RecallObs) (q r : State) : Prop where
  start : r.start = { Start.recallFrom q.start r.start with recalled := true, sinceT := r.start.sinceT }
  c : r.c = Committed.recallFrom q.c r.c
  nv : r.nv = { q.nv with layout := q.c.set.layout, pfStart := r.nv.pfStart }
  act : r.act = q.c.set
  tiles : r.tiles = q.tiles
  ports : q.start.ccOff = false → ∀ p : PortId, (q.c.set.ports[p]).role.getLsbD 0 = true →
    (r.ports[p]).state = .unattached ∧ (r.ports[p]).term = .rd ∧
    (r.ports[p]).snkFet = ((q.ports[p]).snkFet && o.rpSeen[p])
  voices : q.NoPrograms → r.NoPrograms

/-- The loaded settings are in force, and the power-fail record is kept as the start has checked it. -/
def State.inForce (s : State) : State :=
  { s with act := s.c.set, nv := { s.nv with layout := s.c.set.layout, pfStart := s.nv.pf.filter PfRec.checks } }

/-- The parts of Recall up to the ports, the ports, and the end. -/
theorem RecallPart.recalls {o : RecallObs} {q p x y r : State} (h : RecallPart q p) (g : RecallPart p.inForce x)
    (hy : y = (x.portStart 0 o.rpSeen[(0 : PortId)]).portStart 1 o.rpSeen[(1 : PortId)])
    (hr : RecallPart (y.setStart (fun a => { a with recalled := true, sinceT := a.sinceT + o.slow })) r) :
    Recalls o q r := by
  have hset : p.c.set = q.c.set := by rw [h.c]; rfl
  have hstart : x.start = Start.recallFrom q.start x.start := by
    rw [g.start]
    show Start.recallFrom p.start _ = _
    rw [h.start]
    rfl
  have hc : x.c = Committed.recallFrom q.c x.c := by
    rw [g.c]
    show Committed.recallFrom p.c _ = _
    rw [h.c]
    rfl
  have hnv : x.nv = { q.nv with layout := q.c.set.layout, pfStart := x.nv.pfStart } := by
    rw [g.nv, ← hset, ← h.nv]; rfl
  have hact : x.act = q.c.set := Eq.trans g.act hset
  have hports : x.ports = q.ports := Eq.trans g.ports h.ports
  subst hy
  refine ⟨?start, ?c, by rw [hr.nv]; exact hnv, Eq.trans hr.act hact, Eq.trans hr.tiles (Eq.trans g.tiles h.tiles),
    fun hcc i hi => ?ports, fun hq => hr.voices (g.voices (h.voices hq))⟩
  case start =>
    rw [hr.start]
    show ({ Start.recallFrom x.start _ with recalled := true, sinceT := _ } : Start) = _
    rw [hstart]
    rfl
  case c =>
    rw [hr.c]
    show Committed.recallFrom x.c _ = _
    rw [hc]
    rfl
  case ports =>
    rw [hr.ports, State.setStart_ports, portStart_both, ← hports]
    exact portStart_sink (by rw [hstart]; exact hcc) (by rw [hact]; exact hi)

/-- What Recall does after the image (R458 to R462). -/
theorem recall_recalls (s : State) (o : RecallObs) :
    Recalls o ((s.recallFound o).recallImage o (s.recallFound o).recallCold) (s.recall o) := by
  unfold State.recall
  extract_lets f before noSrc cold q programs safe voices nv inForce link charges clock crystal battery timers ports
  have hvoices : RecallPart q voices :=
    ((RecallPart.foldl recallPart_recallProgram _ q).trans (recallPart_safestart programs)).trans
      (recallPart_startVoices safe _ _)
  have hlink : RecallPart inForce link := recallPart_setC inForce _ (fun _ => rfl) (fun _ => rfl)
  have hclock : RecallPart inForce clock :=
    (hlink.trans (recallPart_recallCharges link)).trans (recallPart_setClk charges _)
  have htimers : RecallPart clock timers :=
    ((recallPart_recallClock clock _).trans (recallPart_recallBattery crystal ..)).trans (recallPart_timersStart battery _)
  exact hvoices.recalls (hclock.trans htimers) (rfl : ports = _) (keeperActs_keeperAct _).recallPart

/-! ### What Recall loads -/

/-- The bank that a start loads, and whether it had to fall back: the choice among the banks as they are found, where
only the first start asks for a full verification (R365, R367). -/
def State.chosenBank (s : State) (o : RecallObs) : Option (Bool × Bool) :=
  let usable (b : Bool) : Bool := (s.nv.found o).loads b (s.start.cause == 1) && (s.start.cause != 1 || s.progsPass o)
  (s.nv.found o).choose (usable false) (usable true)

/-- Finding the banks takes time and passes the watchdog. -/
theorem recallFound_frame (s : State) (o : RecallObs) :
    s.recallFound o = { s with clk := s.clk.slow o.slow, nv := s.nv.found o, wd := (s.recallFound o).wd
                               free := (s.recallFound o).free } := by
  unfold State.recallFound
  rw [wdPasses_frame]
  rfl

theorem recallFound_nv (s : State) (o : RecallObs) : (s.recallFound o).nv = s.nv.found o := by rw [recallFound_frame]
theorem recallFound_start (s : State) (o : RecallObs) : (s.recallFound o).start = s.start := by rw [recallFound_frame]
theorem recallFound_ports (s : State) (o : RecallObs) : (s.recallFound o).ports = s.ports := by rw [recallFound_frame]
theorem recallFound_tiles (s : State) (o : RecallObs) : (s.recallFound o).tiles = s.tiles := by rw [recallFound_frame]

/-- The programs' CRCs do not rest on the banks. -/
theorem recallFound_progsPass (s : State) (o : RecallObs) : (s.recallFound o).progsPass o = s.progsPass o := by
  unfold State.progsPass State.mem
  rw [recallFound_nv]
  rfl

theorem recallFound_cold (s : State) (o : RecallObs) : (s.recallFound o).recallCold =
    (s.start.cause == 1 ||
      ((s.nv.found o).choose ((s.nv.found o).loads false false) ((s.nv.found o).loads true false)).isNone) := by
  unfold State.recallCold
  rw [recallFound_nv, recallFound_start]

/-- Recall's image comes from the chosen bank. -/
theorem recallFound_choose (s : State) (o : RecallObs) :
    let f := s.recallFound o
    f.nv.choose (f.nv.loads false f.recallCold && (!f.recallCold || f.progsPass o))
      (f.nv.loads true f.recallCold && (!f.recallCold || f.progsPass o)) = s.chosenBank o := by
  simp only [recallFound_nv, recallFound_progsPass, recallFound_cold]
  exact Nv.choose_cold ..

/-- Where a bank is chosen, a full verification is made at the first start alone. -/
theorem recallFound_cold_of_some {s : State} {o : RecallObs} {x : Bool × Bool} (h : s.chosenBank o = some x) :
    (s.recallFound o).recallCold = (s.start.cause == 1) := by
  rw [recallFound_cold]
  exact Nv.cold_of_choose h

/-- Whatever is loaded, the image touches the committed state, the active bank, its marks in the start, and the
events. -/
structure Loads (s t : State) : Prop where
  start : t.start = { s.start with imgvalid := t.start.imgvalid, warm := t.start.warm, fullver := t.start.fullver }
  nv : t.nv = { s.nv with onB := t.nv.onB }
  ports : t.ports = s.ports
  tiles : t.tiles = s.tiles

theorem recallImage_loads (s : State) (o : RecallObs) (cold : Bool) : Loads s (s.recallImage o cold) := by
  unfold State.recallImage
  extract_lets ok
  split
  · next b fell _ =>
    dsimp only
    split
    · rw [post_eq]; exact ⟨rfl, rfl, rfl, rfl⟩
    · exact ⟨rfl, rfl, rfl, rfl⟩
  · exact ⟨rfl, rfl, rfl, rfl⟩

/-- Without a bank the strap defaults are loaded (R9, R458). -/
theorem recallImage_none {s : State} {o : RecallObs} (h : s.chosenBank o = none) :
    let q := (s.recallFound o).recallImage o (s.recallFound o).recallCold
    q.start.imgvalid = false ∧ q.start.warm = false ∧ q.c = { set := strapDefaults s.start.profile } := by
  have hc := recallFound_choose s o
  dsimp only at hc ⊢
  unfold State.recallImage
  dsimp only
  rw [hc, h]
  exact ⟨rfl, rfl, congrArg (fun x : Start => ({ set := strapDefaults x.profile } : Committed)) (recallFound_start s o)⟩

/-- The chosen bank's image is loaded, and that bank is the active one (R365, R458). -/
theorem recallImage_some {s : State} {o : RecallObs} {b fell : Bool} (h : s.chosenBank o = some (b, fell)) :
    let q := (s.recallFound o).recallImage o (s.recallFound o).recallCold
    q.start.imgvalid = true ∧ q.start.warm = decide (s.start.cause ≠ 1) ∧ q.start.fullver = decide (s.start.cause = 1) ∧
    q.nv.onB = b ∧ q.c = (s.nv.bank b).img := by
  have hc := recallFound_choose s o
  have hcold : _ = decide (s.start.cause = 1) := (recallFound_cold_of_some h).trans (Bool.beq_eq_decide_eq ..)
  have himg : ((s.recallFound o).nv.bank b).img = (s.nv.bank b).img := by rw [recallFound_nv]; cases b <;> rfl
  dsimp only at hc ⊢
  rw [← himg]
  unfold State.recallImage
  dsimp only
  rw [hc, h, hcold]
  dsimp only
  split
  · rw [post_eq]; exact ⟨rfl, by simp, rfl, rfl, rfl⟩
  · exact ⟨rfl, by simp, rfl, rfl, rfl⟩

/-! ### Recall as a whole -/

/-- What Recall leaves of a start's values, and what it makes of them. -/
theorem recall_start (s : State) (o : RecallObs) :
    (s.recall o).start.recalled = true ∧ (s.recall o).start.stage = s.start.stage := by
  have hr := (recall_recalls s o).start
  have hq := (recallImage_loads (s.recallFound o) o (s.recallFound o).recallCold).start
  refine ⟨by rw [hr], ?_⟩
  rw [hr, ← recallFound_start s o]
  show (State.recallImage _ _ _).start.stage = _
  rw [hq]

/-- Recall leaves the retention memory as it found it; of the values kept beside it, it sets the active bank, the
layout in force and the power-fail record of this start. -/
theorem recall_nv (s : State) (o : RecallObs) : (s.recall o).nv =
    { s.nv.found o with onB := (s.recall o).nv.onB, layout := (s.recall o).c.set.layout
                        pfStart := (s.recall o).nv.pfStart } := by
  have hr := recall_recalls s o
  have hq := (recallImage_loads (s.recallFound o) o (s.recallFound o).recallCold).nv
  rw [recallFound_nv] at hq
  rw [hr.c]
  show _ = ({ s.nv.found o with onB := _, layout := (State.recallImage _ _ _).c.set.layout, pfStart := _ } : Nv)
  rw [hr.nv, hq]

/-- The settings in force at the end of Recall are the loaded ones. -/
theorem recall_act (s : State) (o : RecallObs) : (s.recall o).act = (s.recall o).c.set := by
  rw [(recall_recalls s o).act, (recall_recalls s o).c]; rfl

theorem recall_tiles (s : State) (o : RecallObs) : (s.recall o).tiles = s.tiles := by
  rw [(recall_recalls s o).tiles, (recallImage_loads ..).tiles, recallFound_tiles]

/-- A port that may sink is an unattached sink at the end of Recall, unless the removal of the terminations runs on (R481,
R456). -/
theorem recall_ports {s : State} {o : RecallObs} (hc : s.start.ccOff = false) {p : PortId}
    (hp : (((s.recall o).act.ports)[p]).role.getLsbD 0 = true) :
    (((s.recall o).ports)[p]).state = .unattached ∧ (((s.recall o).ports)[p]).term = .rd ∧
    (((s.recall o).ports)[p]).snkFet = ((s.ports[p]).snkFet && o.rpSeen[p]) := by
  have hr := recall_recalls s o
  have hq := recallImage_loads (s.recallFound o) o (s.recallFound o).recallCold
  rw [hr.act] at hp
  have := hr.ports (by rw [hq.start, recallFound_start]; exact hc) p hp
  rwa [hq.ports, recallFound_ports] at this

/-- Without a bank Recall ends with the strap defaults, no map, and every voice empty. -/
theorem recall_none {s : State} {o : RecallObs} (h : s.chosenBank o = none) :
    (s.recall o).start.imgvalid = false ∧ (s.recall o).start.warm = false ∧
    (s.recall o).c.set = strapDefaults s.start.profile ∧ (s.recall o).c.mapValid = false ∧
    (s.recall o).c.engStop = false ∧ ∀ v : VoiceId, (((s.recall o).c.voices)[v]).state = .empty := by
  have hr := recall_recalls s o
  obtain ⟨hi, hw, hc⟩ := recallImage_none h
  have hv := (hr.voices ⟨hi, fun v => by rw [hc]; simp⟩).2
  refine ⟨by rw [hr.start]; exact hi, by rw [hr.start]; exact hw, ?_, ?_, ?_, hv⟩ <;> rw [hr.c, hc] <;> rfl

/-- With a bank Recall ends with that bank's image. -/
theorem recall_some {s : State} {o : RecallObs} {b fell : Bool} (h : s.chosenBank o = some (b, fell)) :
    (s.recall o).start.imgvalid = true ∧ (s.recall o).nv.onB = b ∧
    (s.recall o).start.warm = decide (s.start.cause ≠ 1) ∧ (s.recall o).start.fullver = decide (s.start.cause = 1) ∧
    (s.recall o).c.set = (s.nv.bank b).img.set ∧ (s.recall o).c.mcount = (s.nv.bank b).img.mcount ∧
    (s.recall o).c.map = (s.nv.bank b).img.map ∧ (s.recall o).c.guard = (s.nv.bank b).img.guard := by
  have hr := recall_recalls s o
  obtain ⟨hi, hw, hf, hb, hc⟩ := recallImage_some h
  refine ⟨by rw [hr.start]; exact hi, by rw [hr.nv]; exact hb, by rw [hr.start]; exact hw, by rw [hr.start]; exact hf,
    ?_, ?_, ?_, ?_⟩ <;> rw [hr.c, hc] <;> rfl

/-! ### Tacet and Muster -/

/-- A command that works under a condition answers, where the condition holds, what it works. -/
theorem Answers.guarded {i : Instr} {s t : State} {P : State → Prop} {c : Prop} [Decidable c]
    (he : exec i s = .next (if c then t else s)) (hc : c) (hp : P t) : Answers i s P :=
  ⟨t, he.trans (by rw [if_pos hc]), hp⟩

/-- A command that ends in the keeper's choice answers what that leaves. -/
theorem Answers.keeperAct {i : Instr} {s x : State} {P : State → Prop} (he : exec i s = .next x.keeperAct)
    (hp : ∀ t, KeeperActs x t → P t) : Answers i s P :=
  ⟨_, he, hp _ (keeperActs_keeperAct x)⟩

/-- Tacet as the end of the reset hold begins it, before the keeper's choice (R453 to R456); `f` counts the LF cycles of
the reset. -/
def State.tacetBegun (s : State) (f : Clock → Clock) : State :=
  let s := s.setClk f
  let s := (s.setKeeper (fun k => { k with regulator := false })).setWd (fun w => { w with hard := false })
  let s := { s with ports := s.ports.map (Port.held .open_) }
  ((s.setStart (fun x => { x with stage := .tacet, ccOff := true, sinceT := 0 })).setMode
    (fun m => { m with tilepwr := true })).setRing (fun _ => tacetRing)

section
variable (s : State) (f : Clock → Clock)

theorem tacetBegun_start : (s.tacetBegun f).start = { s.start with stage := .tacet, ccOff := true, sinceT := 0 } := rfl
theorem tacetBegun_ring : (s.tacetBegun f).ring = tacetRing := rfl
theorem tacetBegun_mode : (s.tacetBegun f).mode = { s.mode with tilepwr := true } := rfl
theorem tacetBegun_clk : (s.tacetBegun f).clk = f s.clk := rfl
theorem tacetBegun_keeper : (s.tacetBegun f).keeper = { s.keeper with regulator := false } := rfl
theorem tacetBegun_nv : (s.tacetBegun f).nv = s.nv := rfl
theorem tacetBegun_tiles : (s.tacetBegun f).tiles = s.tiles := rfl
theorem tacetBegun_ports : (s.tacetBegun f).ports = s.ports.map (Port.held .open_) := rfl

end

theorem execResetHoldEnd_of_held {s : State} (h : s.start.stage = .held ∧ s.start.pfail = false ∧
    s.start.isDorm = false ∧ s.sec.coreReset = false) (lf : Nat) :
    execResetHoldEnd lf s =
      .next (s.tacetBegun (fun c => { (c.lfCount s.act.clk (c.lfRun + lf)) with lfRun := 0 })).keeperAct := by
  unfold execResetHoldEnd State.tacetBegun
  exact if_pos h

/-- The straps that stand after Tacet: sampled where they are due (R8). -/
def Start.strapped (x : Start) : Start :=
  if x.strapDue then { x with profile := x.pinProf, lockdef := x.pinLock, strapDue := false } else x

theorem Start.strapped_of_due {x : Start} (h : x.strapDue = true) :
    Start.strapped x = { x with profile := x.pinProf, lockdef := x.pinLock, strapDue := false } := if_pos h

theorem Start.strapped_of_not_due {x : Start} (h : x.strapDue = false) : Start.strapped x = x :=
  if_neg (by simp [h])

theorem Start.strapped_cause (x : Start) : (Start.strapped x).cause = x.cause := by
  unfold Start.strapped
  split <;> rfl

/-- The end of Tacet, field by field (R454, R8, R388, R420, R438). -/
theorem execTacetEnd_of_tacet {s : State} (h : s.start.stage = .tacet) (n bat : Nat) :
    execTacetEnd n bat s = .next { s with
      clk := s.clk.slow n
      start := { Start.strapped s.start with stage := .recall, sinceT := n }
      mode := { s.mode with tilepwr := true }
      wd := if s.start.cause = 7 then s.wd else { s.wd with count := 0, period := 8192, counting := s.wd.en }
      keeper := { Keeper.safeTrickle { s.keeper with bat := bat } with regulator := false }
      ring := { s.ring with sheds := [] } } := by
  have hwd (t : State) (hc : t.start.cause = s.start.cause) (f : Watchdog → Watchdog) :
      (if t.start.cause = 7 then t else t.setWd f) = { t with wd := if s.start.cause = 7 then t.wd else f t.wd } := by
    rw [hc]
    split <;> rfl
  rw [execTacetEnd, if_pos h]
  dsimp only
  rw [hwd _ (Start.strapped_cause s.start)]
  rfl

/-- Muster's start, apart from the clock: what the watchdog and the free values do is said by the watchdog alone (R463
to R465, R615). -/
theorem musterStart_frame (s : State) (n : Nat) :
    s.musterStart n = { s with
      clk := (s.musterStart n).clk, wd := (s.musterStart n).wd, free := (s.musterStart n).free
      start := { s.start with stage := .muster, meas := 0, mustDone := false, mustto := false }
      sec := { s.sec.untimed with
        sess := s.sec.untimed.sess.map (fun x => { x with open_ := x.open_ || s.sec.level == .develop }) }
      ring := { s.ring with running := true, enumDue := s.ring.enumDue || !s.c.mapValid, firstEcho := true
                            echoDue := true, lastEpoch := s.c.push.carried } } := by
  unfold State.musterStart
  dsimp only
  rw [wdPasses_frame]
  rfl

/-- Muster counts its ticks from its first beat, and elapsed time goes on (R38, R54). -/
theorem musterStart_clk (s : State) (n : Nat) :
    (s.musterStart n).clk.ticks = 0 ∧ (s.musterStart n).clk.elapsed = s.clk.elapsed + BitVec.ofNat 64 n := by
  unfold State.musterStart
  dsimp only
  rw [wdPasses_frame]
  exact ⟨rfl, rfl⟩

/-- At DEVELOP every context is open from the start of Muster, and at the other levels as before (R615). -/
theorem musterStart_isOpen (s : State) (n : Nat) (c : CtxId) :
    (s.musterStart n).isOpen c = (s.isOpen c || s.sec.level == .develop) := by
  rw [musterStart_frame]
  simp [State.isOpen, Sec.untimed, Bool.or_assoc]

/-- Settles O45: each stage's command answers what the spec gives, through the frames of the keeper's choice and of the
watchdog, and Recall through the parts of it. -/
theorem startStages : Obligations.StartStages := by
  unfold Obligations.StartStages
  intro s o n bat b fell usable chosen
  refine ⟨fun hs hp hd hc => ?resetHoldEnd, fun hc => ?ccTerminationRestore, fun hs => ?tacetEnd,
    fun hs hr => ?recallEnd, fun hs hr hn => ?musterStart, fun hs hd hm => ?mustmaxExpire⟩
  case resetHoldEnd =>
    refine Answers.keeperAct (execResetHoldEnd_of_held ⟨hs, hp, hd, hc⟩ n) fun t ht => ?_
    refine ⟨ht.start.trans (tacetBegun_start ..), by rw [ht.ring, tacetBegun_ring]; rfl, by rw [ht.mode, tacetBegun_mode],
      by rw [ht.clk, tacetBegun_clk], by rw [ht.regulator, tacetBegun_keeper], ht.nv.trans (tacetBegun_nv ..),
      ht.tiles.trans (tacetBegun_tiles ..), fun p => ?_⟩
    rw [ht.ports, tacetBegun_ports]
    simp [Port.held]
  case ccTerminationRestore =>
    refine ⟨_, if_pos hc, rfl, rfl, fun p hp => ?_⟩
    rw [Fin.getElem_fin] at hp
    simp [hp]
  case tacetEnd =>
    refine ⟨_, execTacetEnd_of_tacet hs n bat, rfl, Start.strapped_cause _, rfl, rfl, rfl, rfl, rfl, rfl, rfl,
      fun hd => ?_, fun hd => ?_, fun hc => ?_⟩
    · dsimp only
      rw [Start.strapped_of_due hd]
      exact ⟨rfl, rfl, rfl⟩
    · dsimp only
      rw [Start.strapped_of_not_due hd]
      exact ⟨rfl, rfl⟩
    · dsimp only
      rw [if_neg hc]
      exact ⟨rfl, rfl, rfl⟩
  case recallEnd =>
    refine Answers.guarded rfl ⟨hs, hr⟩ ?_
    obtain ⟨hrec, hstage⟩ := recall_start s o
    have hnv := recall_nv s o
    exact ⟨hrec, hstage.trans hs, (congrArg Nv.mem hnv :), (congrArg Nv.bankA hnv :), (congrArg Nv.bankB hnv :),
      (congrArg Nv.inst hnv :), recall_tiles s o, recall_act s o, (congrArg Nv.layout hnv :), fun h p hp => recall_ports h hp,
      fun i hi => by rw [hnv]; exact List.mem_map_of_mem hi, fun i hi => by rw [hnv]; exact List.mem_map_of_mem hi,
      recall_none, recall_some⟩
  case musterStart =>
    refine Answers.guarded rfl ⟨hs, hr, hn⟩ ?_
    have ht := musterStart_frame s n
    obtain ⟨hticks, hel⟩ := musterStart_clk s n
    have hstage : (s.musterStart n).start.stage = .muster := (congrArg (·.start.stage) ht :)
    refine ⟨hstage, (congrArg (·.start.meas) ht :), by rw [State.running, hstage]; rfl, (congrArg (·.ring.running) ht :),
      hticks, hel, (congrArg (·.ring.enumDue) ht :), fun hl c => ?_, fun hl c => ?_, ?_, (congrArg State.c ht :),
      (congrArg State.nv ht :), (congrArg State.tiles ht :)⟩
    · rw [musterStart_isOpen, hl, beq_self_eq_true, Bool.or_true]
    · rw [musterStart_isOpen, beq_false_of_ne hl, Bool.or_false]
    · rw [ht]; rfl
  case mustmaxExpire =>
    refine Answers.guarded rfl ⟨hs, hd, decide_eq_true hm⟩ ?_
    rw [State.musterExpire, post_eq]
    exact ⟨by simp [Posted], rfl⟩

end Sys2Proof.Machine
end

section
/-! SUPPORT. What the named operations of a tile and of a channel leave (chapter 03), and how a command that changes one
tile, or one channel of it, answers. -/

namespace Sys2Proof

theorem Chan.stop_isOff (c : Chan) : c.stop.isOff := ⟨rfl, rfl⟩

/-- A lock command changes the lock and its driver alone (R82, R84). -/
theorem Chan.setLock_frame (c : Chan) (lksafe unl : Bool) :
    c.setLock lksafe unl = { c with
      unlocked := unl, lkshort := (c.setLock lksafe unl).lkshort
      lockTicks := (c.setLock lksafe unl).lockTicks, lockDrv := (c.setLock lksafe unl).lockDrv } := by
  unfold Chan.setLock
  split
  · next h => rw [h]
  · rfl

theorem Chan.toSafe_inSafe (c : Chan) (lksafe : Bool) : (c.toSafe lksafe).inSafe := by
  unfold Chan.toSafe
  rw [Chan.setLock_frame]
  exact ⟨c.stop_isOff, rfl, rfl, rfl, rfl, rfl⟩

/-- Where every pin is an input, none is driven (R87, R93). -/
theorem Tile.driveTio_input {t : Tile} (h : t.tioIn = true) (k : Fin 4) : t.driveTio.tioDrive[k] = false := by
  simp [Tile.driveTio, h]

/-- A tile that enters tile SAFE is as R93 says. -/
theorem Tile.enterSafe_inSafe (t : Tile) : t.enterSafe.inSafe := by
  refine ⟨rfl, fun p => ?_, fun k => Tile.driveTio_input rfl k⟩
  simpa [Tile.enterSafe, Tile.driveTio] using Chan.toSafe_inSafe t.chans[p] t.lksafe

/-- The bays that a SHED set names at a tile (R141): a valid set names those of every tile, or its positions of the one
that it numbers. -/
theorem Tile.namedBy_iff {t : Tile} {x : ShedSet} {p : Pos} : t.namedBy x p = true ↔
    x.valid = true ∧ (x.d1 = 0xFF ∨
      ∃ k : TileNo, t.number = some k ∧ x.d1.toNat = k.val ∧ (x.d2.extractLsb' 4 4).getLsbD p.val = true) := by
  unfold Tile.namedBy
  cases t.number <;> simp

/-- A shed changes only the channels that its set names. -/
theorem Tile.shed_chan (t : Tile) (x : ShedSet) (p : Pos) : ∃ q, (t.shed x).chans[p] =
    if t.namedBy x p = true then t.chans[p].shed q else t.chans[p] :=
  ⟨_, Vector.getElem_ofFn p.isLt⟩

end Sys2Proof

namespace Sys2Proof.Machine

variable {s t : State} {h : Shelf} {p : Pos} {i : Instr} {ok : Bool} {P : State → Prop}

theorem chan_of_tile {u : Tile} (ht : t.tiles[h] = u) : t.chan h p = u.chans[p] := by rw [State.chan, ht]

/-- A command that changes one tile under a condition answers whatever follows, where the condition holds, from the
tile that it makes and the rest as it was. -/
theorem Answers.onTile {f : Tile → Tile} (he : exec i s = .next (s.tileIf h ok f)) (hok : ok = true)
    (hp : ∀ t, OnlyTile h s t → t.tiles[h] = f s.tiles[h] → P t) : Answers i s P :=
  Answers.tile he hok (hp _ (onlyTile_setTile s h f) (setTile_tile s h f))

/-- A command that changes one channel of a tile, with what it reads of the tile, answers whatever follows from that
channel's change. -/
theorem Answers.onChanT {f : Tile → Chan → Chan}
    (he : exec i s = .next (s.tileIf h ok (fun t => t.setChan p (f t)))) (hok : ok = true)
    (hp : ∀ t, OnlyChan h p s t → t.chan h p = f s.tiles[h] (s.chan h p) → P t) : Answers i s P :=
  Answers.tile he hok (hp _ (onlyChan_setTile s h p f) (setChan_chanT s h p f))

/-- The same for a channel of a running tile that changes under a condition on it. -/
theorem Answers.onChan {g : Chan → Bool} {f : Chan → Chan} (he : exec i s = .next (s.chanIf h p g f))
    (hr : s.tiles[h].inReset = false) (hg : g (s.chan h p) = true)
    (hp : ∀ t, OnlyChan h p s t → t.chan h p = f (s.chan h p) → P t) : Answers i s P :=
  Answers.chan he hr hg (hp _ (onlyChan_setChan s h p f) (setChan_chan s h p f))

end Sys2Proof.Machine
end

section
/-! A SHED set at a tile (R91, R140, R141). -/

namespace Sys2Proof.Machine

/-- Settles O7: a set's channels are those of `Tile.namedBy`, and a shed stops each and leaves its attempts. -/
theorem shedStopsNamedBays : Obligations.ShedStopsNamedBays := by
  unfold Obligations.ShedStopsNamedBays
  intro s h x hr
  refine Answers.onTile (f := fun t => t.shed x) rfl (by rw [hr]; rfl) fun t ho ht => ⟨ho, ?_, fun p => ?_⟩
  · rw [ht]
    rfl
  · obtain ⟨q, hq⟩ := s.tiles[h].shed_chan x p
    rw [chan_of_tile ht, hq]
    simp only [Tile.namedBy_iff]
    split
    · exact ⟨Chan.stop_isOff s.tiles[h].chans[p], rfl, rfl, rfl, rfl⟩
    · rfl

end Sys2Proof.Machine
end

section
/-! The tile itself: tile SAFE, reset and release, its supplies and its TIO pins (R75, R82, R87, R88, R90, R92, R93,
R153). -/

namespace Sys2Proof.Machine

/-- Refutes O2: DIE_OVERTEMP keeps in the tile that its die has been hot (Table BT-7), which the statement's record
leaves as it was; at a tile out of reset whose die has not been hot before, this bit changes. -/
theorem not_tileEntersTileSafe : ¬ Obligations.TileEntersTileSafe := by
  unfold Obligations.TileEntersTileSafe
  intro hall
  let s : State := { tiles := Vector.replicate 32 { inReset := false } }
  obtain ⟨-, ⟨t, he, -, -, ht, -⟩, -⟩ := hall s 0 rfl
  have hhot : t.tiles[(0 : Shelf)].dieHot = true := by
    cases he
    rfl
  have hkept : t.tiles[(0 : Shelf)].dieHot = false := congrArg Tile.dieHot ht
  exact Bool.noConfusion (hkept.symm.trans hhot)

/-- Settles O6: a reset leaves a tile's straps and identity, and a release samples LKSAFE into the lock drivers. -/
theorem tileResetAndRelease : Obligations.TileResetAndRelease := by
  unfold Obligations.TileResetAndRelease
  intro s h
  refine ⟨?reset, fun hr hpwr => ?release, fun hpwr => ?unpowered⟩
  case reset =>
    have ht := setTile_tile s h Tile.toReset
    refine ⟨_, rfl, onlyTile_setTile .., ?_⟩
    rw [ht]
    refine ⟨rfl, rfl, rfl, rfl, rfl, rfl, rfl, rfl, fun p => ?_⟩
    rw [chan_of_tile ht]
    simp [Tile.toReset, Chan.isOff]
  case release =>
    refine Answers.onTile rfl (by rw [hr, hpwr]; rfl) fun t ho ht => ⟨ho, ?_⟩
    rw [ht]
    refine ⟨rfl, rfl, rfl, rfl, rfl, fun p => ?_⟩
    rw [chan_of_tile ht]
    simp [State.chan]
  case unpowered =>
    exact congrArg Host.Outcome.next (tileIf_false (by rw [hpwr, Bool.and_false]))

/-- A command that stops the bucks by a supply answers the tile with every channel stopped (R88, Table BT-4). -/
theorem Answers.stopsBucks {i : Instr} {s : State} {h : Shelf} {low ov : Bool} (hr : s.tiles[h].inReset = false)
    (he : exec i s = .next (s.tileIf h (!s.tiles[h].inReset)
      (fun t => { t.stopBucks with vinlow := low, vinov := ov }))) :
    Answers i s (fun t => OnlyTile h s t ∧
      t.tiles[h] = { s.tiles[h] with vinlow := low, vinov := ov, chans := t.tiles[h].chans } ∧
      ∀ p : Pos, t.chan h p = (s.chan h p).stop) := by
  refine Answers.onTile he (by rw [hr]; rfl) fun t ho ht => ⟨ho, by rw [ht]; rfl, fun p => ?_⟩
  rw [chan_of_tile ht]
  simp [Tile.stopBucks, State.chan]

/-- Settles O11: the supplies stop the bucks and release them, and a TIO edge is kept after the samples that its pin
asks for. -/
theorem tileSupplyAndTio : Obligations.TileSupplyAndTio := by
  unfold Obligations.TileSupplyAndTio
  intro s h k lev n hr
  have hrun : (!s.tiles[h].inReset) = true := by rw [hr]; rfl
  refine ⟨?undervoltage, ?overvoltage, ?recover, ?ovClear, fun ⟨hlev, hn⟩ => ?tioEdge⟩
  case undervoltage =>
    exact Answers.stopsBucks hr rfl
  case overvoltage =>
    exact Answers.stopsBucks hr rfl
  case recover =>
    exact Answers.onTile rfl hrun fun t ho ht => ⟨ho, ht⟩
  case ovClear =>
    exact Answers.onTile rfl hrun fun t ho ht => ⟨ho, ht⟩
  case tioEdge =>
    refine Answers.onTile rfl ?_ fun t ho ht => ⟨ho, ht⟩
    rw [hrun, bne_iff_ne.mpr hlev]
    exact decide_eq_true hn

end Sys2Proof.Machine
end

section
/-! One bay's inputs and drivers (R81, R84 to R86, R99, R101). -/

namespace Sys2Proof.Machine

/-- Settles O10: each input or driver event changes its channel as the spec gives, and nothing else. -/
theorem bayInputsAndDrivers : Obligations.BayInputsAndDrivers := by
  unfold Obligations.BayInputsAndDrivers
  intro s h p b us r hr c
  have hrun : (!s.tiles[h].inReset) = true := by rw [hr]; rfl
  refine ⟨fun hd => ?door, fun ⟨hf, ht⟩ => ?lockHold, fun hl => ?lockOvercurrent, fun hl => ?lkopen, fun ha => ?lampA,
    fun hb => ?lampB, fun hp => ?unlockPulse, ?revpolSet, fun hv => ?revpolClear, fun hp => ⟨?probeLow, ?probeRise⟩⟩
  case door =>
    refine Answers.onChanT rfl ?_ fun t ho hc => ⟨ho, hc⟩
    rw [hrun]
    exact bne_iff_ne.mpr hd
  case lockHold =>
    refine Answers.onChan rfl hr ?_ fun t ho hc => ⟨ho, hc⟩
    exact Bool.and_eq_true_iff.mpr ⟨beq_iff_eq.mpr hf, decide_eq_true ht⟩
  case lockOvercurrent =>
    exact Answers.onChan rfl hr (bne_iff_ne.mpr hl) fun t ho hc => ⟨ho, hc⟩
  case lkopen =>
    exact Answers.onChan rfl hr (beq_iff_eq.mpr hl) fun t ho hc => ⟨ho, hc⟩
  case lampA =>
    exact Answers.onChan rfl hr ha fun t ho hc => ⟨ho, hc⟩
  case lampB =>
    exact Answers.onChan rfl hr hb fun t ho hc => ⟨ho, hc⟩
  case unlockPulse =>
    refine Answers.onChanT rfl ?_ fun t ho hc => ⟨ho, ?_⟩
    · rw [hrun]
      exact beq_iff_eq.mpr hp
    · rw [hc, Chan.setLock_frame]
      exact ⟨rfl, rfl, rfl, rfl⟩
  case revpolSet =>
    refine Answers.onChan rfl hr rfl fun t ho hc => ⟨ho, ?_⟩
    rw [hc]
    exact ⟨⟨rfl, rfl⟩, rfl, rfl, fun hp => if_pos hp, rfl⟩
  case revpolClear =>
    exact Answers.onChan rfl hr hv fun t ho hc => ⟨ho, hc⟩
  case probeLow =>
    exact Answers.onChan rfl hr hp fun t ho hc => ⟨ho, hc⟩
  case probeRise =>
    exact Answers.onChan rfl hr hp fun t ho hc => ⟨ho, hc⟩

end Sys2Proof.Machine
end

section
/-! Pulse, rest and protections of a channel (R67 to R77, R95, R200, R258). -/

namespace Sys2Proof

/-- The settings of Table BT-5 and the foldback leave all but the settings, the lock driver and the limit (R76, R95). -/
theorem Chan.takeBt5_refold (c : Chan) (g : BayTileCfg) : (c.takeBt5 g).refold = { c with
    use := { c.use with ramp := g.ramp, plt := g.plt, lkhold := g.lkhold }, lockDrv := (c.takeBt5 g).lockDrv
    isetLim := foldLimit c.order.isetMa c.tj, fold := decide (foldLimit c.order.isetMa c.tj < c.order.isetMa) } := rfl

/-- A pulse start onto a shorted output is a failed attempt (R67, R73). -/
theorem Chan.startPulse_short (c : Chan) (g : BayTileCfg) (vin : Nat) {vout : Nat} (hv : vout < 160) :
    c.startPulse g vin vout =
      { ({ (c.takeBt5 g).refold with retryDue := false } : Chan).failAttempt with preshort := true } :=
  if_pos (decide_eq_true hv)

/-- Any other pulse start lets the buck switch, from a current of zero (R67). -/
theorem Chan.startPulse_ok (c : Chan) (g : BayTileCfg) (vin : Nat) {vout : Nat} (hv : 160 ≤ vout) :
    c.startPulse g vin vout = { (c.takeBt5 g).refold with
      retryDue := false, preshort := false, pulsing := true, isocl := true, vStart := vout
      dropout := !headroom vin vout, rampI := 0, plt := 0, pltGap := 0, clean := 0 } :=
  if_neg (by simpa [voutShort] using hv)

/-- Either way the settings of Table BT-5 take effect (R95). -/
theorem Chan.startPulse_bt5 (c : Chan) (g : BayTileCfg) (vin vout : Nat) :
    let d := c.startPulse g vin vout
    d.use.ramp = g.ramp ∧ d.use.plt = g.plt ∧ d.use.lkhold = g.lkhold := by
  rcases Nat.lt_or_ge vout 160 with hv | hv
  · rw [Chan.startPulse_short c g vin hv]
    exact ⟨rfl, rfl, rfl⟩
  · rw [Chan.startPulse_ok c g vin hv]
    exact ⟨rfl, rfl, rfl⟩

/-- A ramp that has not begun lets no current flow (R67). -/
theorem Chan.limitMa_start {c : Chan} (h : c.rampI = 0) : c.limitMa = 0 := by
  rw [Chan.limitMa, h]
  exact Nat.min_zero _

/-- A channel that starts at its tile: its own change, and the tile's pins (R67, R95). -/
theorem Tile.startPulse_eq (t : Tile) (p : Pos) (vin vout : Nat) : t.startPulse p vin vout =
    { t with tioUse := t.active.tiocfg, tioOut := (t.startPulse p vin vout).tioOut
             tioDrive := (t.startPulse p vin vout).tioDrive
             chans := upd t.chans p (fun c => c.startPulse t.active.bays[p] vin vout) } := rfl

theorem Tile.startPulse_chan (t : Tile) (p : Pos) (vin vout : Nat) :
    (t.startPulse p vin vout).chans[p] = t.chans[p].startPulse t.active.bays[p] vin vout := by
  rw [Tile.startPulse_eq]
  simp

theorem Tile.startPulse_other (t : Tile) {p q : Pos} (vin vout : Nat) (hq : q ≠ p) :
    (t.startPulse p vin vout).chans[q] = t.chans[q] := by
  rw [Tile.startPulse_eq]
  exact upd_other _ _ _ _ hq

/-- The limit condition of R70, after what the ramp and the folded limit let flow. -/
theorem Chan.limited_rampFor (c : Chan) (o : OutSample) : (c.rampFor o.us).limited o = true ↔
    min 21000 (5 * (10 * c.order.iset.toNat) + 1000) ≤ 4 * o.peak ∨ 2 * o.vout < c.vStart ∨
      (o.vout < 160 ∧ 50 ≤ min o.iout
        (min c.isetLim (min (20 * c.order.iset.toNat) (c.rampI + o.us * 2 ^ c.use.ramp.toNat) / 2))) := by
  have h10 : c.order.isetMa = 10 * c.order.iset.toNat := Nat.mul_comm ..
  have h20 : 2 * (10 * c.order.iset.toNat) = 20 * c.order.iset.toNat := by omega
  simp only [Chan.limited, Chan.rampFor, Chan.limitMa, peakLimit4, voutShort, rampStep, h10, h20, Bool.or_eq_true,
    Bool.and_eq_true, decide_eq_true_eq, or_assoc]

/-- A pulsing output under the limit condition lets PLT run (R71). -/
theorem Chan.seeOut_limited {c : Chan} {o : OutSample} (hp : c.pulsing = true)
    (hl : (c.rampFor o.us).limited o = true) :
    c.seeOut o = { c.rampFor o.us with plt := c.plt + o.us, pltGap := 0, clean := 0 } := by
  unfold Chan.seeOut
  rw [if_neg (by simp [hp]), if_pos hl]
  rfl

/-- Without it, the clean time runs, and PLT returns to zero after 100 microseconds (R71, R75). -/
theorem Chan.seeOut_clean {c : Chan} {o : OutSample} (hp : c.pulsing = true)
    (hl : ¬ (c.rampFor o.us).limited o = true) : c.seeOut o = { c.rampFor o.us with
      pltGap := c.pltGap + o.us, plt := if 100 ≤ c.pltGap + o.us then 0 else c.plt, clean := c.clean + o.us } := by
  unfold Chan.seeOut
  rw [if_neg (by simp [hp]), if_neg hl]
  rfl

/-- PLT runs out under the limit condition (R71), -/
theorem Chan.pltDone_of_limited {c : Chan} {o : OutSample} (hp : c.pulsing = true)
    (hl : (c.rampFor o.us).limited o = true) (hlen : 500 * c.use.plt.toNat ≤ c.plt + o.us) :
    (c.seeOuts [o]).pltDone = true := by
  change (c.seeOut o).pltDone = true
  rw [Chan.seeOut_limited hp hl]
  exact Bool.and_eq_true_iff.mpr ⟨hp, decide_eq_true hlen⟩

/-- and does not after 100 microseconds without it. -/
theorem Chan.pltDone_of_clean {c : Chan} {o : OutSample} (hp : c.pulsing = true)
    (hl : ¬ (c.rampFor o.us).limited o = true) (hset : 0 < c.use.plt.toNat) (hus : 100 ≤ o.us) :
    (c.seeOuts [o]).pltDone = false := by
  change (c.seeOut o).pltDone = false
  rw [Chan.seeOut_clean hp hl, if_pos (by omega)]
  refine Bool.and_eq_false_imp.mpr fun _ => decide_eq_false ?_
  change ¬ 500 * c.use.plt.toNat ≤ 0
  omega

/-- A failed attempt counts, and the third locks the channel (R73, R74). -/
theorem Chan.failAttempt_eq (c : Chan) : c.failAttempt =
    { c.stop with att := min 3 (c.att + 1), oclock := c.oclock || min 3 (c.att + 1) == 3
                  retryWait := decide (c.att + 1 < 3) && c.order.mode == 1, retryTicks := 0 } := by
  have h3 : decide (min 3 (c.att + 1) < 3) = decide (c.att + 1 < 3) := decide_eq_decide.mpr (by omega)
  rw [← h3]
  rfl

/-- The folded limit is at most the order's, which holds up to 125 °C, and is zero from 140 °C on (R76). -/
theorem foldLimit_le (iset tj : Nat) : foldLimit iset tj ≤ iset := by
  unfold foldLimit
  split
  · exact Nat.le_refl _
  · refine Nat.div_le_of_le_mul ?_
    rw [Nat.mul_comm iset]
    exact Nat.mul_le_mul_right iset (by omega)

theorem foldLimit_cool (iset : Nat) {tj : Nat} (h : tj ≤ 175 * 64) : foldLimit iset tj = iset := if_pos h

theorem foldLimit_hot (iset : Nat) {tj : Nat} (h : 190 * 64 ≤ tj) : foldLimit iset tj = 0 := by
  unfold foldLimit
  rw [if_neg (by omega), Nat.sub_eq_zero_of_le h, Nat.mul_zero, Nat.zero_div]

/-- A rest holds a channel from a pulse (R67). -/
theorem Chan.mayStart_resting {c : Chan} (h : c.rest.isSome = true) : c.mayStart = false := by
  simp [Chan.mayStart, Option.isNone_eq_false_iff.mpr h]

/-- What a retry that has fallen due leaves of its wait; in a rest it stays due (R73). -/
def Chan.retried (c : Chan) : Chan := { c with retryWait := false, retryDue := c.rest.isSome }

/-- A retry at its tile (R73). -/
def Tile.retry (t : Tile) (p : Pos) (vin vout : Nat) : Tile :=
  if (t.setChan p Chan.retried).pulseOk p then (t.setChan p Chan.retried).startPulse p vin vout
  else t.setChan p Chan.retried

theorem Tile.setChan_same (t : Tile) (p : Pos) (f : Chan → Chan) : (t.setChan p f).chans[p] = f t.chans[p] := by
  simp [Tile.setChan]

theorem Tile.setChan_other (t : Tile) {p q : Pos} (f : Chan → Chan) (hq : q ≠ p) :
    (t.setChan p f).chans[q] = t.chans[q] :=
  upd_other _ _ _ _ hq

/-- In a rest the retry waits, -/
theorem Tile.retry_resting {t : Tile} {p : Pos} (h : t.chans[p].rest.isSome = true) (vin vout : Nat) :
    t.retry p vin vout = t.setChan p Chan.retried := by
  refine if_neg ?_
  rw [Tile.pulseOk, Tile.setChan_same, Chan.mayStart_resting (c := t.chans[p].retried) h, Bool.and_false]
  exact Bool.false_ne_true

/-- and outside it starts where nothing holds the channel. -/
theorem Tile.retry_starting {t : Tile} {p : Pos} (hb : t.buckOk = true) (hm : t.chans[p].retried.mayStart = true)
    (vin vout : Nat) : t.retry p vin vout = (t.setChan p Chan.retried).startPulse p vin vout := by
  refine if_pos ?_
  rw [Tile.pulseOk, Tile.setChan_same]
  exact Bool.and_eq_true_iff.mpr ⟨hb, hm⟩

/-- The limit of a channel under a junction, and its flag (R76). -/
theorem Chan.refold_spec (c : Chan) (tj : Nat) :
    let d := ({ c with tj := tj } : Chan).refold
    let full := 10 * c.order.iset.toNat
    (tj ≤ 175 * 64 → d.isetLim = full ∧ d.fold = false) ∧ (190 * 64 ≤ tj → d.isetLim = 0) ∧ d.isetLim ≤ full ∧
      (d.fold = true ↔ d.isetLim < full) := by
  have hma : c.order.isetMa = 10 * c.order.iset.toNat := Nat.mul_comm ..
  simp only [Chan.refold, hma]
  refine ⟨fun hcool => ?_, foldLimit_hot _, foldLimit_le _ _, decide_eq_true_iff⟩
  rw [foldLimit_cool _ hcool]
  exact ⟨rfl, decide_eq_false (Nat.lt_irrefl _)⟩

/-- When a scheduled rest is due (R129, R199). -/
theorem Chan.restDue_iff {c : Chan} : c.restDue = true ↔ c.restIn = some 0 ∧ c.order.mode = 1 ∧ c.shedS = none := by
  simp [Chan.restDue, and_assoc]

/-- When the window of a rest is over (R200). -/
theorem Chan.windowOver_iff {c : Chan} {us : Nat} :
    c.windowOver us = true ↔ c.winDue = true ∧ ∀ o, c.winOpen = some o → o + 4000 ≤ (us : Int) := by
  unfold Chan.windowOver
  cases c.winOpen <;> simp

/-- When the supplies and the tile let its bucks switch (R88, R92). -/
theorem Tile.buckOk_iff {t : Tile} :
    t.buckOk = true ↔ t.inReset = false ∧ t.safe = false ∧ t.vinlow = false ∧ t.vinov = false := by
  simp [Tile.buckOk, and_assoc]

end Sys2Proof

namespace Sys2Proof.Machine

/-- A change of one tile is what it makes of that tile. -/
theorem tileIf_congr {s : State} {h : Shelf} {f g : Tile → Tile} (hfg : f s.tiles[h] = g s.tiles[h]) (ok : Bool) :
    s.tileIf h ok f = s.tileIf h ok g := by
  simp only [State.tileIf, State.setTile, upd, hfg]

/-- Settles O8: a pulse start and a rest by their equations, and the window's close by the samples that it has taken. -/
theorem pulseAndRestOfChannel : Obligations.PulseAndRestOfChannel := by
  unfold Obligations.PulseAndRestOfChannel
  intro s h p vin vout iout x hr c g r v n starts
  have hrun : (!s.tiles[h].inReset) = true := by rw [hr]; rfl
  refine ⟨fun ⟨hs, hlow, hov, hm⟩ => ?pulse, fun ⟨hs, hin, hmode, hshed⟩ => ?rest, fun ⟨hd, ho⟩ => ?close⟩
  case pulse =>
    have hok : s.tiles[h].pulseOk p = true := Bool.and_eq_true_iff.mpr ⟨Tile.buckOk_iff.mpr ⟨hr, hs, hlow, hov⟩, hm⟩
    have hstart (P : Chan → Prop) (hP : P (c.startPulse g.bays[p] vin vout)) : starts P := by
      refine Answers.onTile (f := fun t => t.startPulse p vin vout) rfl hok fun t ho ht =>
        ⟨ho, by rw [ht]; rfl, fun q hq => ?_, ?_⟩
      · rw [chan_of_tile ht, Tile.startPulse_other _ _ _ hq]
        rfl
      · rw [chan_of_tile ht, Tile.startPulse_chan]
        obtain ⟨hramp, hplt, hlk⟩ := Chan.startPulse_bt5 c g.bays[p] vin vout
        exact ⟨hramp, hplt, hlk, hP⟩
    clear_value starts
    refine ⟨fun hv => ?short, fun hv => ?runs⟩
    case short =>
      refine hstart _ ?_
      rw [Chan.startPulse_short c _ vin hv, Chan.failAttempt_eq, Chan.takeBt5_refold]
      exact ⟨⟨rfl, rfl⟩, rfl, rfl, fun h2 => by simp [h2]⟩
    case runs =>
      refine hstart _ ?_
      rw [Chan.startPulse_ok c _ vin hv, Chan.takeBt5_refold]
      exact ⟨rfl, rfl, rfl, rfl, rfl, rfl, Chan.limitMa_start rfl⟩
  case rest =>
    refine Answers.onChanT rfl ?_ fun t ho hc => ⟨ho, ?_⟩
    · rw [hrun, hs]
      exact Chan.restDue_iff.mpr ⟨hin, hmode, hshed⟩
    · rw [hc]
      exact ⟨⟨rfl, rfl⟩, rfl, rfl, rfl, rfl, rfl⟩
  case close =>
    refine Answers.onChanT rfl ?_ fun t ho hc => ⟨ho, hc⟩
    rw [hrun]
    exact Chan.windowOver_iff.mpr ⟨hd, ho⟩

/-- Settles O9: the protections through a failed attempt, what the output shows through the limit condition, the retry
through the pulse start, and the foldback through its limit. -/
theorem channelProtections : Obligations.ChannelProtections := by
  unfold Obligations.ChannelProtections
  intro s h p tj vin vout o l hr c off fails limit
  have hfails {i : Instr} {g : Chan → Bool} (he : exec i s = .next (s.chanIf h p g Chan.failAttempt))
      (hg : g c = true) : fails i :=
    Answers.onChan he hr hg fun t ho hc => ⟨ho, hc.trans (Chan.failAttempt_eq _)⟩
  have hlimit : (c.rampFor o.us).limited o = true ↔ limit := Chan.limited_rampFor c o
  clear_value fails limit
  have hdue (hw : c.retryWait = true) (hm : c.order.mode = 1) (ht : 990 ≤ c.retryTicks) :
      (!s.tiles[h].inReset && c.retryWait && c.order.mode == 1 && decide (990 ≤ c.retryTicks)) = true := by
    rw [hr, hw, hm, decide_eq_true ht]
    rfl
  refine ⟨fun hp => ⟨?overvoltage, ?fastTrip, fun ⟨hl, hlen⟩ => ?pltRuns, fun ⟨hl, hset, hus⟩ => ?pltEnds,
    fun ⟨hl, hclean⟩ => ?attemptsClear⟩, fun hd => ?plt, fun ⟨hw, hm, ht⟩ => ⟨fun hrest => ?retryWaits,
    fun ⟨hrest, hb, hs, hv⟩ => ?retryStarts⟩, ?thermalStop, fun ht => ?thermalRecover, ?foldback⟩
  case overvoltage =>
    exact Answers.onChan rfl hr hp fun t ho hc => ⟨ho, hc⟩
  case fastTrip =>
    exact hfails rfl hp
  case pltRuns =>
    exact hfails rfl (Chan.pltDone_of_limited hp (hlimit.mpr hl) hlen)
  case pltEnds =>
    have hdone : (c.seeOuts [o]).pltDone = false := Chan.pltDone_of_clean hp (hl ∘ hlimit.mp) hset hus
    exact congrArg Host.Outcome.next (tileIf_false (Bool.and_eq_false_imp.mpr fun _ => hdone))
  case attemptsClear =>
    refine Answers.onChan rfl hr (Bool.and_eq_true_iff.mpr ⟨hp, decide_eq_true ?_⟩) fun t ho hc => ⟨ho, hc⟩
    change 100000 ≤ (c.seeOut o).clean
    rw [Chan.seeOut_clean hp (hl ∘ hlimit.mp)]
    exact hclean
  case plt =>
    exact hfails rfl hd
  case retryWaits =>
    refine Answers.onChanT (f := fun _ => Chan.retried)
      (congrArg Host.Outcome.next (tileIf_congr (Tile.retry_resting hrest vin vout) _)) (hdue hw hm ht)
      fun t ho hc => ⟨ho, ?_⟩
    rw [hc, Chan.retried, hrest]
  case retryStarts =>
    refine Answers.onTile (f := fun t => t.retry p vin vout) rfl (hdue hw hm ht) fun t ho ht => ⟨ho, ?_⟩
    rw [Tile.retry_starting hb hs] at ht
    have hc : t.chan h p = c.retried.startPulse s.tiles[h].active.bays[p] vin vout := by
      rw [chan_of_tile ht, Tile.startPulse_chan, Tile.setChan_same]
      rfl
    rw [Chan.startPulse_ok _ _ _ hv] at hc
    refine ⟨by rw [hc], by rw [hc]; rfl, by rw [hc]; rfl, fun q hq => ?_⟩
    rw [chan_of_tile ht, Tile.startPulse_other _ _ _ hq, Tile.setChan_other _ _ hq]
    rfl
  case thermalStop =>
    exact Answers.onChan rfl hr rfl fun t ho hc => ⟨ho, hc⟩
  case thermalRecover =>
    exact Answers.onChan rfl hr ht fun t ho hc => ⟨ho, hc⟩
  case foldback =>
    refine Answers.onChan rfl hr rfl fun t ho hc => ⟨ho, ?_⟩
    rw [hc]
    exact Chan.refold_spec c tj

end Sys2Proof.Machine
end

section
/-! The CMD frame on the ring, and what a tile writes into the frames that pass (R93, R120, R124, R130, R131, R137,
R146, R174). -/

namespace Sys2Proof

/-- An ERR inside an item leaves no run of bytes (R120). -/
theorem allBytes_err {l : List Byte} {seg pos n : Nat} (hs : seg ≤ n) (hp : pos < l.length) :
    allBytes (asArrived [⟨seg, pos, none⟩] n l) = none := by
  refine allBytes_none _ ?_
  simp only [asArrived, List.foldl_cons, List.foldl_nil, if_pos hs]
  exact List.mem_set (by simpa using hp) none

/-- A CMD frame that an ERR has reached is not received (R124). -/
theorem CmdFrame.arrived_err (f : CmdFrame) {seg pos n : Nat} (hs : seg ≤ n) (hp : pos < f.bytes.length) :
    f.arrived [⟨seg, pos, none⟩] n = none := by
  unfold CmdFrame.arrived CmdFrame.read
  rw [if_pos (by simpa using hs), allBytes_err hs hp]

/-- As a valid copy has passed, a tile accepts the first one, -/
theorem Tile.receiveCmd_first {t : Tile} (h : t.cmdok = false) (f : CmdFrame) :
    Tile.receiveCmd { t with rxCmd := none } f =
      { t with rxCmd := none, cmdHeard := true, accepted := some f, ackseq := f.seq, cmdok := true } :=
  if_neg (by simp [h])

/-- and a further one changes nothing but that it was heard (R130). -/
theorem Tile.receiveCmd_again {t : Tile} (h : t.cmdok = true) (f : CmdFrame) :
    Tile.receiveCmd { t with rxCmd := none } f = { t with rxCmd := none, cmdHeard := true } := if_pos h

/-- Which tiles hear a copy (R135). -/
theorem Tile.hearCopy_eq (t : Tile) (seq : BitVec 8) : t.hearCopy seq =
    if t.inReset = false ∧ t.clk ≠ .unlocked then { t with rxCmd := some seq } else t := by
  simp [Tile.hearCopy]

/-- Overwriting a run without errors leaves none, so the runs stand (R120). -/
theorem upd_overwrite_nil {v : Vector (List Hit) 24} {k : TileNo} (h : v[k] = []) (n m : Nat) :
    upd v k (fun l => overwrite l n m) = v := by
  have hk : overwrite v[k] n m = v[k] := by rw [h]; rfl
  simp only [upd, hk]
  exact Vector.set_getElem_self _

/-- The slot of a numbered tile names its number (R137). -/
theorem Tile.fillSlot_tileno {t : Tile} {k : TileNo} (h : t.number = some k) : t.fillSlot.tileno = k.val := by
  simp only [Tile.fillSlot, h]

/-- A filled slot carries SAFE as the tile latched it or as it is now (R93). -/
theorem Tile.fillSlot_safe (t : Tile) : t.fillSlot.safe = (t.latch.safe || t.safe) := rfl

theorem Tile.unnumber_inSafe (t : Tile) : t.unnumber.inSafe := t.enterSafe_inSafe

end Sys2Proof

namespace Sys2Proof.Machine

/-- What a tile that follows the line makes of a CMD frame that arrives valid at it (R124, R130), -/
theorem execCmdFrameReceive_valid {s : State} {f g : CmdFrame} {h : Shelf} (hf : s.ring.cmd = some f)
    (ha : f.arrived s.ring.cmdHits h.val = some g) : execCmdFrameReceive h s =
      .next (s.tileIf h (!s.tiles[h].inReset && s.tiles[h].clk != .unlocked)
        (fun t => Tile.receiveCmd { t with rxCmd := none } g)) := by
  have hat : s.cmdAt h = some g := by rw [State.cmdAt, hf, Option.bind_some, ha]
  rw [execCmdFrameReceive, if_neg (by simp [hf]), hat]

/-- and of one that does not. -/
theorem execCmdFrameReceive_invalid {s : State} {f : CmdFrame} {h : Shelf} (hf : s.ring.cmd = some f)
    (ha : f.arrived s.ring.cmdHits h.val = none) : execCmdFrameReceive h s =
      .next (s.tileIf h (!s.tiles[h].inReset && s.tiles[h].clk != .unlocked) (fun t => { t with rxCmd := none })) := by
  have hat : s.cmdAt h = none := by rw [State.cmdAt, hf, Option.bind_some, ha]
  rw [execCmdFrameReceive, if_neg (by simp [hf]), hat]

/-- The returned frame stands where it arrives valid (R131), -/
theorem execCmdFrameReturn_valid {s : State} {f : CmdFrame} (hf : s.ring.cmd = some f) (hs : s.ring.rptSent = false)
    (ha : f.arrived s.ring.cmdHits 32 = some f) :
    execCmdFrameReturn s = .next (s.setRing (fun r => { r with cmdBack := true })) := by
  rw [execCmdFrameReturn, hf]
  exact congrArg Host.Outcome.next ((if_neg (by simp [hs])).trans (if_pos (by simp [ha])))

/-- and calls for the repeat copy where it does not. -/
theorem execCmdFrameReturn_invalid {s : State} {f : CmdFrame} (hf : s.ring.cmd = some f) (hs : s.ring.rptSent = false)
    (ha : f.arrived s.ring.cmdHits 32 = none) : execCmdFrameReturn s = .next s.flagRepeat := by
  rw [execCmdFrameReturn, hf]
  exact congrArg Host.Outcome.next ((if_neg (by simp [hs])).trans (if_neg (by simp [ha])))

/-- The repeat copy is due where RPTEN allows it and it has not been sent (R131). -/
theorem flagRepeat_eq {s : State} {f : CmdFrame} (hf : s.ring.cmd = some f) (hs : s.ring.rptSent = false)
    (hen : s.act.ring.rpten = true) : s.flagRepeat = s.setRing (fun r => { r with rptDue := true }) := by
  refine if_pos ?_
  rw [hen, hs, hf]
  rfl

/-- The repeat copy leaves, and the tiles that follow the line hear it (R131, R135). -/
theorem execRepeatCopySend_due {s : State} {f : CmdFrame} (hf : s.ring.cmd = some f) (hs : s.ring.rptSent = false)
    (hd : s.ring.rptDue = true) (ht : s.clk.tick = 0) : execRepeatCopySend s = .next { s with
      tiles := s.tiles.map (fun t => t.hearCopy f.seq)
      ring := { s.ring with
        cmd := some { f with rpt := true }, cmdHits := [], rptDue := false, rptSent := true } } := by
  rw [execRepeatCopySend, hf]
  refine (if_pos ?_).trans rfl
  rw [hd, hs, ht]
  rfl

/-- Settles O13: a tile takes the copy that arrives valid, by the damage before it; the hub notes the returned copy or
makes the repeat copy due, and the repeat copy goes to every tile that follows the line. -/
theorem cmdFrameOnTheRing : Obligations.CmdFrameOnTheRing := by
  unfold Obligations.CmdFrameOnTheRing
  intro s h f seg pos got hf
  refine ⟨fun ⟨hr, hclk⟩ => ?atTile, ?symbolError, fun hsent => ⟨fun hclear => ?returned,
    fun ⟨hen, hhit, hpos⟩ => ?returnedBad, fun ⟨hen, hback⟩ => ?timeout, fun ⟨hdue, htick⟩ => ?repeatCopy⟩⟩
  case atTile =>
    have hfollows : (!s.tiles[h].inReset && s.tiles[h].clk != .unlocked) = true := by
      rw [hr, bne_iff_ne.mpr hclk]
      rfl
    refine ⟨fun hclear => ?valid, fun ⟨hhit, hseg, hpos⟩ => ?damaged⟩
    case valid =>
      have he := execCmdFrameReceive_valid hf (f.arrived_clear s.ring.cmdHits h.val hclear)
      refine ⟨fun hok => ?first, fun hok => ?further⟩
      case first =>
        exact Answers.onTile he hfollows fun t ho ht => ⟨ho, ht.trans (Tile.receiveCmd_first hok f)⟩
      case further =>
        exact Answers.onTile he hfollows fun t ho ht => ⟨ho, ht.trans (Tile.receiveCmd_again hok f)⟩
    case damaged =>
      have he := execCmdFrameReceive_invalid hf (hhit ▸ f.arrived_err hseg hpos)
      exact Answers.onTile he hfollows fun t ho ht => ⟨ho, ht⟩
  case symbolError =>
    exact ⟨_, rfl, rfl⟩
  case returned =>
    have ha : f.arrived s.ring.cmdHits 32 = some f := f.arrived_clear s.ring.cmdHits 32 (by simp [hclear])
    exact ⟨_, execCmdFrameReturn_valid hf hsent ha, rfl⟩
  case returnedBad =>
    have ha : f.arrived s.ring.cmdHits 32 = none := hhit ▸ f.arrived_err (by omega) hpos
    exact ⟨_, execCmdFrameReturn_invalid hf hsent ha, flagRepeat_eq hf hsent hen⟩
  case timeout =>
    exact ⟨_, congrArg Host.Outcome.next (if_neg (by simp [hback])), flagRepeat_eq hf hsent hen⟩
  case repeatCopy =>
    refine ⟨_, execRepeatCopySend_due hf hsent hdue htick, rfl, fun j => ?_⟩
    simp [Tile.hearCopy_eq]

/-! ### The TEL slot and the ECHO entry of a numbered tile -/

/-- A TEL header that no symbol error reached. -/
theorem telAt_clear {s : State} (hh : s.ring.telHead = []) (h : Shelf) (seq : BitVec 8) : s.telAt h seq = true := by
  rw [State.telAt, hh]
  rfl

/-- A slot that no symbol error reached passes FILLED where a tile has filled it, and EMPTY otherwise (R137). -/
theorem slotAt_clear {s : State} {k : TileNo} (hh : s.ring.telHits[k] = []) (h : Shelf) :
    s.slotAt h k = if s.ring.tel[k].isSome then .filled else .empty := by
  rw [State.slotAt, hh]
  rfl

/-- What a tile that follows the line notes as a TEL frame passes: the highest slot FILLED (R155). -/
def State.telNoted (s : State) (h : Shelf) (f : CmdFrame) (t : Tile) : Tile :=
  { t with telSeen := true
           telTop := (((List.finRange 24).filter
             (fun k => decide (k.val < f.ntiles) && s.slotAt h k != .empty)).getLast?).map (·.val) }

/-- What a tile of number `k` does by the class of its slot: it fills an empty one, and becomes unnumbered where another
one has filled it (R137, R174). -/
def State.telAnswer (u : State) (h : Shelf) (k : TileNo) : Passing → Res
  | .err => .next u
  | .filled => .next (u.setTile h Tile.unnumber)
  | .empty => .next (u.setRing (fun r => { r with
      tel := r.tel.set k (some u.tiles[h].fillSlot), telHits := upd r.telHits k (fun l => overwrite l h.val 0) }))

/-- A tile on the ring writes its latency into its entry of an ECHO frame that reaches it undamaged (R146). -/
theorem execEchoFrameWrite_clear {s : State} {h : Shelf} {k : TileNo} {e : Vector (Option Nat) 24}
    (hon : s.tiles[h].onRing = true) (hnum : s.tiles[h].number = some k) (hecho : s.ring.echo = some e)
    (hlt : k.val < s.ntiles) (hhead : s.ring.echoHead = []) (hhits : s.ring.echoHits[k] = []) :
    execEchoFrameWrite h s =
      .next { s with ring := { s.ring with echo := some (e.set k (some s.tiles[h].lat)) } } := by
  rw [execEchoFrameWrite, hecho, hnum]
  refine (if_pos ?_).trans ?_
  · rw [hon, decide_eq_true hlt, hhead]
    rfl
  · simp only [State.setRing, upd_overwrite_nil hhits]

/-- The TEL frame of the measure passes a tile of number `k` that is on the ring, and reaches it undamaged (R136). -/
structure TelPasses (s : State) (h : Shelf) (f : CmdFrame) (k : TileNo) : Prop where
  cmd : s.ring.cmd = some f
  running : s.tiles[h].inReset = false
  follows : s.tiles[h].clk ≠ .unlocked
  onRing : s.tiles[h].bypass = false
  number : s.tiles[h].number = some k
  inFrame : k.val < f.ntiles
  header : s.ring.telHead = []

section
variable {s : State} {h : Shelf} {f : CmdFrame} {k : TileNo} (hp : TelPasses s h f k)
include hp

theorem TelPasses.reaches : ¬ (s.tiles[h].inReset || s.tiles[h].clk == .unlocked || !s.telAt h f.seq) = true := by
  rw [hp.running, beq_false_of_ne hp.follows, telAt_clear hp.header]
  decide

theorem TelPasses.mayWrite : ¬ (s.tiles[h].bypass || decide (f.ntiles ≤ k.val)) = true := by
  rw [hp.onRing, decide_eq_false (Nat.not_le.mpr hp.inFrame)]
  decide

/-- A tile on the ring notes what passes, and answers its slot by the slot's class (R137, R155, R174). -/
theorem execTelSlotWrite_passes :
    execTelSlotWrite h s = (s.setTile h (s.telNoted h f)).telAnswer h k (s.slotAt h k) := by
  rw [execTelSlotWrite, hp.cmd]
  refine (if_neg hp.reaches).trans ?_
  dsimp only
  split
  · next hn =>
      rw [setTile_tile] at hn
      exact absurd (hn.symm.trans hp.number) (Option.some_ne_none k).symm
  · next j hj =>
      rw [setTile_tile] at hj
      obtain rfl : k = j := Option.some.inj (hp.number.symm.trans hj)
      refine (if_neg ?_).trans rfl
      rw [setTile_tile]
      exact hp.mayWrite

/-- It fills a slot that is empty and that no symbol error reached; the errors of the others stand (R120, R137), -/
theorem execTelSlotWrite_empty (hh : s.ring.telHits[k] = []) (he : s.ring.tel[k] = none) : execTelSlotWrite h s =
    .next ((s.setTile h (s.telNoted h f)).setRing
      (fun r => { r with tel := r.tel.set k (some (s.telNoted h f s.tiles[h]).fillSlot) })) := by
  have hslot : s.slotAt h k = .empty := by rw [slotAt_clear hh, he]; rfl
  rw [execTelSlotWrite_passes hp, hslot, ← setTile_tile s h (s.telNoted h f)]
  simp only [State.telAnswer, State.setRing, State.setTile_ring, upd_overwrite_nil hh]

/-- and becomes unnumbered where it is filled (R174). -/
theorem execTelSlotWrite_filled (hh : s.ring.telHits[k] = []) (he : s.ring.tel[k] ≠ none) : execTelSlotWrite h s =
    .next (s.tileIf h true (fun t => (s.telNoted h f t).unnumber)) := by
  have hslot : s.slotAt h k = .filled := by rw [slotAt_clear hh, if_pos (Option.isSome_iff_ne_none.mpr he)]
  rw [execTelSlotWrite_passes hp, hslot]
  simp only [State.telAnswer, State.tileIf, State.setTile, upd_upd, if_true]

end

/-- Settles O14: the noted tile answers its slot by the slot's class, and the ECHO entry takes the tile's latency. -/
theorem tileFillsSlotAndEcho : Obligations.TileFillsSlotAndEcho := by
  unfold Obligations.TileFillsSlotAndEcho
  intro s h f k e hr hclk hby hnum
  have hon : s.tiles[h].onRing = true := by
    rw [Tile.onRing, hr, hby, bne_iff_ne.mpr hclk]
    rfl
  refine ⟨fun ⟨hcmd, hlt, hhead, hhits⟩ => ?tel, fun ⟨hecho, hlt, hhead, hhits⟩ => ?echo⟩
  case tel =>
    have hp : TelPasses s h f k := ⟨hcmd, hr, hclk, hby, hnum, hlt, hhead⟩
    refine ⟨fun hempty => ?empty, fun hfull => ?filled⟩
    case empty =>
      have hu := setTile_tile s h (s.telNoted h f)
      refine ⟨_, execTelSlotWrite_empty hp hhits hempty, rfl, rfl, (onlyTile_setTile s h (s.telNoted h f)).2, ?_,
        fun j hj => ?_, _, Vector.getElem_set_self _, Tile.fillSlot_tileno hnum, fun hsafe => ?_, fun hsafe => ?_, rfl,
        rfl, rfl, rfl, rfl⟩
      · change (s.setTile h (s.telNoted h f)).tiles[h] = { s.tiles[h] with
          telSeen := true, telTop := (s.setTile h (s.telNoted h f)).tiles[h].telTop }
        rw [hu]
        rfl
      · exact Vector.getElem_set_ne k.isLt j.isLt (fun hkj => hj (Fin.ext hkj.symm))
      · rw [Tile.fillSlot_safe]
        exact Bool.or_eq_true_iff.mpr (.inr hsafe)
      · rw [Tile.fillSlot_safe]
        exact (congrArg (s.tiles[h].latch.safe || ·) hsafe).trans (Bool.or_false _)
    case filled =>
      refine Answers.onTile (execTelSlotWrite_filled hp hhits hfull) rfl fun t ho ht => ⟨ho, ?_⟩
      rw [ht]
      exact ⟨rfl, Tile.unnumber_inSafe _⟩
  case echo =>
    exact ⟨_, execEchoFrameWrite_clear hon hnum hecho hlt hhead hhits, rfl⟩

end Sys2Proof.Machine
end

section
/-! SHED sets as they return (R142, R455). -/

namespace Sys2Proof.Machine

/-- The oldest outstanding set that has failed is dropped in Tacet, -/
theorem shedBad_tacet {s : State} {x : ShedOut} {rest : List ShedOut} (hs : s.ring.sheds = x :: rest)
    (hr : s.ring.running = false) : s.shedBad = s.setRing (fun r => { r with sheds := rest }) := by
  rw [State.shedBad, hs]
  exact if_pos (by rw [hr]; rfl)

/-- is sent once more where it has been sent once, -/
theorem shedBad_first {s : State} {x : ShedOut} {rest : List ShedOut} (hs : s.ring.sheds = x :: rest)
    (hr : s.ring.running = true) (ha : x.again = false) :
    s.shedBad = s.setRing (fun r => { r with sheds := rest ++ [{ set := x.set, again := true }] }) := by
  rw [State.shedBad, hs]
  exact (if_neg (by simp [hr])).trans (if_neg (by simp [ha]))

/-- and is reported where it has been sent twice (R142). -/
theorem shedBad_again {s : State} {x : ShedOut} {rest : List ShedOut} (hs : s.ring.sheds = x :: rest)
    (hr : s.ring.running = true) (ha : x.again = true) :
    s.shedBad = (s.setRing (fun r => { r with sheds := rest })).post 0x3003 x.set.d1.toNat x.set.d2.toNat := by
  rw [State.shedBad, hs]
  exact (if_neg (by simp [hr])).trans (if_pos ha)

theorem execShedSetReturn_right {s : State} {x : ShedOut} {rest : List ShedOut} (hs : s.ring.sheds = x :: rest) :
    execShedSetReturn x.set s = .next (s.setRing (fun r => { r with sheds := rest })) := by
  rw [execShedSetReturn, hs]
  exact congrArg Host.Outcome.next (if_pos rfl)

theorem execShedSetReturn_wrong {s : State} {x : ShedOut} {rest : List ShedOut} {got : ShedSet}
    (hs : s.ring.sheds = x :: rest) (hg : got ≠ x.set) : execShedSetReturn got s = .next s.shedBad := by
  rw [execShedSetReturn, hs]
  exact congrArg Host.Outcome.next (if_neg hg)

/-- Settles O16: a set that returns right is taken off the list, and one that fails goes as `State.shedBad` says. -/
theorem shedSetsAreWatched : Obligations.ShedSetsAreWatched := by
  unfold Obligations.ShedSetsAreWatched
  intro s x rest got hs
  refine ⟨fun hg => ?right, fun i hi => ?failed⟩
  case right =>
    exact ⟨_, hg ▸ execShedSetReturn_right hs, rfl⟩
  case failed =>
    have he : exec i s = .next s.shedBad := by
      rcases hi with rfl | ⟨rfl, hg⟩
      · rfl
      · exact execShedSetReturn_wrong hs hg
    exact ⟨fun ⟨hr, ha⟩ => ⟨_, he, shedBad_first hs hr ha⟩, fun ⟨hr, ha⟩ => ⟨_, he, shedBad_again hs hr ha⟩,
      fun hr => ⟨_, he, shedBad_tacet hs hr⟩⟩

end Sys2Proof.Machine
end

section
/-! The hub's service frames: how one goes out, and what its return leads to (R124, R144, R145, R148). -/

namespace Sys2Proof

/-- A service frame that no symbol error reached arrives as it was sent, and its CRCs check. -/
theorem SvcFrame.arrived_nil (f : SvcFrame) (n : Nat) : f.arrived [] n = some (f, true, true) := rfl

/-- A service frame that an ERR has reached is not received (R124). -/
theorem SvcFrame.arrived_err (f : SvcFrame) {seg pos n : Nat} (hs : seg ≤ n) (hp : pos < f.bytes.length) :
    f.arrived [⟨seg, pos, none⟩] n = none := by
  unfold SvcFrame.arrived SvcFrame.read
  rw [if_pos (by simpa using hs), allBytes_err hs hp]

/-- The run of a frame that has come back with its data. -/
def SvcRun.took (x : SvcRun) (d : List Byte) : SvcRun :=
  { x with frame := { x.frame with data := if x.frame.write then x.frame.data else d } }

/-- A run that takes its own data is as it was. -/
theorem SvcRun.took_data (x : SvcRun) : x.took x.frame.data = x := by
  unfold SvcRun.took
  rw [ite_self]

end Sys2Proof

namespace Sys2Proof.Machine

/-- The frame of every job leaves without a STATUS (R144). -/
theorem jobFrame_status (s : State) (j : SvcJob) : (s.jobFrame j).status = 0 := by
  cases j <;> rfl

/-- When the hub may send a service frame. -/
structure MaySend (s : State) : Prop where
  caesura : s.caesura = true
  idle : s.ring.svcLive = false
  noPoll : s.ring.poll = none

theorem MaySend.pass {s : State} (h : MaySend s) : ¬ (!s.caesura || s.ring.svcLive || s.ring.poll.isSome) = true := by
  rw [h.caesura, h.idle, h.noPoll]
  decide

/-- With no frame to repeat, the next job's frame goes out under the next SSEQ (R145, R148), -/
theorem execSvcSend_job {s : State} {j : SvcJob} (hm : MaySend s) (hs : s.ring.svc = none) (hj : s.nextJob = some j) :
    execSvcSend s = .next (s.setRing (fun r => { r with
      svc := some { job := j, frame := { s.jobFrame j with sseq := s.ring.sseq + 1 } }
      svcLive := true, sseq := r.sseq + 1 })) := by
  rw [execSvcSend, if_neg hm.pass, hs, hj]

/-- and a frame that has to be repeated goes out as it was, with its STATUS cleared (R145). -/
theorem execSvcSend_again {s : State} {x : SvcRun} (hm : MaySend s) (hs : s.ring.svc = some x) (hb : x.back = true)
    (hw : x.wait = false) : execSvcSend s = .next (s.setRing (fun r => { r with
      svc := some { x with frame := { x.frame with status := 0, data := if x.frame.write then x.frame.data else [] }
                           back := false, hits := [] }
      svcLive := true })) := by
  rw [execSvcSend, if_neg hm.pass, hs]
  exact if_pos (by rw [hb, hw]; rfl)

/-- A service frame is on the ring, and no join poll is. -/
structure SvcOut (s : State) (x : SvcRun) : Prop where
  noPoll : s.ring.poll = none
  svc : s.ring.svc = some x
  live : s.ring.svcLive = true

theorem execSvcFrameReturn_arrived {s : State} {x : SvcRun} {f : SvcFrame} {hc dc : Bool} (ho : SvcOut s x)
    (ha : x.frame.arrived x.hits 32 = some (f, hc, dc)) :
    execSvcFrameReturn s = .next (s.svcBack (x.took f.data) f.status (hc && dc)) := by
  rw [execSvcFrameReturn, ho.noPoll, ho.svc]
  simp only [ho.live, ha]
  rfl

theorem execSvcFrameReturn_lost {s : State} {x : SvcRun} (ho : SvcOut s x) (ha : x.frame.arrived x.hits 32 = none) :
    execSvcFrameReturn s = .next (s.svcBack x 0 false) := by
  rw [execSvcFrameReturn, ho.noPoll, ho.svc]
  simp only [ho.live, ha]
  rfl

theorem execSvcReturnTimeout_live {s : State} {x : SvcRun} (ho : SvcOut s x) :
    execSvcReturnTimeout s = .next (s.svcBack x 0 false) := by
  rw [execSvcReturnTimeout, ho.noPoll, ho.svc]
  exact congrArg Host.Outcome.next (if_pos ho.live)

/-- The frame of a DLY write serves no push. -/
theorem pushMiss_dly {x : SvcRun} {k : TileNo} (hj : x.job = .dly k) (s : State) : s.pushMiss x = s := by
  rw [State.pushMiss, hj]

section
variable {s : State} {x : SvcRun} {k : TileNo} (hj : x.job = .dly k)
include hj

/-- A DLY write that has been done is due no more (R144), -/
theorem svcBack_dly_done : s.svcBack x 0x01 true =
    (s.setRing (fun r => { r with svc := none, svcLive := false })).setHub k (fun h => { h with dlyDue := false }) := by
  unfold State.svcBack
  simp only [hj]
  rfl

variable {st : BitVec 8} {good : Bool} (hdone : ¬ (st = 0x01 ∧ good = true)) (hrej : st ≠ 0x02)
include hdone hrej

/-- one that has failed is to be repeated after the next measure beat (R145), -/
theorem svcBack_dly_again (ht : x.tries < 4) : s.svcBack x st good = s.setRing (fun r => { r with
    svcLive := false, svc := some { x with back := true, wait := true, tries := x.tries + 1 } }) := by
  unfold State.svcBack
  simp only [hj, if_neg hdone, if_neg hrej, if_pos ht]
  exact pushMiss_dly hj _

/-- and one that has failed for the fourth time is given up with SVCFAIL (R145). -/
theorem svcBack_dly_fails (ht : 4 ≤ x.tries) : s.svcBack x st good =
    ((s.setRing (fun r => { r with svc := none, svcLive := false })).post 0x4007 x.frame.tile.val x.frame.sseq.toNat).setHub k
      (fun h => { h with dlyDue := false }) := by
  unfold State.svcBack
  simp only [hj, if_neg hdone, if_neg hrej, if_neg (Nat.not_lt.mpr ht)]
  exact pushMiss_dly hj _

end

/-- A frame without an answer, or damaged on the way, comes back as one that is not done and not rejected (R145). -/
theorem SvcOut.fails {s : State} {x : SvcRun} (ho : SvcOut s x) {i : Instr} {pos : Nat}
    (hi : i = .svcReturnTimeout ∨ i = .svcFrameReturn ∧
      ((x.hits = [] ∧ (x.frame.status = 0x00 ∨ x.frame.status = 0x03)) ∨
        (x.hits = [⟨32, pos, none⟩] ∧ pos < x.frame.bytes.length))) :
    ∃ st good, exec i s = .next (s.svcBack x st good) ∧ ¬ (st = 0x01 ∧ good = true) ∧ st ≠ 0x02 := by
  rcases hi with rfl | ⟨rfl, ⟨hh, hst⟩ | ⟨hh, hpos⟩⟩
  case inl =>
    exact ⟨0, false, execSvcReturnTimeout_live ho, by decide, by decide⟩
  case inr.inl =>
    refine ⟨x.frame.status, true, ?_, ?_, ?_⟩
    · have he := execSvcFrameReturn_arrived ho (hh ▸ x.frame.arrived_nil 32)
      rwa [SvcRun.took_data] at he
    · rcases hst with h | h <;> simp [h]
    · rcases hst with h | h <;> simp [h]
  case inr.inr =>
    exact ⟨0, false, execSvcFrameReturn_lost ho (hh ▸ x.frame.arrived_err (Nat.le_refl 32) hpos), by decide, by decide⟩

/-- Settles O17: a frame goes out for a job or as a repetition, and what comes back is done, is to be repeated, or fails. -/
theorem hubServiceFrames : Obligations.HubServiceFrames := by
  unfold Obligations.HubServiceFrames
  intro s x t0 pos hpoll
  refine ⟨fun ⟨hrun, hhaul, hsnap, hidle⟩ => ?send, fun ⟨hsvc, hlive, hjob⟩ => ?back⟩
  case send =>
    have hm : MaySend s := ⟨by rw [State.caesura, hrun, hhaul, hsnap]; rfl, hidle, hpoll⟩
    refine ⟨fun j hs hj => ?next, fun ⟨hs, hb, hw⟩ => ?again⟩
    case next =>
      exact ⟨_, execSvcSend_job hm hs hj, rfl, _, rfl, rfl, rfl, jobFrame_status s j⟩
    case again =>
      exact ⟨_, execSvcSend_again hm hs hb hw, rfl, _, rfl, rfl, rfl, rfl⟩
  case back =>
    have ho : SvcOut s x := ⟨hpoll, hsvc, hlive⟩
    refine ⟨fun ⟨hst, hh⟩ => ?done, fun i hi => ?failed⟩
    case done =>
      have he := execSvcFrameReturn_arrived ho (hh ▸ x.frame.arrived_nil 32)
      rw [SvcRun.took_data, hst] at he
      refine ⟨_, he.trans (congrArg Host.Outcome.next (svcBack_dly_done hjob)), rfl, ?_, rfl, fun j hj => ?_⟩
      · simp
      · exact upd_other _ _ _ _ hj
    case failed =>
      obtain ⟨st, good, he, hdone, hrej⟩ := ho.fails hi
      refine ⟨fun ht => ?again, fun ht => ?givenUp⟩
      case again =>
        rw [svcBack_dly_again hjob hdone hrej ht] at he
        exact ⟨_, he, rfl, _, rfl, rfl, rfl, rfl, rfl, rfl⟩
      case givenUp =>
        rw [svcBack_dly_fails hjob hdone hrej ht] at he
        refine ⟨_, he, ?_, ?_, ?_⟩ <;> simp only [post_eq] <;> rfl

end Sys2Proof.Machine
end

section
/-! What a tile answers to service frames and to join polls (R124, R144, R145, R155, R156, R171). -/

namespace Sys2Proof

/-- A service frame to register 0x0020, whose low address byte arrives as 0x21: its header's CRC fails, and that of its data
checks (R124, R125). -/
theorem SvcFrame.arrived_badAddr {seg n : Nat} (hs : seg ≤ n) :
    ({ sseq := 1, tile := 0, write := true, addr := 0x0020, len := 2, data := [0x12, 0x34], status := 0 } :
      SvcFrame).arrived [⟨seg, 5, some 0x21⟩] n =
    some ({ sseq := 1, tile := 0, write := true, addr := 0x0021, len := 2, data := [0x12, 0x34], status := 0 }, false,
      true) := by
  unfold SvcFrame.arrived asArrived
  rw [if_pos (by simpa using hs)]
  simp only [List.foldl_cons, List.foldl_nil, if_pos hs]
  decide +kernel

/-- A write of PENDEPOCH (Table WR-6, R171). -/
theorem Tile.svcWrite_pendEpoch (t : Tile) (a b : Byte) :
    t.svcWrite 0x0002 [a, b] = some { t with pendEpoch := some (a ++ b) } := rfl

/-- Address 0x0003 is no register of the service space (Table WR-6). -/
theorem Tile.svcWrite_unassigned (t : Tile) (d : List Byte) : t.svcWrite 0x0003 d = none := rfl

/-- A read of EPOCH (Table WR-6, R171). -/
theorem Tile.svcRead_epoch (t : Tile) :
    t.svcRead 0x0004 2 = some [t.epoch.extractLsb' 8 8, t.epoch.extractLsb' 0 8] := rfl

end Sys2Proof

namespace Sys2Proof.Machine

/-- A service frame is on the ring, no join poll is, and the tile at `h` is the one that it names and is on the ring. -/
structure SvcFor (s : State) (h : Shelf) (x : SvcRun) : Prop where
  onRing : s.tiles[h].onRing = true
  noPoll : s.ring.poll = none
  svc : s.ring.svc = some x
  live : s.ring.svcLive = true
  number : s.tiles[h].number = some x.frame.tile

/-- An answer to a frame without symbol errors changes its STATUS and, to a read, its data (R144). -/
theorem answer_clear (s : State) (h : Shelf) {x : SvcRun} (hh : x.hits = []) (st : BitVec 8) (d : List Byte) (n : Nat) :
    s.answer h x st d n = s.setRing (fun r => { r with svc := some { x with
      frame := { x.frame with status := st, data := if x.frame.write then x.frame.data else d }, hits := [] } }) := by
  rw [State.answer, hh]
  rfl

section
variable {s : State} {h : Shelf} {x : SvcRun} (hf : SvcFor s h x)
include hf

/-- The tile has to answer a frame of its direction that arrives at it (R144). -/
theorem svcAt_arrived {f : SvcFrame} {hc dc : Bool} (ha : x.frame.arrived x.hits h.val = some (f, hc, dc))
    (ht : f.tile = x.frame.tile) (hst : f.status = 0) : s.svcAt h f.write = some (x, f, hc, dc) := by
  have hown : (f.write == f.write && s.tiles[h].number == some f.tile && f.status == 0) = true := by
    rw [hf.number, ht, hst]
    simp
  rw [State.svcAt, hf.onRing, hf.live, hf.svc]
  simp only [ha, hown, Bool.and_self, if_true]

variable {f : SvcFrame} {hc dc : Bool} (hat : s.svcAt h true = some (x, f, hc, dc))
include hat

/-- A write whose header or data fails its CRC is answered 0x03 (R124, R144), -/
theorem execSvcWrite_badCrc (hcrc : (hc && dc) = false) :
    execSvcWrite h s = .next (s.answer h x 0x03 f.data (11 + f.len)) := by
  rw [execSvcWrite, hf.noPoll, hat]
  exact if_pos hcrc

variable (hcrc : (hc && dc) = true)
include hcrc

/-- one that repeats the SSEQ completed last is answered 0x01 and does not write (R145), -/
theorem execSvcWrite_repeated (haddr : f.addr ≠ 0) (hseq : s.tiles[h].lastSseq = some f.sseq) :
    execSvcWrite h s = .next (s.answer h x 0x01 f.data (11 + f.len)) := by
  rw [execSvcWrite, hf.noPoll, hat]
  exact (if_neg (by simp [hcrc])).trans (if_pos ⟨haddr, hseq⟩)

variable (hseq : s.tiles[h].lastSseq ≠ some f.sseq)
include hseq

/-- one that the service space takes changes the tile, -/
theorem execSvcWrite_written {t : Tile} (hw : s.tiles[h].svcWrite f.addr.toNat f.data = some t) :
    execSvcWrite h s =
      .next ((s.setTile h (fun _ => { t with lastSseq := some f.sseq })).answer h x 0x01 f.data (11 + f.len)) := by
  rw [execSvcWrite, hf.noPoll, hat]
  refine (if_neg (by simp [hcrc])).trans ((if_neg fun g => hseq g.2).trans ?_)
  rw [hw]

/-- and one that it refuses is answered 0x02 (Table WR-6). -/
theorem execSvcWrite_refused (hw : s.tiles[h].svcWrite f.addr.toNat f.data = none) :
    execSvcWrite h s = .next (s.answer h x 0x02 f.data (11 + f.len)) := by
  rw [execSvcWrite, hf.noPoll, hat]
  refine (if_neg (by simp [hcrc])).trans ((if_neg fun g => hseq g.2).trans ?_)
  rw [hw]

end

/-- A read that the service space serves is answered with its data (R144, Table WR-6). -/
theorem execSvcRead_served {s : State} {h : Shelf} {x : SvcRun} {f : SvcFrame} {dc : Bool} {d : List Byte}
    (hat : s.svcAt h false = some (x, f, true, dc)) (hr : s.tiles[h].svcRead f.addr.toNat f.len = some d) :
    execSvcRead h s = .next (s.answer h x 0x01 d 9) := by
  rw [execSvcRead, hat]
  refine (if_neg (by decide)).trans ?_
  rw [hr]

/-- A join poll that reaches a tile on the ring undamaged, and that no tile has answered (R155). -/
structure PollFor (s : State) (h : Shelf) (k : TileNo) : Prop where
  onRing : s.tiles[h].onRing = true
  poll : s.ring.poll = some k
  clear : s.ring.pollHits = []
  unanswered : s.ring.pollStat = 0

section
variable {s : State} {h : Shelf} {k : TileNo} (hp : PollFor s h k)
include hp

theorem execSvcWrite_poll : execSvcWrite h s = .next (s.pollAt h k 0) := by
  rw [execSvcWrite, hp.poll]
  refine (if_pos hp.onRing).trans ?_
  rw [hp.clear, SvcFrame.arrived_nil, State.pollFrame, hp.unanswered]

/-- A tile's answer to a poll without symbol errors is its STATUS (R155). -/
theorem pollAnswer_clear (u : State) (hu : u.ring = s.ring) (st : BitVec 8) :
    u.pollAnswer h st = { u with ring := { s.ring with pollStat := st } } := by
  have hover : overwrite s.ring.pollHits h.val 12 = s.ring.pollHits := by rw [hp.clear]; rfl
  rw [State.pollAnswer, State.setRing, hu, hover]

variable (hnum : s.tiles[h].number = none)
include hnum

/-- A tile without a number takes the polled one where it lies above every slot that it has seen filled, -/
theorem pollAt_takes (ht : ∀ n, s.tiles[h].telTop = some n → n < k.val) : s.pollAt h k 0 =
    { s.setTile h (fun t => { t with number := some k, numBeat := false, held := false }) with
      ring := { s.ring with pollStat := 0x01 } } := by
  unfold State.pollAt
  dsimp only
  rw [hnum]
  refine (if_neg (by decide)).trans ((if_pos ?_).trans (pollAnswer_clear hp (s.setTile h _) rfl 0x01))
  cases htop : s.tiles[h].telTop with
  | none => rfl
  | some n => exact decide_eq_true (ht n htop)

/-- and reports ORDER otherwise (R155, R156). -/
theorem pollAt_order {n : Nat} (htop : s.tiles[h].telTop = some n) (hn : k.val ≤ n) : s.pollAt h k 0 =
    { s with ring := { s.ring with pollStat := 0x04 } } := by
  unfold State.pollAt
  dsimp only
  rw [hnum]
  refine (if_neg (by decide)).trans ((if_neg ?_).trans (pollAnswer_clear hp s rfl 0x04))
  rw [htop]
  simpa using hn

end

/-- Settles O15: a frame that arrives is answered by its CRCs, its SSEQ and the service space, a poll by the number that the
tile has and the slots that it has seen. -/
theorem tileAnswersServiceFrames : Obligations.TileAnswersServiceFrames := by
  unfold Obligations.TileAnswersServiceFrames
  intro s h x k a b seg hr hclk hby answered
  have hon : s.tiles[h].onRing = true := by
    rw [Tile.onRing, hr, hby, bne_iff_ne.mpr hclk]
    rfl
  refine ⟨fun ⟨hpoll, hsvc, hlive, hnum, hst, hh⟩ => ?clear, fun ⟨hpoll, hsvc, hlive, hnum, hframe, hhit, hseg⟩ => ?damaged,
    fun ⟨hpoll, hhits, hstat, hnum⟩ => ?poll⟩
  case clear =>
    have hf : SvcFor s h x := ⟨hon, hpoll, hsvc, hlive, hnum⟩
    have hat := svcAt_arrived hf (hh ▸ x.frame.arrived_nil h.val) rfl hst
    have hans {i : Instr} {st : BitVec 8} {d d' : List Byte} {n : Nat} (he : exec i s = .next (s.answer h x st d' n))
        (hd : (if x.frame.write then x.frame.data else d') = d) : answered i st d :=
      ⟨_, he, hd ▸ answer_clear s h hh st d' n⟩
    clear_value answered
    refine ⟨fun hw => ?write, fun ⟨hw, haddr, hlen⟩ => ?read⟩
    case write =>
      rw [hw] at hat
      refine ⟨fun ⟨haddr, hseq⟩ => ?repeated, fun ⟨haddr, hdata, hseq⟩ => ?pendEpoch, fun ⟨haddr, hseq⟩ => ?refused⟩
      case repeated =>
        exact hans (execSvcWrite_repeated hf hat rfl haddr hseq) (if_pos hw)
      case pendEpoch =>
        have ht := Tile.svcWrite_pendEpoch s.tiles[h] a b
        have he := execSvcWrite_written hf hat rfl hseq (by rw [haddr, hdata]; exact ht)
        rw [answer_clear _ h hh, if_pos hw] at he
        refine ⟨_, he, setTile_tile .., (onlyTile_setTile ..).2, ?_, rfl⟩
        simp only [State.setRing, hh]
      case refused =>
        exact hans (execSvcWrite_refused hf hat rfl hseq (by rw [haddr]; exact Tile.svcWrite_unassigned ..)) (if_pos hw)
    case read =>
      rw [hw] at hat
      exact hans (execSvcRead_served hat (by rw [haddr, hlen]; exact Tile.svcRead_epoch _)) (if_neg (by simp [hw]))
  case damaged =>
    have hf : SvcFor s h x := ⟨hon, hpoll, hsvc, hlive, hnum⟩
    have ha := SvcFrame.arrived_badAddr hseg
    rw [← hframe, ← hhit] at ha
    have hat := svcAt_arrived hf ha (by rw [hframe]) rfl
    refine ⟨_, execSvcWrite_badCrc hf hat rfl, rfl, _, rfl, rfl, ?_⟩
    rw [hframe]
    rfl
  case poll =>
    have hp : PollFor s h k := ⟨hon, hpoll, hhits, hstat⟩
    refine ⟨fun ht => ?takes, fun ⟨n, htop, hn⟩ => ?order⟩
    case takes =>
      exact ⟨_, (execSvcWrite_poll hp).trans (congrArg Host.Outcome.next (pollAt_takes hp hnum ht)), rfl,
        (onlyTile_setTile ..).2, setTile_tile ..⟩
    case order =>
      exact ⟨_, (execSvcWrite_poll hp).trans (congrArg Host.Outcome.next (pollAt_order hp hnum htop hn)), rfl⟩

end Sys2Proof.Machine
end

section
/-! The watchdog's trap and what its SHED set brings about (R263, R391, Table TC-1). -/

namespace Sys2Proof.Machine

/-- The state of the counterexample to O38: in Tutti, with the intake closed, the watchdog is about to expire, and channel
0 of SYS captures the sending of a SHED set with its event enabled. -/
def captureAtTrap : State :=
  { start := { stage := .tutti }, pipe := { closed := true }, wd := { en := true, counting := true, period := 0 }
    act := { timers := (Vector.replicate 16 {}).set 0 { capsel := 0x0A, ie := 0xF } } }

/-- Its trap posts two events: that of the capture, and WDTRAP. -/
theorem captureAtTrap_queue : ((captureAtTrap.trap 1 0).ctxs[ctxSYS]).queue.length = 2 := by
  decide +kernel

/-- The watchdog's period ends in the trap (R391). -/
theorem execWatchdogExpire_due {s : State} (h : s.wdDue = true) (us : Nat) :
    execWatchdogExpire us s = .next (s.trap 1 (s.usNow us)) :=
  congrArg Host.Outcome.next (if_pos h)

/-- Refutes O38: the SHED set of the trap is a capture source (Table TC-1), so a channel of SYS that names it posts its own
event ahead of WDTRAP, and SYS's queue is not the one before with WDTRAP pushed. -/
theorem not_watchdogTrapsAndResets : ¬ Obligations.WatchdogTrapsAndResets := by
  unfold Obligations.WatchdogTrapsAndResets
  intro hall
  obtain ⟨-, -, -, -, hexpire, -⟩ := hall captureAtTrap 0 0 0 0
  obtain ⟨t, he, -, -, -, -, -, -, -, -, hposted, -⟩ := hexpire rfl rfl rfl rfl (by decide)
  have ht : captureAtTrap.trap 1 0 = t :=
    Host.Outcome.next.inj ((execWatchdogExpire_due rfl 0).symm.trans he)
  have hone : (t.ctxs[ctxSYS]).queue.length = 1 := congrArg (·.queue.length) hposted
  rw [← ht, captureAtTrap_queue] at hone
  exact absurd hone (by decide)

end Sys2Proof.Machine
end

section
/-! What the hub's work on one tile number leaves: events and captures beside it, and the frames of a drop, of a step of
qualification and of a bay's pass (R143, R160, R164, R183, R223). -/

namespace Sys2Proof

@[simp] theorem tileOf_bayOf (n : TileNo) (p : Pos) : tileOf (bayOf n p) = n :=
  Fin.ext (show (4 * n.val + p.val) / 4 = n.val by omega)

theorem bayOf_inj {n : TileNo} {p q : Pos} (h : bayOf n p = bayOf n q) : p = q :=
  Fin.ext (by have := congrArg Fin.val h; simp only [bayOf] at this; omega)

/-- What a slot and an ECHO entry have told of a number. -/
def TileHub.told (h : TileHub) : SlotClass × Bool × Bool × BitVec 8 × BitVec 8 × BitVec 8 × BitVec 8 × Nat :=
  (h.cls, h.safe, h.adcfail, h.vin, h.vlog, h.die, h.tio, h.lat)

/-- A ring with what work on a number may change taken from another: the built frame, SHED sets, the service frame, and
whether a repeat copy is due. -/
def Ring.workFrom (x y : Ring) : Ring :=
  { x with built := y.built, sheds := y.sheds, shedCnt := y.shedCnt, svc := y.svc, svcLive := y.svcLive, rptDue := y.rptDue }

/-- The committed state with the bays of another. -/
def Committed.baysFrom (x y : Committed) : Committed := { x with bays := y.bays }

end Sys2Proof

namespace Sys2Proof.Machine

theorem tileOf_of_mem {n : TileNo} {b : Bay} (h : b ∈ baysOf n) : tileOf b = n := by
  simp only [baysOf, List.mem_map] at h
  obtain ⟨p, -, rfl⟩ := h
  exact tileOf_bayOf n p

/-! ### Events and captures -/

/-- What happens beside the hub's records, the bays and the ring: events, captures, pass-throughs, the door's time. -/
structure Aside (s t : State) : Prop where
  tiles : t.tiles = s.tiles
  nv : t.nv = s.nv
  act : t.act = s.act
  c : t.c = s.c
  ring : t.ring = s.ring
  hub : t.hub = s.hub
  bays : t.bays = s.bays

theorem aside_refl (s : State) : Aside s s := ⟨rfl, rfl, rfl, rfl, rfl, rfl, rfl⟩

theorem Aside.trans {s t u : State} (h : Aside s t) (g : Aside t u) : Aside s u where
  tiles := Eq.trans g.tiles h.tiles
  nv := Eq.trans g.nv h.nv
  act := Eq.trans g.act h.act
  c := Eq.trans g.c h.c
  ring := Eq.trans g.ring h.ring
  hub := Eq.trans g.hub h.hub
  bays := Eq.trans g.bays h.bays

theorem Aside.ite {c : Prop} [Decidable c] {s t u : State} (h : Aside s t) (g : Aside s u) : Aside s (if c then t else u) := by
  split
  · exact h
  · exact g

theorem Aside.foldl {α : Type} {f : State → α → State} (h : ∀ s x, Aside s (f s x)) :
    ∀ (l : List α) (s : State), Aside s (l.foldl f s)
  | [], s => aside_refl s
  | x :: l, s => (h s x).trans (Aside.foldl h l (f s x))

theorem aside_setTimer (s : State) (n : TimerId) (f : TimerSt → TimerSt) : Aside s (s.setTimer n f) :=
  ⟨rfl, rfl, rfl, rfl, rfl, rfl, rfl⟩

theorem aside_setPt (s : State) (c : Fin 5) (b : Bay) (f : PtBox → PtBox) : Aside s (s.setPt c b f) :=
  ⟨rfl, rfl, rfl, rfl, rfl, rfl, rfl⟩

theorem aside_freeNat (s : State) : Aside s s.freeNat.2 := ⟨rfl, rfl, rfl, rfl, rfl, rfl, rfl⟩

theorem aside_postTo (s : State) (c : CtxId) (code a0 a1 : Nat) : Aside s (s.postTo c code a0 a1) := by
  unfold State.postTo
  refine .ite (aside_refl s) ?_
  exact Aside.trans (t := s.setCtx c _) ⟨rfl, rfl, rfl, rfl, rfl, rfl, rfl⟩
    (.ite ⟨rfl, rfl, rfl, rfl, rfl, rfl, rfl⟩ (aside_refl _))

theorem aside_post (s : State) (code a0 a1 : Nat) : Aside s (s.post code a0 a1) := aside_postTo ..

theorem aside_postAlso (s : State) (l : List Tenant) (code a0 a1 : Nat) : Aside s (s.postAlso l code a0 a1) :=
  (aside_post s code a0 a1).trans (.foldl (fun _ _ => aside_postTo ..) l _)

theorem aside_pushCapture (s : State) (n : TimerId) (w : Word) (src : BitVec 8) : Aside s (s.pushCapture n w src) := by
  unfold State.pushCapture
  exact .ite ((aside_setTimer s n _).trans (.ite (aside_postTo ..) (aside_refl _))) (aside_setTimer s n _)

theorem aside_captureGroup (s : State) (n : TimerId) (x : State) : Aside s (s.captureGroup n x) :=
  .foldl (fun _ _ => aside_pushCapture ..) _ s

/-- A capture takes counts into the channels' queues, and posts their events. -/
theorem aside_captureFrom (s : State) (src : BitVec 8) : Aside s (s.captureFrom src) := by
  refine .foldl (fun t n => ?_) _ s
  exact .ite ((aside_freeNat t).trans (aside_captureGroup ..)) (aside_refl t)

theorem aside_doorCapture (s : State) (b : Bay) (tick us : Nat) (rising : Bool) :
    Aside s (s.doorCapture b tick us rising) := by
  refine .foldl (fun t n => ?_) _ s
  refine .ite (aside_refl t) (.ite (aside_refl t) (.foldl (fun u x => ?_) _ t))
  dsimp only
  split
  · split
    · exact aside_pushCapture ..
    · exact (aside_freeNat u).trans (aside_pushCapture ..)
  · exact aside_refl u

theorem aside_ptFail (s : State) (c : Fin 5) (b : Bay) (cause : BitVec 3) : Aside s (s.ptFail c b cause) :=
  ⟨rfl, rfl, rfl, rfl, rfl, rfl, rfl⟩

theorem aside_filePt (s : State) (n : TileNo) (p : Pos) (x : TelBay) : Aside s (s.filePt n p x) := by
  unfold State.filePt
  dsimp only
  split
  · exact aside_refl s
  · exact .ite (aside_setPt ..) (.ite (aside_setPt ..) (.ite (aside_ptFail ..) (aside_refl s)))

/-! ### Work on one number -/

/-- What the hub's work on its tile numbers leaves. -/
structure HubWork (s t : State) : Prop where
  tiles : t.tiles = s.tiles
  nv : t.nv = s.nv
  act : t.act = s.act
  c : t.c = Committed.baysFrom s.c t.c
  ring : t.ring = Ring.workFrom s.ring t.ring
  rptDue : s.ring.rptDue = true → t.ring.rptDue = true

/-- What work on number `n` leaves besides: the other numbers and their bays, what slots have told of `n`, and a stale
count of 0. -/
structure TileWork (n : TileNo) (s t : State) : Prop extends HubWork s t where
  hub : ∀ j : TileNo, j ≠ n → t.hub[j] = s.hub[j]
  bays : ∀ b : Bay, tileOf b ≠ n → t.bays[b] = s.bays[b]
  runs : ∀ b : Bay, tileOf b ≠ n → t.c.bays[b] = s.c.bays[b]
  told : (t.hub[n]).told = (s.hub[n]).told
  fresh : (s.hub[n]).stale = 0 → (t.hub[n]).stale = 0

theorem hubWork_refl (s : State) : HubWork s s := ⟨rfl, rfl, rfl, rfl, rfl, id⟩

theorem HubWork.trans {s t u : State} (h : HubWork s t) (g : HubWork t u) : HubWork s u where
  tiles := Eq.trans g.tiles h.tiles
  nv := Eq.trans g.nv h.nv
  act := Eq.trans g.act h.act
  c := by rw [g.c, h.c]; rfl
  ring := by rw [g.ring, h.ring]; rfl
  rptDue := g.rptDue ∘ h.rptDue

theorem Aside.hubWork {s t : State} (h : Aside s t) : HubWork s t where
  tiles := h.tiles
  nv := h.nv
  act := h.act
  c := by rw [h.c]; rfl
  ring := by rw [h.ring]; rfl
  rptDue := by rw [h.ring]; exact id

section
variable {n : TileNo} {s t u : State}

theorem tileWork_refl (n : TileNo) (s : State) : TileWork n s s :=
  ⟨hubWork_refl s, fun _ _ => rfl, fun _ _ => rfl, fun _ _ => rfl, rfl, id⟩

theorem TileWork.trans (h : TileWork n s t) (g : TileWork n t u) : TileWork n s u where
  toHubWork := h.toHubWork.trans g.toHubWork
  hub j hj := (g.hub j hj).trans (h.hub j hj)
  bays b hb := (g.bays b hb).trans (h.bays b hb)
  runs b hb := (g.runs b hb).trans (h.runs b hb)
  told := Eq.trans g.told h.told
  fresh := g.fresh ∘ h.fresh

theorem TileWork.ite {c : Prop} [Decidable c] (h : TileWork n s t) (g : TileWork n s u) :
    TileWork n s (if c then t else u) := by
  split
  · exact h
  · exact g

theorem Aside.tileWork (h : Aside s t) : TileWork n s t where
  toHubWork := h.hubWork
  hub j _ := by rw [h.hub]
  bays b _ := by rw [h.bays]
  runs b _ := by rw [h.c]
  told := by rw [h.hub]
  fresh := by rw [h.hub]; exact id

theorem TileWork.foldl {α : Type} {f : State → α → State} (l : List α) (h : ∀ s, ∀ x ∈ l, TileWork n s (f s x)) (s : State) :
    TileWork n s (l.foldl f s) := by
  induction l generalizing s with
  | nil => exact tileWork_refl n s
  | cons x l ih =>
    exact (h s x (List.mem_cons_self ..)).trans (ih (fun s y hy => h s y (List.mem_cons_of_mem x hy)) (f s x))

/-- Work on each bay of the number. -/
theorem TileWork.foldl_bays {f : State → Bay → State} (h : ∀ s b, tileOf b = n → TileWork n s (f s b)) (s : State) :
    TileWork n s ((baysOf n).foldl f s) :=
  .foldl _ (fun s b hb => h s b (tileOf_of_mem hb)) s

theorem tileWork_setHub (s : State) {f : TileHub → TileHub} (ht : ∀ h, (f h).told = h.told)
    (hf : ∀ h : TileHub, h.stale = 0 → (f h).stale = 0) : TileWork n s (s.setHub n f) where
  toHubWork := ⟨rfl, rfl, rfl, rfl, rfl, id⟩
  hub j hj := upd_other _ _ _ _ hj
  bays _ _ := rfl
  runs _ _ := rfl
  told := by simpa using ht _
  fresh := by simpa using hf _

theorem tileWork_setBay (s : State) {b : Bay} (hb : tileOf b = n) (f : BayVol → BayVol) : TileWork n s (s.setBay b f) where
  toHubWork := ⟨rfl, rfl, rfl, rfl, rfl, id⟩
  hub _ _ := rfl
  bays _ hd := upd_other _ _ _ _ (fun h => hd (h ▸ hb))
  runs _ _ := rfl
  told := rfl
  fresh := id

theorem tileWork_setRun (s : State) {b : Bay} (hb : tileOf b = n) (f : BayRun → BayRun) : TileWork n s (s.setRun b f) where
  toHubWork := ⟨rfl, rfl, rfl, rfl, rfl, id⟩
  hub _ _ := rfl
  bays _ _ := rfl
  runs _ hd := upd_other _ _ _ _ (fun h => hd (h ▸ hb))
  told := rfl
  fresh := id

theorem tileWork_setBoth (s : State) {b : Bay} (hb : tileOf b = n) (x : BayVol × BayRun) : TileWork n s (s.setBoth b x) :=
  (tileWork_setBay s hb _).trans (tileWork_setRun _ hb _)

theorem tileWork_setRing (s : State) {f : Ring → Ring} (hf : ∀ r, f r = Ring.workFrom r (f r))
    (hr : ∀ r : Ring, r.rptDue = true → (f r).rptDue = true) : TileWork n s (s.setRing f) where
  toHubWork := ⟨rfl, rfl, rfl, rfl, hf _, hr _⟩
  hub _ _ := rfl
  bays _ _ := rfl
  runs _ _ := rfl
  told := rfl
  fresh := id

/-! ### Drops, steps of qualification and idle bays -/

theorem tileWork_keepBits (s : State) : TileWork n s (s.keepBits n) :=
  .foldl_bays (fun _ _ hb => tileWork_setBay _ hb _) s

theorem tileWork_endPulse (s : State) {b : Bay} (hb : tileOf b = n) : TileWork n s (s.endPulse b) := by
  unfold State.endPulse
  exact .ite ((tileWork_setRun s hb _).trans (tileWork_setBay _ hb _)) (tileWork_refl n s)

theorem tileWork_stopBays (s : State) (mask : BitVec 4) : TileWork n s (s.stopBays n mask) :=
  .foldl _ (fun _ _ _ => .ite (tileWork_setBay _ (tileOf_bayOf ..) _) (tileWork_refl n _)) s

theorem tileWork_sendShed (s : State) (x : ShedSet) : TileWork n s (s.sendShed x) := by
  unfold State.sendShed
  refine (tileWork_setRing s ?_ ?_).trans (aside_captureFrom ..).tileWork
  · exact fun _ => rfl
  · exact fun _ => id

theorem tileWork_shedTile (s : State) (mask : BitVec 4) : TileWork n s (s.shedTile n mask) := by
  unfold State.shedTile
  refine .ite (tileWork_refl n s) (.ite ?_ (.ite ?_ (tileWork_refl n s)))
  · exact (tileWork_stopBays ..).trans (tileWork_sendShed ..)
  · exact ((tileWork_stopBays ..).trans (tileWork_sendShed ..)).trans (tileWork_setRing _ (fun _ => rfl) (fun _ => id))

theorem tileWork_offRecord (s : State) {b : Bay} (hb : tileOf b = n) : TileWork n s (s.offRecord b) := by
  unfold State.offRecord
  have hpipe (u : State) (f : Pipe → Pipe) : Aside u (u.setPipe f) := ⟨rfl, rfl, rfl, rfl, rfl, rfl, rfl⟩
  exact ((tileWork_setBay s hb _).trans (hpipe ..).tileWork).trans (tileWork_setRing _ (fun _ => rfl) (fun _ => id))

theorem tileWork_baysAbsent (s : State) : TileWork n s (s.baysAbsent n) :=
  .foldl_bays (fun _ _ hb => tileWork_setBay _ hb _) s

/-- A drop (R164). -/
theorem tileWork_dropTile (s : State) (cause : Nat) : TileWork n s (s.dropTile n cause) := by
  unfold State.dropTile
  extract_lets kept ended off absent cut gone
  have hkept : TileWork n s kept := .ite (tileWork_keepBits s) (tileWork_refl n s)
  have hended : TileWork n kept ended := .foldl_bays (fun _ _ hb => tileWork_endPulse _ hb) kept
  have hoff : TileWork n ended off :=
    (tileWork_shedTile ended 15).trans (TileWork.foldl_bays (f := State.offRecord) (fun _ _ hb => tileWork_offRecord _ hb) _)
  have hcut : TileWork n absent cut := .foldl_bays (fun _ _ hb => tileWork_setRun _ hb _) absent
  have hgone : TileWork n cut gone := tileWork_setHub cut (fun _ => rfl) fun _ _ => rfl
  exact ((((hkept.trans hended).trans hoff).trans (tileWork_baysAbsent off)).trans (hcut.trans hgone)).trans
    (aside_postAlso ..).tileWork

theorem tileWork_setQual (s : State) (q : Qual) : TileWork n s (s.setQual n q) := tileWork_setHub s (fun _ => rfl) fun _ => id

theorem tileWork_dropSvc (s : State) : TileWork n s (s.dropSvc n) := by
  unfold State.dropSvc
  split
  · exact .ite (tileWork_setRing s (fun _ => rfl) (fun _ => id)) (tileWork_refl n s)
  · exact tileWork_refl n s

theorem tileWork_abandon (s : State) : TileWork n s (s.abandon n) :=
  (tileWork_dropSvc s).trans (tileWork_setHub _ (fun _ => rfl) fun _ => id)

theorem tileWork_failStep (s : State) (step : Nat) : TileWork n s (s.failStep n step) := by
  unfold State.failStep
  refine .ite (tileWork_setHub s (fun _ => rfl) fun _ => id) ?_
  have habsent : TileWork n s (if (s.hub[n]).present then s.baysAbsent n else s) :=
    .ite (tileWork_baysAbsent s) (tileWork_refl n s)
  refine ((habsent.trans (tileWork_setQual _ .unnumber)).trans (tileWork_setHub _ ?_ ?_)).trans (aside_post ..).tileWork
  · exact fun _ => rfl
  · exact fun _ => id

theorem tileWork_idleBay (s : State) {b : Bay} (hb : tileOf b = n) : TileWork n s (s.idleBay b) := tileWork_setBoth s hb _

theorem tileWork_idleBays (s : State) : TileWork n s (s.idleBays n) := .foldl_bays (fun _ _ hb => tileWork_idleBay _ hb) s

theorem tileWork_noteApplied (s : State) {b : Bay} (hb : tileOf b = n) (x : TelSlot) :
    TileWork n s (s.noteApplied b x) := by
  unfold State.noteApplied
  split
  · exact tileWork_refl n s
  · exact .ite (tileWork_setBay s hb _) (tileWork_refl n s)

theorem tileWork_staleBay (s : State) {b : Bay} (hb : tileOf b = n) : TileWork n s (s.staleBay b) :=
  ((tileWork_idleBay s hb).trans (tileWork_setBay _ hb _)).trans (tileWork_noteApplied _ hb _)

/-- A bay that starts anew (R164, R225). -/
theorem tileWork_emptyBay (s : State) {b : Bay} (hb : tileOf b = n) : TileWork n s (s.emptyBay b) := tileWork_setBoth s hb _

end

/-! ### Work on all numbers -/

theorem HubWork.ite {c : Prop} [Decidable c] {s t u : State} (h : HubWork s t) (g : HubWork s u) :
    HubWork s (if c then t else u) := by
  split
  · exact h
  · exact g

theorem HubWork.foldl {α : Type} {f : State → α → State} (h : ∀ s x, HubWork s (f s x)) :
    ∀ (l : List α) (s : State), HubWork s (l.foldl f s)
  | [], s => hubWork_refl s
  | x :: l, s => (h s x).trans (HubWork.foldl h l (f s x))

/-- Work on the hub's numbers that leaves what slots and ECHO entries have told of each. -/
structure ToldWork (s t : State) : Prop extends HubWork s t where
  told : ∀ j : TileNo, (t.hub[j]).told = (s.hub[j]).told

theorem toldWork_refl (s : State) : ToldWork s s := ⟨hubWork_refl s, fun _ => rfl⟩

theorem ToldWork.trans {s t u : State} (h : ToldWork s t) (g : ToldWork t u) : ToldWork s u :=
  ⟨h.toHubWork.trans g.toHubWork, fun j => (g.told j).trans (h.told j)⟩

theorem ToldWork.ite {c : Prop} [Decidable c] {s t u : State} (h : ToldWork s t) (g : ToldWork s u) :
    ToldWork s (if c then t else u) := by
  split
  · exact h
  · exact g

theorem ToldWork.foldl {α : Type} {f : State → α → State} (h : ∀ s x, ToldWork s (f s x)) :
    ∀ (l : List α) (s : State), ToldWork s (l.foldl f s)
  | [], s => toldWork_refl s
  | x :: l, s => (h s x).trans (ToldWork.foldl h l (f s x))

theorem TileWork.toldWork {n : TileNo} {s t : State} (h : TileWork n s t) : ToldWork s t := by
  refine ⟨h.toHubWork, fun j => ?_⟩
  by_cases hj : j = n
  · rw [hj, h.told]
  · rw [h.hub j hj]

theorem Aside.toldWork {s t : State} (h : Aside s t) : ToldWork s t := (h.tileWork (n := 0)).toldWork

/-! ### A fold that sets one part of the state once -/

section
variable {α β : Type} {f : State → α → State} {g : State → β}

/-- A fold whose every step leaves a part of the state leaves it. -/
theorem foldl_keeps (l : List α) (h : ∀ s, ∀ x ∈ l, g (f s x) = g s) (s : State) : g (l.foldl f s) = g s := by
  induction l generalizing s with
  | nil => rfl
  | cons x l ih =>
    exact (ih (fun s y hy => h s y (List.mem_cons_of_mem x hy)) (f s x)).trans (h s x (List.mem_cons_self ..))

/-- A fold over a list that holds the one step by which a part of the state is set sets it. -/
theorem foldl_sets {a : α} {v : β} (hset : ∀ s, g (f s a) = v) (hkeep : ∀ s x, x ≠ a → g (f s x) = g s) {l : List α}
    (ha : a ∈ l) (s : State) : g (l.foldl f s) = v := by
  induction l generalizing s with
  | nil => cases ha
  | cons x l ih =>
    by_cases hl : a ∈ l
    · exact ih hl (f s x)
    · obtain rfl : a = x := (List.mem_cons.mp ha).resolve_right hl
      exact (foldl_keeps l (fun s y hy => hkeep s y fun h => hl (h ▸ hy)) _).trans (hset s)

end

end Sys2Proof.Machine
end

section
/-! The ECHO frame, join polls, the full enumeration and the end of a rejoin timer (R146 to R148, R155, R157, R158, R160,
R164, R168). -/

namespace Sys2Proof.Machine

/-! ### The ECHO frame -/

/-- An ECHO frame goes out where none is on the ring and one is due (R146, R148). -/
theorem execEchoSend_due {s : State} (hc : s.caesura = true) (he : s.ring.echo = none)
    (hdue : s.ring.echoDue = true ∨ s.c.mcount.toNat % (16 * 4 ^ s.act.ring.echoper.toNat) = 0) :
    execEchoSend s = .next (s.setRing (fun r => { r with
      echo := some (Vector.replicate 24 none), echoHead := [], echoHits := Vector.replicate 24 [], echoSeq := r.echoSeq + 1
      echoDue := false })) := by
  refine congrArg Host.Outcome.next (if_pos ?_)
  rw [hc, he, echoEvery]
  rcases hdue with h | h <;> simp [h]

/-- What the return of an ECHO frame with the entries `seen` makes of the hub's records, before what it leads to. -/
structure EchoTaken (s : State) (seen : Vector (Option Nat) 24) (u : State) : Prop where
  frame : u = { s with hub := u.hub, ring := { s.ring with firstEcho := false } }
  good : ∀ (k : TileNo) (l : Nat), seen[k] = some l → k.val < s.ntiles → (u.hub[k]).lat = l
  bad : ∀ k : TileNo, seen[k] = none → (u.hub[k]).lat = (s.hub[k]).lat

/-- An ECHO frame's return takes the latencies, and goes on with steps of qualification and events (R146, R160, R289). -/
theorem echoBack_taken (s : State) (seen : Vector (Option Nat) 24) (trip : Nat) :
    ∃ u, EchoTaken s seen u ∧ ToldWork u (s.echoBack seen trip) := by
  unfold State.echoBack
  extract_lets n good heard lat d far any first u posted
  refine ⟨u, ⟨rfl, fun k l hk hn => ?_, fun k hk => ?_⟩, ?_⟩
  · show (heard.hub[k]).lat = l
    simp only [Fin.getElem_fin] at hk
    simp [heard, hk, good, hn, n]
  · show (heard.hub[k]).lat = _
    simp only [Fin.getElem_fin] at hk
    simp [heard, hk]
  · have hposted : ToldWork u posted := .foldl (fun t k => .ite (aside_post ..).toldWork (toldWork_refl t)) _ u
    refine hposted.trans (.foldl (fun t k => ?_) _ posted)
    have hset (v : State) {f : TileHub → TileHub} (ht : ∀ h, (f h).told = h.told)
        (hf : ∀ h : TileHub, h.stale = 0 → (f h).stale = 0) : ToldWork v (v.setHub k f) :=
      (tileWork_setHub v ht hf).toldWork
    refine ToldWork.trans (t := if good k && !any then t.setHub k _ else t) ?_ (.ite (.ite ?_ (.ite ?_ ?_)) (toldWork_refl _))
    · exact .ite (hset t (fun _ => rfl) fun _ => id) (toldWork_refl t)
    · exact (tileWork_failStep _ 3).toldWork
    · exact hset _ (fun _ => rfl) fun _ => id
    · exact (tileWork_setQual _ .telem).toldWork.trans (hset _ (fun _ => rfl) fun _ => id)

/-- What follows from an ECHO frame's return: the latencies, and what the rest of it leaves. -/
theorem EchoTaken.returned {s u t : State} {seen : Vector (Option Nat) 24} (hu : EchoTaken s seen u) (hw : ToldWork u t)
    (he : s.ring.echo = none) :
    t.ring.echo = none ∧ t.ring.firstEcho = false ∧ t.tiles = s.tiles ∧ t.c = Committed.baysFrom s.c t.c ∧ t.nv = s.nv ∧
    t.ring.cmd = s.ring.cmd ∧ (∀ (k : TileNo) (l : Nat), seen[k] = some l → k.val < s.ntiles → (t.hub[k]).lat = l) ∧
    ∀ k : TileNo, seen[k] = none → (t.hub[k]).lat = (s.hub[k]).lat := by
  have hf := hu.frame
  have hring : u.ring = { s.ring with firstEcho := false } := by rw [hf]
  have hc : u.c = s.c := by rw [hf]
  have hlat (k : TileNo) : (t.hub[k]).lat = (u.hub[k]).lat := congrArg (·.2.2.2.2.2.2.2) (hw.told k)
  refine ⟨?_, ?_, ?_, hc ▸ hw.c, ?_, ?_, fun k l hk hn => (hlat k).trans (hu.good k l hk hn),
    fun k hk => (hlat k).trans (hu.bad k hk)⟩
  · rw [hw.ring, hring]
    exact he
  · rw [hw.ring, hring]
    rfl
  · rw [hw.tiles, hf]
  · rw [hw.nv, hf]
  · rw [hw.ring, hring]
    rfl

/-- An ECHO frame that returns is on the ring no more, and each of its entries is taken as it reports; where its header has
been hit, every entry is BAD (R124, R146). -/
theorem execEchoReturn_some {s : State} {e : Vector (Option Nat) 24} (he : s.ring.echo = some e) (trip : Nat) :
    ∃ (seen : Vector (Option Nat) 24) (trip' : Nat),
      execEchoReturn trip s = .next ((s.setRing (fun r => { r with echo := none })).echoBack seen trip') ∧
      (∀ k : TileNo, s.ring.echoHead = [] → s.ring.echoHits[k] = [] → seen[k] = e[k]) ∧
      ∀ k : TileNo, s.ring.echoHead ≠ [] → seen[k] = none := by
  unfold execEchoReturn
  rw [he]
  cases hh : s.ring.echoHead with
  | nil =>
    refine ⟨s.echoEntries e, trip, rfl, fun k _ hk => ?_, fun k h => absurd rfl h⟩
    simp only [Fin.getElem_fin] at hk
    simp [State.echoEntries, echoSeen, hk]
  | cons x l =>
    refine ⟨Vector.replicate 24 none, 0, ?_, fun k h => absurd h (by simp), fun k _ => by simp⟩
    rw [State.echoLost, he]
    rfl

/-! ### Join polls, enumeration, rejoin -/

/-- In Muster the join poll that Recall has left goes out (R157, R465). -/
theorem execJoinPollSend_muster {s : State} {k : TileNo} {rest : List TileNo} (hc : s.caesura = true)
    (hlive : s.ring.svcLive = false) (hp : s.ring.poll = none) (he : s.ring.enum_ = none)
    (hm : s.ring.mustPoll = k :: rest) (ht : s.inTutti = false) :
    execJoinPollSend s = .next (s.setRing (fun r => { r with
      mustPoll := rest, poll := some k, pollStat := 0, pollHits := [] })) := by
  rw [execJoinPollSend, if_neg (by simp [hc, hlive, hp]), he, hm]
  exact congrArg Host.Outcome.next (if_neg (by simp [ht]))

/-- A full enumeration that is due drops the tiles that are present, empties the map and begins with number 0 (R157). -/
theorem execFullEnumeration_due {s : State} (hr : s.running = true) (hd : s.ring.enumDue = true) :
    ∃ u, HubWork s u ∧ execFullEnumeration s = .next { u with
      c := { u.c with map := Vector.replicate 24 none, mapValid := false }
      hub := u.hub.map TileHub.forEnum
      ring := { u.ring with
        enumDue := false, enum_ := some 0, poll := none, svc := none, svcLive := false, mustPoll := [] } } := by
  unfold execFullEnumeration
  rw [if_pos (by rw [hr, hd]; rfl)]
  extract_lets dropped unmapped anew
  have hw : HubWork s dropped := .foldl (fun t _ => .ite (tileWork_dropTile t 4).toHubWork (hubWork_refl t)) _ s
  clear_value dropped
  exact ⟨dropped, hw, rfl⟩

/-- When the rejoin timer of a number has run out (R164). -/
theorem execRejoinTimerEnd_due {s : State} {k : TileNo} (hr : s.hub[k].rejoin = true)
    (ht : s.hub[k].dropTick + 100 * s.act.ring.rejoin.toNat ≤ s.clk.ticks) :
    execRejoinTimerEnd k s =
      .next (((baysOf k).foldl State.emptyBay s).setHub k (fun h => { h with rejoin := false })) :=
  congrArg Host.Outcome.next (if_pos (Bool.and_eq_true_iff.mpr ⟨hr, decide_eq_true ht⟩))

/-- Bays that start anew hold nothing (R164, R225). -/
theorem emptyBays_run (s : State) (k : TileNo) (p : Pos) : (((baysOf k).foldl State.emptyBay s).c.bays)[bayOf k p] = {} := by
  refine foldl_sets (a := bayOf k p) (g := fun t : State => t.c.bays[bayOf k p]) (fun t => ?_) (fun t b hb => ?_) ?_ s
  · simp [State.emptyBay, State.setBoth, State.setRun]
  · exact upd_other _ _ _ _ hb.symm
  · exact List.mem_map_of_mem (List.mem_finRange p)

/-- Settles O18: an ECHO frame's return through what it takes and what it leads to, the enumeration and the rejoin timer's
end through what the hub's work on a number leaves. -/
theorem ringMembershipCommands : Obligations.RingMembershipCommands := by
  unfold Obligations.RingMembershipCommands
  intro s k rest trip lat e
  refine ⟨fun ⟨hrun, hhaul, hsnap⟩ => ?caesura, fun he => ?echoReturn, fun ⟨hrun, hdue⟩ => ?enumeration,
    fun ⟨hr, ht⟩ => ?rejoin⟩
  case caesura =>
    have hc : s.caesura = true := by
      rw [State.caesura, hrun, hhaul, hsnap]
      rfl
    refine ⟨fun ⟨he, hdue⟩ => ?echoSend, fun ⟨hlive, hp, he, hm, hst⟩ => ?pollSend⟩
    case echoSend =>
      exact ⟨_, execEchoSend_due hc he hdue, rfl⟩
    case pollSend =>
      exact ⟨_, execJoinPollSend_muster hc hlive hp he hm (by rw [State.inTutti, hst]; rfl), rfl⟩
  case echoReturn =>
    obtain ⟨seen, trip', hx, hclear, hhit⟩ := execEchoReturn_some he trip
    obtain ⟨u, hu, hw⟩ := echoBack_taken (s.setRing (fun r => { r with echo := none })) seen trip'
    obtain ⟨hecho, hfirst, htiles, hc, hnv, hcmd, hgood, hbad⟩ := hu.returned hw rfl
    refine ⟨_, hx, hecho, hfirst, htiles, by rw [hc]; rfl, by rw [hc]; rfl, hnv, hcmd, fun ⟨hh, hk, hl, hn⟩ => ?_, fun hh => ?_⟩
    · exact hgood k lat ((hclear k hh hk).trans hl) hn
    · exact hbad k (hhit k hh)
  case enumeration =>
    obtain ⟨u, hw, hx⟩ := execFullEnumeration_due hrun hdue
    refine ⟨_, hx, rfl, rfl, rfl, rfl, fun j => ?_, ?_, ?_, hw.nv⟩
    · simp [TileHub.forEnum, TileHub.present]
    · show u.c.voices = s.c.voices
      rw [hw.c]
      rfl
    · show u.c.set = s.c.set
      rw [hw.c]
      rfl
  case rejoin =>
    have hempty : TileWork k s ((baysOf k).foldl State.emptyBay s) := .foldl_bays (fun _ _ hb => tileWork_emptyBay _ hb) s
    have hw := hempty.trans (tileWork_setHub _ (f := fun h => { h with rejoin := false }) (fun _ => rfl) fun _ => id)
    refine ⟨_, execRejoinTimerEnd_due hr ht, by simp, fun p => ?_, fun j hj => ⟨hw.hub j hj, fun p => hw.runs _ ?_⟩,
      ?_, ?_, hw.nv, hw.tiles⟩
    · rw [State.setHub_c, emptyBays_run]
      exact ⟨rfl, rfl⟩
    · rw [tileOf_bayOf]
      exact hj
    · rw [hw.c]
      rfl
    · rw [hw.c]
      rfl

end Sys2Proof.Machine
end

section
/-! Face takes the slots and closes its intake (R139, R160, R163, R164, R172, R177, R178, R183). -/

namespace Sys2Proof

/-! ### The class of a slot -/

theorem TelBay.bytes_length (b : TelBay) : b.bytes.length = 11 := rfl

/-- A filled slot has 54 bytes (Table RG-5). -/
theorem TelSlot.bytes_length (x : TelSlot) : x.bytes.length = 54 := by
  simp [TelSlot.bytes, withCrc, wordBytes, TelBay.bytes_length]

/-- SLOTST of a filled slot says so. -/
theorem TelSlot.slotst_filled (x : TelSlot) : x.slotst.getLsbD 7 = true := by
  simp only [TelSlot.slotst, BitVec.getLsbD_append]
  rfl

/-- A filled slot that an ERR has reached is BAD (R120, R139). -/
theorem slotSeen_err (n : TileNo) (x : TelSlot) {seg pos : Nat} (hs : seg ≤ 32) (hp : pos < 54) :
    slotSeen n (some x) [⟨seg, pos, none⟩] = .bad := by
  have hall : allBytes (asArrived [⟨seg, pos, none⟩] 32 x.bytes) = none := allBytes_err hs (by rwa [x.bytes_length])
  have hst : ((asArrived [⟨seg, pos, none⟩] 32 x.bytes).drop 1).head? = some (if pos = 1 then none else some x.slotst) := by
    simp only [asArrived, List.foldl_cons, List.foldl_nil, if_pos hs]
    match pos with
    | 0 => rfl
    | 1 => rfl
    | k + 2 => rfl
  show classify n _ = _
  unfold classify
  rw [show slotBytes (some x) = x.bytes from rfl, hst, hall]
  by_cases h1 : pos = 1
  · simp [h1]
  · simp [h1, x.slotst_filled]

/-! ### What Screen leaves of a latch -/

/-- What a latch shows of a bay, whatever Screen decides: that it is live, its door and its flags (Table PL-2). -/
def BayVol.shown (v : BayVol) : BitVec 2 × Bool × BitVec 8 := (v.tilest, v.door, v.flags)

/-- Whichever of two results stands, it shows what both show. -/
theorem shown_ite {α : Type} {c : Prop} [Decidable c] {x y : BayVol × α} {w : BitVec 2 × Bool × BitVec 8}
    (hx : x.1.shown = w) (hy : y.1.shown = w) : (if c then x else y).1.shown = w := by
  split
  · exact hx
  · exact hy

theorem crush_shown (e : BayEnv) (v : BayVol) (r : BayRun) (t : TelBay) (safe : Bool) :
    (crush e v r t safe).1.shown = (0, t.door, t.flags) := rfl

theorem BayVol.fileAux_shown (v : BayVol) (sel : BitVec 4) (aux : BitVec 17) : (v.fileAux sel aux).shown = v.shown := by
  unfold BayVol.fileAux
  dsimp only
  split
  · rfl
  · split
    · rfl
    · split <;> rfl

theorem pulseMeas_shown (e : BayEnv) (v : BayVol) (t : TelBay) : (pulseMeas e v t).shown = v.shown := by
  unfold pulseMeas
  extract_lets pt sum cnt began ends inPulse w
  have hw : w.shown = v.shown := rfl
  split
  · exact hw
  · split <;> exact hw

theorem chargeOrders_shown (e : BayEnv) (v : BayVol) (r : BayRun) : (chargeOrders e v r).1.shown = v.shown := by
  unfold chargeOrders
  extract_lets v' r'
  exact shown_ite rfl (shown_ite rfl rfl)

theorem resumeStep_shown (e : BayEnv) (v : BayVol) (r : BayRun) : (resumeStep e v r).1.shown = v.shown := by
  unfold resumeStep
  extract_lets badLen badV badT badS bits
  exact shown_ite rfl (shown_ite rfl rfl)

theorem detectIdent_shown (e : BayEnv) (v : BayVol) (r : BayRun) : (detectIdent e v r).1.shown = v.shown :=
  shown_ite rfl rfl

/-- A step of detection, -/
theorem detect_shown (e : BayEnv) (v : BayVol) (r : BayRun) (t : TelBay) : (detect e v r t).1.shown = v.shown := by
  unfold detect
  split
  case h_1 => exact shown_ite rfl (shown_ite rfl (detectIdent_shown e v r))
  case h_2 => exact shown_ite rfl (shown_ite (detectIdent_shown ..) rfl)
  case h_3 => exact detectIdent_shown e v r
  case h_4 => exact shown_ite rfl (detectIdent_shown e v r)

/-- detection from its start, -/
theorem detectFrom_shown (e : BayEnv) (v : BayVol) (t : TelBay) : (detectFrom e v t).1.shown = v.shown := by
  have hv : (enterDetect v t).shown = v.shown := BayVol.fileAux_shown ..
  exact shown_ite hv ((detect_shown ..).trans hv)

/-- and a move of the pack state leave what the latch shows. -/
theorem packMove_shown (e : BayEnv) (v : BayVol) (r : BayRun) (t : TelBay) : (packMove e v r t).1.shown = v.shown := by
  unfold packMove
  extract_lets miss nack anew gone n w
  have hanew : anew.1.shown = v.shown := detectFrom_shown e v t
  have hw : w.shown = v.shown := rfl
  split
  case h_1 | h_2 =>
    exact shown_ite rfl (shown_ite rfl (shown_ite (shown_ite hanew rfl) rfl))
  case h_3 =>
    refine shown_ite rfl (shown_ite hw ?_)
    split
    case h_1 => exact (detect_shown ..).trans hw
    case h_2 =>
      exact shown_ite hw (shown_ite (shown_ite ((detectFrom_shown ..).trans hw) (shown_ite hw hw)) hw)
    case h_3 => exact hw

theorem packStep_shown (e : BayEnv) (v : BayVol) (r : BayRun) (t : TelBay) : (packStep e v r t).1.shown = v.shown :=
  shown_ite (packMove_shown e v r t) (packMove_shown e v r t)

theorem screenCharge_shown (e : BayEnv) (v : BayVol) (r : BayRun) (t : TelBay) (vinlow vinov : Bool) :
    (screenCharge e v r t vinlow vinov).1.shown = v.shown := by
  unfold screenCharge
  extract_lets ends r'
  refine shown_ite rfl (shown_ite rfl ?_)
  split
  · rfl
  · exact shown_ite (resumeStep_shown e v r') rfl

/-- Screen leaves what the latch shows of a bay (R184). -/
theorem screen_shown (e : BayEnv) (v : BayVol) (r : BayRun) (t : TelBay) (vinlow vinov clkhold : Bool) :
    (screen e v r t vinlow vinov clkhold).1.shown = v.shown := by
  unfold screen
  extract_lets x v' r' o y z
  have hx : x.1.shown = v.shown := pulseMeas_shown e v t
  have hy : y.1.shown = v.shown := ((packStep_shown ..).trans (chargeOrders_shown ..)).trans hx
  exact shown_ite hy ((screenCharge_shown ..).trans hy)

end Sys2Proof
end

section
namespace Sys2Proof.Machine

/-! ### The turn of a slot, and its class -/

/-- Face takes the slot whose turn it is (R177, R178). -/
theorem execFaceSlot_turn {s : State} {n : TileNo} (hi : s.intake = true) (hn : n.val < s.ntiles)
    (hp : ∀ k : TileNo, s.hub[k].cls = .pending ↔ n ≤ k) (bad : BitVec 4) :
    execFaceSlot n bad s = .next (s.faceSlot n bad) := by
  have hturn : s.slotTurn n = true := by
    simp only [State.slotTurn, Bool.and_eq_true, decide_eq_true_eq, List.all_eq_true, beq_iff_eq]
    exact ⟨hn, fun k _ => Bool.eq_iff_iff.mpr (by simpa using hp k)⟩
  exact congrArg Host.Outcome.next (if_pos (by rw [hi, hturn]; rfl))

/-- A BAD slot calls for the repeat copy (R131, R139), -/
theorem faceSlot_bad {s : State} {n : TileNo} (h : slotSeen n s.ring.tel[n] s.ring.telHits[n] = .bad) (bad : BitVec 4) :
    s.faceSlot n bad = (s.setHub n (fun h => { h with cls := .bad })).flagRepeat := by
  rw [State.faceSlot, h]

/-- an EMPTY one changes its class alone, -/
theorem faceSlot_empty {s : State} {n : TileNo} (h : slotSeen n s.ring.tel[n] s.ring.telHits[n] = .empty) (bad : BitVec 4) :
    s.faceSlot n bad = s.setHub n (fun h => { h with cls := .empty }) := by
  rw [State.faceSlot, h]

/-- The record of a number that has taken a slot (R79, R139). -/
def State.slotTaken (s : State) (n : TileNo) (x : TelSlot) : State :=
  s.setHub n (fun h => h.takeSlot x (s.ring.lastEpoch.setWidth 8))

/-- and a VALID one goes on with its number's qualification and the bays (R160, R179, R183). -/
def State.slotJudged (s : State) (n : TileNo) (x : TelSlot) : State :=
  let u := (s.slotTaken n x).slotQual n x
  if x.cmdok then u else u.flagRepeat

theorem faceSlot_valid {s : State} {n : TileNo} {x : TelSlot}
    (h : slotSeen n s.ring.tel[n] s.ring.telHits[n] = .valid x) (bad : BitVec 4) :
    s.faceSlot n bad =
      if ((s.slotJudged n x).hub[n]).present then
        (List.finRange 4).foldl (fun s p => s.faceBay n x bad p) (s.slotJudged n x)
      else if ((s.slotJudged n x).hub[n]).dropMeas then s.slotJudged n x
      else (s.slotJudged n x).idleBays n := by
  rw [State.faceSlot, h]
  rfl

/-! ### What a VALID slot leaves -/

/-- A call for the repeat copy changes that mark alone (R131). -/
theorem flagRepeat_frame (s : State) :
    s.flagRepeat = { s with ring := { s.ring with rptDue := s.flagRepeat.ring.rptDue } } := by
  unfold State.flagRepeat
  split <;> rfl

theorem tileWork_flagRepeat (n : TileNo) (s : State) : TileWork n s s.flagRepeat :=
  .ite (tileWork_setRing s (fun _ => rfl) fun _ _ => rfl) (tileWork_refl n s)

section
variable {n : TileNo}

theorem tileWork_slotQual (s : State) (x : TelSlot) : TileWork n s (s.slotQual n x) := by
  have hhub (u : State) {f : TileHub → TileHub} (ht : ∀ h, (f h).told = h.told)
      (hf : ∀ h : TileHub, h.stale = 0 → (f h).stale = 0) : TileWork n u (u.setHub n f) := tileWork_setHub u ht hf
  have hr := tileWork_refl n s
  have ha := tileWork_abandon (n := n) s
  unfold State.slotQual
  extract_lets h u
  split
  case h_1 => exact .ite hr ((tileWork_setQual s .identify).trans (hhub _ (fun _ => rfl) fun _ => id))
  case h_2 | h_3 | h_4 => exact .ite ha hr
  case h_5 =>
    refine .ite ha (.ite hr (.ite (tileWork_failStep s 4) (.ite (hhub s (fun _ => rfl) fun _ => id) ?_)))
    exact (tileWork_setQual s .exit).trans (hhub _ (fun _ => rfl) fun _ _ => rfl)
  case h_6 =>
    have hu : TileWork n s u := hhub s (fun _ => rfl) fun _ => id
    exact .ite hu (.ite (hu.trans (hhub u (fun _ => rfl) fun _ => id)) (.ite (hu.trans (tileWork_failStep u 5)) hu))
  case h_7 => exact .ite ((tileWork_idleBays s).trans (tileWork_dropTile _ 2)) hr
  case h_8 => exact hr

/-- A change of a bay and of its charge. -/
theorem setBoth_bay (s : State) (b : Bay) (x : BayVol × BayRun) : ((s.setBoth b x).bays)[b] = x.1 := by
  simp [State.setBoth, State.setRun]

theorem aside_setMode (s : State) (f : ModeSt → ModeSt) : Aside s (s.setMode f) := ⟨rfl, rfl, rfl, rfl, rfl, rfl, rfl⟩

/-- Work on one bay of a number, which leaves its other bays as well. -/
structure BayWork (n : TileNo) (p : Pos) (s t : State) : Prop extends TileWork n s t where
  other : ∀ q : Pos, q ≠ p → t.bays[bayOf n q] = s.bays[bayOf n q]

variable {p : Pos} {s t u : State}

theorem BayWork.trans (h : BayWork n p s t) (g : BayWork n p t u) : BayWork n p s u :=
  ⟨h.toTileWork.trans g.toTileWork, fun q hq => (g.other q hq).trans (h.other q hq)⟩

theorem BayWork.ite {c : Prop} [Decidable c] (h : BayWork n p s t) (g : BayWork n p s u) :
    BayWork n p s (if c then t else u) := by
  split
  · exact h
  · exact g

theorem Aside.bayWork (h : Aside s t) : BayWork n p s t := ⟨h.tileWork, fun q _ => by rw [h.bays]⟩

theorem bayWork_setBay (s : State) (f : BayVol → BayVol) : BayWork n p s (s.setBay (bayOf n p) f) :=
  ⟨tileWork_setBay s (tileOf_bayOf n p) f, fun _ hq => upd_other _ _ _ _ (fun h => hq (bayOf_inj h))⟩

theorem bayWork_setRun (s : State) (f : BayRun → BayRun) : BayWork n p s (s.setRun (bayOf n p) f) :=
  ⟨tileWork_setRun s (tileOf_bayOf n p) f, fun _ _ => rfl⟩

theorem bayWork_setBoth (s : State) (x : BayVol × BayRun) : BayWork n p s (s.setBoth (bayOf n p) x) :=
  (bayWork_setBay s _).trans (bayWork_setRun _ _)

theorem bayWork_noteApplied (s : State) (x : TelSlot) : BayWork n p s (s.noteApplied (bayOf n p) x) := by
  unfold State.noteApplied
  split
  · exact (aside_refl s).bayWork
  · exact .ite (bayWork_setBay s _) (aside_refl s).bayWork

theorem noteApplied_shown (s : State) (b : Bay) (x : TelSlot) :
    ((s.noteApplied b x).bays[b]).shown = (s.bays[b]).shown := by
  unfold State.noteApplied
  split
  · rfl
  · dsimp only
    split
    · simp [BayVol.shown, BayVol.took]
    · rfl

/-- Crusher and Screen work on their bay alone (R179, R198). -/
theorem bayWork_faceBay (s : State) (x : TelSlot) (bad : BitVec 4) : BayWork n p s (s.faceBay n x bad p) := by
  have hr (v : State) : BayWork n p v v := (aside_refl v).bayWork
  unfold State.faceBay
  extract_lets b y r idled e filed captured timed screened graded judged
  refine BayWork.trans (t := judged) (.ite ?bad ?good) (bayWork_noteApplied judged x)
  case bad =>
    have hidled : BayWork n p s idled := (bayWork_setRun s _).trans (bayWork_setBoth _ _)
    exact (hidled.trans (bayWork_setBay _ _)).trans (aside_postAlso ..).bayWork
  case good =>
    have hfiled : BayWork n p s filed := (bayWork_setBoth s _).trans (aside_filePt ..).bayWork
    have hcaptured : BayWork n p filed captured := .ite (aside_doorCapture ..).bayWork (hr filed)
    have htimed : BayWork n p captured timed := .ite (hr captured) (aside_setMode ..).bayWork
    have hscreened : BayWork n p timed screened := bayWork_setBoth timed _
    have hgraded : BayWork n p screened graded := bayWork_setBay screened _
    refine (hfiled.trans (hcaptured.trans (htimed.trans (hscreened.trans hgraded)))).trans (.ite ?_ (hr graded))
    exact (Aside.foldl (fun _ _ => aside_setPt ..) _ graded).bayWork

/-- The bay of a good record shows what the record carries (R179, R183). -/
theorem faceBay_shown (s : State) {bad : BitVec 4} (hb : bad.getLsbD p.val = false) (x : TelSlot) :
    ((s.faceBay n x bad p).bays[bayOf n p]).shown = (0, (x.bays[p]).door, (x.bays[p]).flags) := by
  unfold State.faceBay
  extract_lets b y r idled e filed captured timed screened graded judged
  rw [noteApplied_shown]
  have hjudged : judged = if graded.bays[b].safety = .offclr then
      (List.finRange 5).foldl (fun s c => s.setPt c b PtBox.gone) graded else graded := if_neg (ne_true_of_eq_false hb)
  have hbays : judged.bays = graded.bays := by
    rw [hjudged]
    exact (Aside.ite (.foldl (fun _ _ => aside_setPt ..) _ graded) (aside_refl graded)).bays
  have hcaptured : captured.bays = filed.bays := (Aside.ite (aside_doorCapture ..) (aside_refl filed)).bays
  have htimed : timed.bays = captured.bays := (Aside.ite (aside_refl captured) (aside_setMode ..)).bays
  calc (judged.bays[b]).shown
    _ = (graded.bays[b]).shown := by rw [hbays]
    _ = (screened.bays[b]).shown := by simp [graded, BayVol.shown]
    _ = (timed.bays[b]).shown := by rw [setBoth_bay, screen_shown]
    _ = (filed.bays[b]).shown := by rw [htimed, hcaptured]
    _ = (0, y.door, y.flags) := by rw [(aside_filePt ..).bays, setBoth_bay, crush_shown]

/-! ### A VALID slot as a whole -/

theorem tileWork_slotJudged (s : State) (x : TelSlot) : TileWork n (s.slotTaken n x) (s.slotJudged n x) :=
  (tileWork_slotQual _ x).trans (.ite (tileWork_refl n _) (tileWork_flagRepeat n _))

/-- A VALID slot is work on its number, once its record has taken the slot. -/
theorem tileWork_faceSlot {x : TelSlot} (h : slotSeen n s.ring.tel[n] s.ring.telHits[n] = .valid x) (bad : BitVec 4) :
    TileWork n (s.slotTaken n x) (s.faceSlot n bad) := by
  have hj := tileWork_slotJudged (n := n) s x
  rw [faceSlot_valid h]
  exact .ite (hj.trans (.foldl _ (fun u _ _ => (bayWork_faceBay u x bad).toTileWork) _))
    (.ite hj (hj.trans (tileWork_idleBays _)))

theorem slotTaken_hub (s : State) (n : TileNo) (x : TelSlot) :
    ((s.slotTaken n x).hub)[n] = (s.hub[n]).takeSlot x (s.ring.lastEpoch.setWidth 8) := by
  simp [State.slotTaken]

/-- A qualified tile that is not in tile SAFE stays qualified, and its slot goes on to its bays (R164, R172). -/
theorem slotJudged_done {x : TelSlot} (hq : (s.hub[n]).qual = .done) (hx : x.safe = false) :
    ((s.slotJudged n x).hub[n]).present = true := by
  simp only [Fin.getElem_fin] at hq
  have hqual : (s.slotTaken n x).slotQual n x = s.slotTaken n x := by
    unfold State.slotQual
    rw [slotTaken_hub]
    simp [TileHub.takeSlot, hq, hx]
  have hhub : (s.slotJudged n x).hub = (s.slotTaken n x).hub := by
    unfold State.slotJudged
    rw [hqual]
    split
    · rfl
    · rw [flagRepeat_frame]
  rw [hhub, slotTaken_hub]
  simp [TileHub.takeSlot, TileHub.present, hq]

/-- Each of its bays then shows what its record carries (R179, R183). -/
theorem faceSlot_shown {x : TelSlot} (h : slotSeen n s.ring.tel[n] s.ring.telHits[n] = .valid x)
    (hq : (s.hub[n]).qual = .done) (hx : x.safe = false) (p : Pos) :
    ((s.faceSlot n 0).bays[bayOf n p]).shown = (0, (x.bays[p]).door, (x.bays[p]).flags) := by
  rw [faceSlot_valid h, if_pos (slotJudged_done hq hx)]
  refine foldl_sets (a := p) (g := fun t : State => (t.bays[bayOf n p]).shown) (fun t => ?_) (fun t q hq => ?_)
    (List.mem_finRange p) _
  · exact faceBay_shown t BitVec.getLsbD_zero x
  · exact congrArg BayVol.shown ((bayWork_faceBay t x 0).other p (Ne.symm hq))

/-- Work on the bays and their charges alone. -/
def OnlyBays (s t : State) : Prop := t = { s with bays := t.bays, c := Committed.baysFrom s.c t.c }

theorem OnlyBays.trans (h : OnlyBays s t) (g : OnlyBays t u) : OnlyBays s u := by
  unfold OnlyBays at *
  rw [g, h]
  rfl

theorem onlyBays_idleBays (s : State) (n : TileNo) : OnlyBays s (s.idleBays n) := by
  have hfold (l : List Bay) (v : State) : OnlyBays v (l.foldl State.idleBay v) := by
    induction l generalizing v with
    | nil => rfl
    | cons b l ih => exact OnlyBays.trans (t := v.idleBay b) rfl (ih _)
  exact hfold _ s

/-- In step 2 of qualification a slot without a failure of the converters changes nothing of the qualification (R160). -/
theorem slotJudged_push {x : TelSlot} (hq : (s.hub[n]).qual = .push) (ha : x.adcfail = false) (hc : x.cmdok = true) :
    s.slotJudged n x = s.slotTaken n x := by
  simp only [Fin.getElem_fin] at hq
  unfold State.slotJudged State.slotQual
  rw [slotTaken_hub]
  simp [TileHub.takeSlot, hq, ha, hc]

theorem faceSlot_push {x : TelSlot} (h : slotSeen n s.ring.tel[n] s.ring.telHits[n] = .valid x)
    (hq : (s.hub[n]).qual = .push) (ha : x.adcfail = false) (hc : x.cmdok = true) (bad : BitVec 4) :
    OnlyBays (s.slotTaken n x) (s.faceSlot n bad) := by
  have hq' : (s.hub[n.val]).qual = .push := hq
  rw [faceSlot_valid h, slotJudged_push hq ha hc, slotTaken_hub, if_neg (by simp [TileHub.takeSlot, TileHub.present, hq'])]
  split
  · rfl
  · exact onlyBays_idleBays _ n


/-! ### The turn of a slot, by its class -/

/-- A slot that does not check, or that names another number, is BAD (R120, R139). -/
theorem slotSeen_bad {x : TelSlot} {hits : List Hit} {seg : Nat} {pos : Fin 54}
    (h : hits = [⟨seg, pos.val, none⟩] ∧ seg ≤ 32 ∨ hits = [] ∧ x.tileno ≠ n.val) :
    slotSeen n (some x) hits = .bad := by
  obtain ⟨rfl, hs⟩ | ⟨rfl, hn⟩ := h
  · exact slotSeen_err n x hs pos.isLt
  · exact if_neg hn

theorem faceSlot_bad_frame (h : slotSeen n s.ring.tel[n] s.ring.telHits[n] = .bad) (bad : BitVec 4) :
    (s.faceSlot n bad).hub[n] = { s.hub[n] with cls := .bad } ∧
    (∀ j : TileNo, j ≠ n → (s.faceSlot n bad).hub[j] = s.hub[j]) ∧
    (s.act.ring.rpten = true ∧ s.ring.rptSent = false ∧ s.ring.cmd ≠ none → (s.faceSlot n bad).ring.rptDue = true) ∧
    s.faceSlot n bad =
      { s with hub := (s.faceSlot n bad).hub, ring := { s.ring with rptDue := (s.faceSlot n bad).ring.rptDue } } := by
  rw [faceSlot_bad h]
  have hf := flagRepeat_frame (s.setHub n (fun h => { h with cls := .bad }))
  have hhub : (s.setHub n (fun h => { h with cls := .bad })).flagRepeat.hub = upd s.hub n (fun h => { h with cls := .bad }) := by
    rw [hf]
    rfl
  refine ⟨?_, fun j hj => ?_, ?_, ?_⟩
  · rw [hhub]
    exact upd_same ..
  · rw [hhub, upd_other _ _ _ _ hj]
  · rintro ⟨hen, hsent, hcmd⟩
    obtain ⟨f, hcmd⟩ := Option.ne_none_iff_exists'.mp hcmd
    exact congrArg (fun t : State => t.ring.rptDue) (flagRepeat_eq (s := s.setHub n _) hcmd hsent hen)
  · rw [hhub]
    exact hf

theorem faceSlot_valid_frame {x : TelSlot} (h : slotSeen n s.ring.tel[n] s.ring.telHits[n] = .valid x) (bad : BitVec 4) :
    ((s.faceSlot n bad).hub[n]).told = (.valid, x.safe, x.adcfail, x.vin, x.vlog, x.die, x.tio, (s.hub[n]).lat) ∧
    (s.faceSlot n bad).hub[n].stale = 0 := by
  have hw := tileWork_faceSlot h bad
  have hn := slotTaken_hub s n x
  refine ⟨hw.told.trans ?_, hw.fresh ?_⟩
  · rw [hn]
    rfl
  · rw [hn]
    rfl


end

/-! ### The close of the intake -/

section
variable {s t u : State}

/-- Work on the hub's numbers that leaves how Face has classed their slots. -/
structure ClassWork (s t : State) : Prop extends HubWork s t where
  cls : ∀ j : TileNo, (t.hub[j]).cls = (s.hub[j]).cls

theorem ToldWork.classWork (h : ToldWork s t) : ClassWork s t :=
  ⟨h.toHubWork, fun j => congrArg Prod.fst (h.told j)⟩

theorem TileWork.classWork {n : TileNo} (h : TileWork n s t) : ClassWork s t := h.toldWork.classWork

theorem ClassWork.trans (h : ClassWork s t) (g : ClassWork t u) : ClassWork s u :=
  ⟨h.toHubWork.trans g.toHubWork, fun j => (g.cls j).trans (h.cls j)⟩

theorem ClassWork.ite {c : Prop} [Decidable c] (h : ClassWork s t) (g : ClassWork s u) :
    ClassWork s (if c then t else u) := by
  split
  · exact h
  · exact g

theorem hubWork_setHub (s : State) (n : TileNo) (f : TileHub → TileHub) : HubWork s (s.setHub n f) :=
  ⟨rfl, rfl, rfl, rfl, rfl, id⟩

theorem classWork_setHub (s : State) (n : TileNo) {f : TileHub → TileHub} (hf : ∀ h, (f h).cls = h.cls) :
    ClassWork s (s.setHub n f) := by
  refine ⟨hubWork_setHub s n f, fun j => ?_⟩
  by_cases hj : j = n
  · subst hj
    simpa using hf _
  · exact congrArg TileHub.cls (upd_other _ _ _ _ hj)

/-- A slot that has not come by the close is EMPTY (R178). -/
def State.slotShut (s : State) (n : TileNo) : State :=
  if s.hub[n].cls = .pending then s.setHub n (fun h => { h with cls := .empty }) else s

/-- A number without a VALID slot is otherwise worked on as its class stands (R160, R163, R164). -/
theorem classWork_missed (s : State) (n : TileNo) : ClassWork (s.slotShut n) (s.missed n) := by
  have hr (v : State) : ClassWork v v := (tileWork_refl n v).classWork
  unfold State.missed
  extract_lets v h stale idled k counted
  change ClassWork v _
  have hbays (u : State) : TileWork n u ((baysOf n).foldl State.staleBay u) :=
    .foldl_bays (fun _ _ hb => tileWork_staleBay _ hb) u
  have hstale : ClassWork v stale := by
    refine (classWork_setHub v n ?_).trans (hbays _).classWork
    exact fun _ => rfl
  have hidled : ClassWork v idled := (tileWork_idleBays (n := n) v).classWork
  refine .ite (hr v) (.ite (.ite (hstale.trans (tileWork_dropTile (n := n) _ 1).classWork) hstale) ?_)
  have hcounted : ClassWork v counted := by
    refine hidled.trans (classWork_setHub idled n ?_)
    exact fun _ => rfl
  split
  case h_5 => exact hidled
  all_goals
    exact .ite (hcounted.trans (tileWork_abandon (n := n) _).classWork)
      (.ite (hcounted.trans (tileWork_failStep (n := n) _ 4).classWork) hcounted)

theorem hubWork_missed (s : State) (n : TileNo) : HubWork s (s.missed n) :=
  HubWork.trans (.ite (hubWork_setHub s n _) (hubWork_refl s)) (classWork_missed s n).toHubWork

theorem missed_cls (s : State) (n j : TileNo) :
    ((s.missed n).hub[j]).cls = if j = n ∧ (s.hub[j]).cls = .pending then .empty else (s.hub[j]).cls := by
  rw [(classWork_missed s n).cls j, State.slotShut]
  by_cases hj : j = n
  · subst hj
    by_cases hp : s.hub[j].cls = .pending
    · rw [if_pos hp, if_pos ⟨rfl, hp⟩]
      exact congrArg TileHub.cls (upd_same ..)
    · rw [if_neg hp, if_neg (fun h => hp h.2)]
  · rw [if_neg (c := j = n ∧ _) (fun h => hj h.1)]
    split
    · exact congrArg TileHub.cls (upd_other _ _ _ _ hj)
    · rfl

/-- After the numbers of a list have been worked on, none of them waits for its slot, and other classes stand. -/
theorem foldl_missed_cls (l : List TileNo) (s : State) (j : TileNo) :
    ((l.foldl State.missed s).hub[j]).cls =
      if j ∈ l ∧ (s.hub[j]).cls = .pending then .empty else (s.hub[j]).cls := by
  induction l generalizing s with
  | nil => simp
  | cons n l ih =>
    rw [List.foldl_cons, ih, missed_cls]
    by_cases hp : (s.hub[j]).cls = .pending <;> by_cases hn : j = n <;> simp_all

/-- What the keeper pass leaves (R186). -/
structure KeepPass (s t : State) : Prop where
  tiles : t.tiles = s.tiles
  nv : t.nv = s.nv
  c : t.c = { s.c with keep := t.c.keep }
  ring : t.ring = s.ring
  hub : t.hub = s.hub
  pipe : t.pipe = s.pipe

theorem KeepPass.trans (h : KeepPass s t) (g : KeepPass t u) : KeepPass s u where
  tiles := Eq.trans g.tiles h.tiles
  nv := Eq.trans g.nv h.nv
  c := by rw [g.c, h.c]
  ring := Eq.trans g.ring h.ring
  hub := Eq.trans g.hub h.hub
  pipe := Eq.trans g.pipe h.pipe

theorem KeepPass.ite {c : Prop} [Decidable c] (h : KeepPass s t) (g : KeepPass s u) : KeepPass s (if c then t else u) := by
  split
  · exact h
  · exact g

theorem keepPass_post (s : State) (code a0 a1 : Nat) : KeepPass s (s.post code a0 a1) := by
  rw [post_eq]
  exact ⟨rfl, rfl, rfl, rfl, rfl, rfl⟩

theorem keepPass_setKeeper (s : State) (f : Keeper → Keeper) : KeepPass s (s.setKeeper f) := ⟨rfl, rfl, rfl, rfl, rfl, rfl⟩

theorem keepPass_keeperPretime (s : State) : KeepPass s s.keeperPretime :=
  KeepPass.trans (t := (s.setKeeper _).keeperDiscard) ⟨rfl, rfl, rfl, rfl, rfl, rfl⟩ (keepPass_post ..)

theorem keepPass_keeperPass (s : State) : KeepPass s s.keeperPass := by
  unfold State.keeperPass
  extract_lets k g e n low m rest m' begins old keep v z setc charged resting want held
  split
  case h_1 =>
    have hlow : KeepPass s low := keepPass_setKeeper s _
    exact .ite (hlow.trans (keepPass_keeperPretime low)) hlow
  case h_2 =>
    have hheld : KeepPass s held := KeepPass.trans (t := charged) ⟨rfl, rfl, rfl, rfl, rfl, rfl⟩ (keepPass_setKeeper ..)
    exact .ite (.ite (hheld.trans (keepPass_keeperPretime held)) (hheld.trans (keepPass_post ..))) hheld
  case h_3 => exact keepPass_setKeeper s _

/-- The slot that has arrived in part is BAD (R178). -/
def State.partBad (s : State) : Option TileNo → State
  | some n =>
    if s.hub[n].cls = .pending ∧ n.val < s.ntiles then (s.setHub n (fun h => { h with cls := .bad })).flagRepeat else s
  | none => s

theorem hubWork_partBad (s : State) (part : Option TileNo) : HubWork s (s.partBad part) := by
  cases part with
  | none => exact hubWork_refl s
  | some n => exact .ite ((hubWork_setHub s n _).trans (tileWork_flagRepeat n _).toHubWork) (hubWork_refl s)

theorem partBad_some {n : TileNo} (hp : s.hub[n].cls = .pending) (hn : n.val < s.ntiles) (hen : s.act.ring.rpten = true)
    (hsent : s.ring.rptSent = false) (hcmd : s.ring.cmd ≠ none) :
    ((s.partBad (some n)).hub[n]).cls = .bad ∧ (s.partBad (some n)).ring.rptDue = true := by
  obtain ⟨f, hcmd⟩ := Option.ne_none_iff_exists'.mp hcmd
  have h : s.partBad (some n) = (s.setHub n (fun h => { h with cls := .bad })).setRing (fun r => { r with rptDue := true }) :=
    (if_pos ⟨hp, hn⟩).trans (flagRepeat_eq (s := s.setHub n _) hcmd hsent hen)
  rw [h]
  exact ⟨congrArg TileHub.cls (upd_same ..), rfl⟩

/-- What the close of the intake leaves, and the classes with which it ends (R178, R186). -/
structure Shut (s t : State) : Prop where
  closed : t.pipe.closed = true
  tiles : t.tiles = s.tiles
  nv : t.nv = s.nv
  mcount : t.c.mcount = s.c.mcount
  voices : t.c.voices = s.c.voices
  rptDue : s.ring.rptDue = true → t.ring.rptDue = true
  cls : ∀ j : TileNo, (t.hub[j]).cls = if (s.hub[j]).cls = .pending then .empty else (s.hub[j]).cls

/-- The close goes on from the state in which the slot that has arrived in part is BAD. -/
theorem shut_faceClose (s : State) (part : Option TileNo) : Shut (s.partBad part) (s.faceClose part) := by
  unfold State.faceClose
  extract_lets u v poll w
  have hu : u = s.partBad part := by cases part <;> rfl
  have hv : HubWork u v := .foldl hubWork_missed _ u
  have hcls (j : TileNo) : (v.hub[j]).cls = if (u.hub[j]).cls = .pending then .empty else (u.hub[j]).cls := by
    simpa using foldl_missed_cls (List.finRange 24) u j
  clear_value u v
  have hw : ∃ r, w = { v with ring := r } ∧ r.rptDue = v.ring.rptDue := by
    dsimp only [w]
    split
    · exact ⟨_, rfl, rfl⟩
    · exact ⟨_, rfl, rfl⟩
  clear_value w
  obtain rfl := hu
  obtain ⟨r, rfl, hr⟩ := hw
  have hk := keepPass_keeperPass (({ v with ring := r }).setPipe (fun p => { p with closed := true }))
  constructor
  case closed => rw [hk.pipe]; rfl
  case tiles => exact hk.tiles.trans hv.tiles
  case nv => exact hk.nv.trans hv.nv
  case mcount =>
    rw [hk.c]
    change v.c.mcount = _
    rw [hv.c]
    rfl
  case voices =>
    rw [hk.c]
    change v.c.voices = _
    rw [hv.c]
    rfl
  case rptDue =>
    rw [hk.ring]
    exact fun h => hr.trans (hv.rptDue h)
  case cls =>
    rw [hk.hub]
    exact hcls

/-- Settles O20, slot by slot through its class, and the close through the classes with which it ends. -/
theorem faceTakesSlots : Obligations.FaceTakesSlots := by
  unfold Obligations.FaceTakesSlots
  intro s n x seg pos bad part hrun hclosed htrap htick
  have hi : s.intake = true := by simp [State.intake, hrun, hclosed, htrap, htick]
  refine ⟨fun ⟨hn, hp⟩ => ?_, ?_⟩
  · have hturn := execFaceSlot_turn hi hn hp bad
    have hempty (hh : s.ring.telHits[n] = []) (ht : s.ring.tel[n] = none) :
        slotSeen n s.ring.tel[n] s.ring.telHits[n] = .empty := by
      rw [hh, ht]
      rfl
    have hvalid (hh : s.ring.telHits[n] = []) (ht : s.ring.tel[n] = some x) (hx : x.tileno = n.val) :
        slotSeen n s.ring.tel[n] s.ring.telHits[n] = .valid x := by
      rw [hh, ht]
      exact if_pos hx
    refine ⟨fun ⟨ht, hh⟩ => ⟨_, hturn, ?_⟩, fun hh => ⟨fun ht => ⟨_, hturn, ?_⟩,
      fun ⟨ht, hx⟩ => ⟨_, hturn, ?_⟩, fun ⟨ht, hx, hq, ha, hc⟩ => ⟨_, hturn, ?_⟩⟩⟩
    · refine faceSlot_bad_frame ?_ bad
      rw [ht]
      exact slotSeen_bad hh
    · rw [faceSlot_empty (hempty hh ht)]
      exact ⟨rfl, upd_same .., fun j hj => upd_other _ _ _ _ hj⟩
    · have hv := hvalid hh ht hx
      have hw := tileWork_faceSlot hv bad
      obtain ⟨htold, hstale⟩ := faceSlot_valid_frame hv bad
      simp only [TileHub.told, Prod.mk.injEq] at htold
      obtain ⟨hcls, hsafe, hadc, hvin, hvlog, hdie, htio, -⟩ := htold
      refine ⟨hcls, hsafe, hadc, hvin, hvlog, hdie, htio, fun j hj => (hw.hub j hj).trans (upd_other _ _ _ _ hj), hw.tiles,
        congrArg Nv.mem hw.nv, ?_, ?_, fun b hb => ⟨hw.bays b hb, hw.runs b hb⟩, fun _ => hstale, ?_⟩
      · rw [hw.c]
        rfl
      · rw [hw.c]
        rfl
      · rintro ⟨hq, hnot, rfl⟩ p
        have := faceSlot_shown hv hq hnot p
        simpa only [BayVol.shown, Prod.mk.injEq] using this
    · have hv := hvalid hh ht hx
      have hb := faceSlot_push hv hq ha hc bad
      have hhub : (s.faceSlot n bad).hub = (s.slotTaken n x).hub := by rw [hb]
      refine ⟨?_, ?_, (faceSlot_valid_frame hv bad).2⟩
      · rw [hhub]
        exact hb
      · rw [hhub, slotTaken_hub]
        exact hq
  · have hw := hubWork_partBad s part
    have h := shut_faceClose s part
    refine ⟨_, congrArg Host.Outcome.next (if_pos hi), h.closed, ?_, ?_, h.tiles.trans hw.tiles, h.nv.trans hw.nv,
      fun j hj => ?_, ?_⟩
    · rw [h.mcount, hw.c]
      rfl
    · rw [h.voices, hw.c]
      rfl
    · have hcls := h.cls j
      rw [hj] at hcls
      split at hcls
      · cases hcls
      · exact absurd hcls.symm ‹_›
    · rintro ⟨rfl, hp, hn, hen, hsent, hcmd⟩
      obtain ⟨hbad, hdue⟩ := partBad_some hp hn hen hsent hcmd
      exact ⟨by rw [h.cls n, hbad]; rfl, h.rptDue hdue⟩

end
end Sys2Proof.Machine
end

section
/-! The guards of the measure: what their hold posts to SYS (R194, R197, R272), and the capture that their SHED set brings
about (R140, Table TC-1). -/

namespace Sys2Proof.Machine

/-! ### The hold and SYS's events -/

/-- An event to a tenant leaves SYS's context. -/
theorem postTo_tenant_sys (s : State) (t : Tenant) (code a0 a1 : Nat) :
    ((s.postTo (ctxOf t) code a0 a1).ctxs)[ctxSYS] = s.ctxs[ctxSYS] := by
  have hsys : ctxOf t ≠ ctxSYS := fun h => absurd (congrArg Fin.val h) (Nat.ne_of_lt t.isLt)
  unfold State.postTo
  split
  · rfl
  · exact upd_other _ _ _ _ hsys.symm

theorem postEmrel_sys (s : State) (b : Bay) (on : Bool) : ((s.postEmrel b on).ctxs)[ctxSYS] = s.ctxs[ctxSYS] := by
  unfold State.postEmrel
  split
  · rfl
  · exact postTo_tenant_sys ..

@[simp] theorem putRec_ctxs (s : State) (b : Bay) (r : BayRec) (win : BitVec 3) : (s.putRec b r win).ctxs = s.ctxs := rfl

theorem holdRec_sys (s : State) (b : Bay) (l : Sources) : ((s.holdRec b l).ctxs)[ctxSYS] = s.ctxs[ctxSYS] := by
  simp only [State.holdRec, putRec_ctxs]
  exact postEmrel_sys ..

theorem guardBay_sys (s : State) (b : Bay) : ((s.guardBay b).ctxs)[ctxSYS] = s.ctxs[ctxSYS] := by
  unfold State.guardBay
  split
  · exact holdRec_sys ..
  · rfl

/-- The hold records post to tenants alone (R272). -/
theorem guardRecs_sys (s : State) : (s.guardRecs.ctxs)[ctxSYS] = s.ctxs[ctxSYS] := by
  simp only [State.guardRecs, State.setPipe_ctxs]
  exact foldl_keeps (g := fun u : State => u.ctxs[ctxSYS]) _ (fun u b _ => guardBay_sys u b) s

/-- A guard's hold leaves in SYS's context what its SHED set and MEASOVR have posted. -/
theorem measover_sys {s : State} (h : s.c.guard = false) (cause : BitVec 2) (us : Nat) :
    ((s.measover cause us).ctxs)[ctxSYS] = ((s.sendShedAll.post 0x2004 cause.toNat 0).ctxs)[ctxSYS] := by
  simp only [State.measover, h, Bool.false_eq_true, if_false, State.setPipe_ctxs]
  refine (guardRecs_sys _).trans ?_
  simp only [post_eq]
  rfl

/-- The Loader's guard at its point (R194). -/
theorem execLoaderGuard_due {s : State} (hr : s.running = true) (hl : s.pipe.ldDone = false) (ht : s.wd.trap = false)
    (hp : s.clk.tick + 1 = s.period) : ∃ t, execLoaderGuard s = .next t ∧
      t.ctxs = (State.measover (s.setPipe (fun p => { p with stage := s.stageNow })) 1 (1000 * s.period - 200)).ctxs := by
  refine ⟨_, if_pos (by simp [hr, hl, ht, hp]), ?_⟩
  split <;> rfl

/-! ### A guard whose SHED set is captured -/

/-- The state of the counterexample to O23: `captureAtTrap`, in which channel 0 of SYS captures the sending of a SHED set with
its event enabled, at the Loader's guard point and with the watchdog off. -/
def captureAtGuard : State := { captureAtTrap with clk := { tick := 9 }, wd := {} }

/-- Its SHED set and MEASOVR post two events: that of the capture, and MEASOVR. -/
theorem captureAtGuard_queue : ((captureAtGuard.sendShedAll.post 0x2004 1 0).ctxs[ctxSYS]).queue.length = 2 := by
  decide +kernel

/-- Refutes O23: the SHED set of the hold is a capture source (Table TC-1), so a channel of SYS that names it posts its own
event ahead of MEASOVR, and SYS's queue is not the one before with MEASOVR pushed. -/
theorem not_guardsHoldTheCabinet : ¬ Obligations.GuardsHoldTheCabinet := by
  unfold Obligations.GuardsHoldTheCabinet
  intro hall
  obtain ⟨hloader, -, -⟩ := hall captureAtGuard rfl rfl
  obtain ⟨hfirst, -⟩ := hloader ⟨rfl, by decide⟩
  obtain ⟨t, he, -, -, -, -, -, -, hposted, -⟩ := hfirst rfl
  obtain ⟨u, hu, hctxs⟩ := execLoaderGuard_due (s := captureAtGuard) rfl rfl rfl (by decide)
  obtain rfl : t = u := Host.Outcome.next.inj (he.symm.trans hu)
  have htwo : (t.ctxs[ctxSYS]).queue.length = 2 := by
    rw [hctxs, measover_sys rfl]
    exact captureAtGuard_queue
  have hone : (t.ctxs[ctxSYS]).queue.length = 1 := congrArg List.length hposted
  rw [htwo] at hone
  exact absurd hone (by decide)

end Sys2Proof.Machine
end

section
/-! O24: the timers of charging. A charge timer whose condition in Screen does not hold changes nothing; HOSTLATE runs in CV
only (R218 step 4, R219), and the clause of O24 about it asks no phase. -/

namespace Sys2Proof.Machine

/-- A charge timer acts only where Screen's condition for it holds (R209). -/
theorem chargeIf_of_not_ok {s : State} {b : Bay} {ok : BayEnv → BayRun → Bool} (f : BayEnv → BayRun → BayRun)
    (h : ok (s.bayEnv b) s.c.bays[b] = false) : s.chargeIf b ok f = s := by
  unfold State.chargeIf
  simp only [h, Bool.and_false, Bool.false_eq_true, if_false]

/-- Outside CV, HOSTLATE_EXPIRE leaves the state (R218 step 4, R219). -/
theorem execHostlateExpire_outside_cv {s : State} {b : Bay} (h : s.c.bays[b].base ≠ .cv) :
    execHostlateExpire b s = .next s :=
  congrArg Host.Outcome.next (chargeIf_of_not_ok _ (by simp only [beq_false_of_ne h, Bool.false_and]))

/-- The state of the counterexample to O24: Tutti in OPERATE, and every bay present, live, in no order or hold, and in CC
with a HOSTLATE wait that runs and has reached the 10 min of its HLWAIT. -/
def lateOutsideCv : State :=
  { start := { stage := .tutti }
    c := { bays := Vector.replicate 96 { pack := .ready, chem := .liion, base := .cc, hlRun := true, hlTicks := 600000 }
           map := Vector.replicate 24 (some 1) }
    hub := Vector.replicate 24 { qual := .done }
    bays := Vector.replicate 96 { tilest := 0, temp := some 250 } }

/-- Refutes O24: its HOSTLATE clause asks no phase, and for a bay in CC whose wait has run out HOSTLATE_EXPIRE does
nothing, where the clause says that FAULT.HOSTLATE is set. -/
theorem not_chargeTimersEndCharges : ¬ Obligations.ChargeTimersEndCharges := by
  unfold Obligations.ChargeTimersEndCharges
  intro hall
  obtain ⟨hlive, -⟩ := hall lateOutsideCv 0 rfl
  obtain ⟨-, -, -, -, -, -, hlate⟩ := hlive (by decide)
  obtain ⟨t, he, -, hrec⟩ := hlate (by decide)
  have hstay : exec (.hostlateExpire 0) lateOutsideCv = .next lateOutsideCv :=
    execHostlateExpire_outside_cv (s := lateOutsideCv) (b := 0) (by decide)
  obtain rfl : t = lateOutsideCv := Host.Outcome.next.inj (he.symm.trans hstay)
  exact absurd (congrArg BayRun.hostLate hrec) (by decide)

end Sys2Proof.Machine
end

section
/-! O25: the guaranteed shares of the tenants (R231). -/

namespace Sys2Proof.Machine

/-- W of R231: the sum of the four tenant weights. -/
def totalWeight (w : Vector (BitVec 4) 4) : Nat := w[0].toNat + w[1].toNat + w[2].toNat + w[3].toNat

/-- The floor of a tenant's part of the pool (R231). -/
def shareFloor (pool : Nat) (w : Vector (BitVec 4) 4) (t : Tenant) : Nat := pool * w[t].toNat / totalWeight w

/-- The setts that the four floors leave of the pool (R231). -/
def floorsLeave (pool : Nat) (w : Vector (BitVec 4) 4) : Nat :=
  pool - (shareFloor pool w 0 + shareFloor pool w 1 + shareFloor pool w 2 + shareFloor pool w 3)

/-- A fold over the four tenants' values takes T0, T1, T2 and T3 in turn. -/
theorem vector_foldl_tenants {α β : Type} (f : β → α → β) (z : β) (v : Vector α 4) :
    v.foldl f z = f (f (f (f z v[0]) v[1]) v[2]) v[3] := by
  obtain ⟨⟨l⟩, h⟩ := v
  match l, h with
  | [_, _, _, _], _ => rfl

/-- The four floors leave fewer than four setts: each floor loses less than one sett of its part. -/
theorem floors_near_total {pool a b c d n : Nat} (hn : 0 < n) (hsum : a + b + c + d = n) :
    pool * a / n + pool * b / n + pool * c / n + pool * d / n ≤ pool ∧
      pool < pool * a / n + pool * b / n + pool * c / n + pool * d / n + 4 := by
  have hparts : pool * a + pool * b + pool * c + pool * d = n * pool := by
    rw [← Nat.mul_add, ← Nat.mul_add, ← Nat.mul_add, hsum, Nat.mul_comm]
  have ha := Nat.div_add_mod (pool * a) n
  have hb := Nat.div_add_mod (pool * b) n
  have hc := Nat.div_add_mod (pool * c) n
  have hd := Nat.div_add_mod (pool * d) n
  have hla := Nat.mod_lt (pool * a) hn
  have hlb := Nat.mod_lt (pool * b) hn
  have hlc := Nat.mod_lt (pool * c) hn
  have hld := Nat.mod_lt (pool * d) hn
  constructor
  · refine Nat.le_of_mul_le_mul_left ?_ hn
    simp only [Nat.mul_add]
    omega
  · refine Nat.lt_of_mul_lt_mul_left (a := n) ?_
    simp only [Nat.mul_add]
    omega

/-- The floors do not exceed the pool, and what they leave is less than one sett for each tenant. -/
theorem shareFloors_add_floorsLeave {pool : Nat} {w : Vector (BitVec 4) 4} (hw : 0 < totalWeight w) :
    shareFloor pool w 0 + shareFloor pool w 1 + shareFloor pool w 2 + shareFloor pool w 3 + floorsLeave pool w = pool ∧
      floorsLeave pool w < 4 := by
  obtain ⟨hle, hlt⟩ : shareFloor pool w 0 + shareFloor pool w 1 + shareFloor pool w 2 + shareFloor pool w 3 ≤ pool ∧
      pool < shareFloor pool w 0 + shareFloor pool w 1 + shareFloor pool w 2 + shareFloor pool w 3 + 4 :=
    floors_near_total hw rfl
  unfold floorsLeave
  omega

/-- A remainder of fewer than four setts, given one each to T0, T1, T2 and T3 in that order, is used up. -/
theorem oneEach_sum : ∀ r < 4,
    (if 0 < r then 1 else 0) + (if 1 < r then 1 else 0) + (if 2 < r then 1 else 0) + (if 3 < r then 1 else 0) = r := by
  decide

/-- A share is its floor, and one sett more while the remainder lasts (R231). -/
theorem sharesOf_getElem {pool : Nat} {w : Vector (BitVec 4) 4} (hw : 0 < totalWeight w) {i : Nat} (hi : i < 4) :
    (sharesOf pool w)[i] = shareFloor pool w ⟨i, hi⟩ + (if i < floorsLeave pool w then 1 else 0) := by
  have htot : w.foldl (fun n x => n + x.toNat) 0 = totalWeight w := by
    rw [vector_foldl_tenants, Nat.zero_add]; rfl
  simp only [sharesOf, htot, Nat.ne_of_gt hw, if_false, Vector.getElem_ofFn, Fin.getElem_fin, Vector.getElem_map,
    vector_foldl_tenants, Nat.zero_add]
  rfl

/-- The shares add up to the pool (R231). -/
theorem sharesOf_sum {pool : Nat} {w : Vector (BitVec 4) 4} (hw : 0 < totalWeight w) :
    (sharesOf pool w)[0] + (sharesOf pool w)[1] + (sharesOf pool w)[2] + (sharesOf pool w)[3] = pool := by
  obtain ⟨hpool, hfew⟩ := shareFloors_add_floorsLeave (pool := pool) hw
  have hones := oneEach_sum _ hfew
  simp only [sharesOf_getElem hw, Fin.mk_zero, Fin.mk_one, Fin.reduceFinMk]
  omega

/-- Settles O25: each share is read off `sharesOf_getElem`; the floors leave fewer than four setts, so the setts that go
one to each tenant make up the pool. -/
theorem sharesAddUpToThePool : Obligations.SharesAddUpToThePool := by
  unfold Obligations.SharesAddUpToThePool
  intro pool w tot floor left hw
  exact ⟨fun t => sharesOf_getElem hw t.isLt, sharesOf_sum hw⟩

end Sys2Proof.Machine
end

section
/-! O26: what an entitled set and phase 1 take of a queue (R243, R244). -/

namespace Sys2Proof.Machine

/-- The setts that a list of bays asks for. -/
def reqSum (bs : Vector BayVol 96) (l : List Bay) : Nat := (l.map (fun b => bs[b].wb.req)).sum

/-- `f` is the part of the queue `q` up to the first request that does not fit beside the `held` setts. -/
def TakesUpToFirstUnfit (bs : Vector BayVol 96) (limit held : Nat) (q f : List Bay) : Prop :=
  f <+: q ∧ held + reqSum bs f ≤ limit ∧ ∀ b rest, q = f ++ b :: rest → limit < held + reqSum bs f + bs[b].wb.req

/-- A list of requests asks for what its first one asks for and what the others ask for. -/
theorem reqSum_cons (bs : Vector BayVol 96) (b : Bay) (l : List Bay) :
    reqSum bs (b :: l) = bs[b].wb.req + reqSum bs l := List.sum_cons

/-- An empty queue gives nothing. -/
theorem takesUpToFirstUnfit_nil {bs : Vector BayVol 96} {limit held : Nat} (h : held ≤ limit) :
    TakesUpToFirstUnfit bs limit held [] [] :=
  ⟨List.prefix_rfl, h, fun _ _ hq => nomatch hq⟩

/-- Where the first request does not fit, nothing is taken. -/
theorem takesUpToFirstUnfit_stop {bs : Vector BayVol 96} {limit held : Nat} {b : Bay} {q : List Bay}
    (h : held ≤ limit) (hb : limit < held + bs[b].wb.req) : TakesUpToFirstUnfit bs limit held (b :: q) [] := by
  refine ⟨List.nil_prefix, h, fun c rest hq => ?_⟩
  obtain ⟨rfl, -⟩ := List.cons.inj hq
  exact hb

/-- A first request that fits is taken, and the rest of the queue is taken beside its setts. -/
theorem TakesUpToFirstUnfit.cons {bs : Vector BayVol 96} {limit held : Nat} {b : Bay} {q f : List Bay}
    (h : TakesUpToFirstUnfit bs limit (held + bs[b].wb.req) q f) : TakesUpToFirstUnfit bs limit held (b :: q) (b :: f) := by
  obtain ⟨hpre, hsum, hstop⟩ := h
  unfold TakesUpToFirstUnfit
  rw [reqSum_cons, ← Nat.add_assoc]
  exact ⟨List.cons_prefix_cons.mpr ⟨rfl, hpre⟩, hsum, fun c rest hq => hstop c rest (List.cons.inj hq).2⟩

/-- R243: the entitled set takes a tenant's queue up to the first request that exceeds the share. -/
theorem entitledPart_takes (bs : Vector BayVol 96) (share : Nat) : ∀ (q : List Bay) (held : Nat), held ≤ share →
    TakesUpToFirstUnfit bs share held q (entitledPart bs share held q) := by
  intro q
  induction q with
  | nil => exact fun _ h => takesUpToFirstUnfit_nil h
  | cons b rest ih =>
    intro held h
    rw [entitledPart]
    by_cases hfit : held + bs[b].wb.req ≤ share
    · rw [if_pos hfit]
      exact (ih _ hfit).cons
    · rw [if_neg hfit]
      exact takesUpToFirstUnfit_stop h (Nat.lt_of_not_le hfit)

/-- Phase 1 takes its queue under the pool by the rule by which an entitled set takes one under a share. -/
theorem phase1_eq_entitledPart (bs : Vector BayVol 96) (limit : Nat) : ∀ (q : List Bay) (held : Nat),
    phase1 bs limit held q = entitledPart bs limit held q := by
  intro q
  induction q with
  | nil => exact fun _ => rfl
  | cons b rest ih =>
    intro held
    rw [phase1, entitledPart, ih]

/-- Settles O26, by induction on the queue (`entitledPart_takes`), for phase 1 through `phase1_eq_entitledPart`. -/
theorem grantsStayWithinPool : Obligations.GrantsStayWithinPool := by
  unfold Obligations.GrantsStayWithinPool
  intro bs limit held q h sum takes
  rw [phase1_eq_entitledPart]
  have htakes : takes (entitledPart bs limit held q) := entitledPart_takes bs limit q held h
  exact ⟨htakes, htakes⟩

end Sys2Proof.Machine
end

section
/-! How an instruction with an operand that passes its checks changes its voice's registers and what the voice retains
(R334 to R337), and what it reads while its cycles pass. -/

namespace Sys2Proof

/-- The voice's registers when `n` cycles have passed, and when the voice goes on at `pc`. -/
def VoiceVol.spend (x : VoiceVol) (n : Nat) : VoiceVol := { x with cycles := x.cycles + n }
def VoiceVol.goTo (x : VoiceVol) (pc : Nat) : VoiceVol := { x with pc := pc }

/-- A change of a voice's registers that leaves what decides where the voice goes on. -/
def KeepsCourse (g : VoiceVol → VoiceVol) : Prop :=
  ∀ x, (g x).pc = x.pc ∧ (g x).prog = x.prog ∧ (g x).entry = x.entry ∧ (g x).memErr = x.memErr

/-- A third cycle for an operand in B, T or C (R337). -/
theorem areaCycles_eq (a : Area) : areaCycles a = if a = .b ∨ a = .t ∨ a = .c then 3 else 2 := by
  cases a <;> rfl

/-- An operand that passes its checks lies in one of the allowed areas, below the size of that area (R335, R353). -/
theorem operand_ok {w : BitVec 32} {xr : Word} {klen : Nat} {l : List Area} {a : Area} {i : Nat}
    (h : operand w xr klen l = .ok (a, i)) : a ∈ l ∧ i < a.size klen := by
  unfold operand at h
  split at h
  · exact nomatch h
  · split at h
    · next ha =>
      split at h
      · next hi =>
        obtain ⟨rfl, rfl⟩ := Prod.mk.inj (Except.ok.inj h)
        exact ⟨List.contains_iff_mem.mp ha, hi⟩
      · exact nomatch h
    · exact nomatch h

/-- A change that leaves the changed place leaves the vector. -/
theorem upd_eq_self {α : Type} {n : Nat} {v : Vector α n} {i : Fin n} {f : α → α} (h : f v[i] = v[i]) : upd v i f = v := by
  rw [upd, h]; exact Vector.set_getElem_self ..

end Sys2Proof

namespace Sys2Proof.Machine

variable {s : State} {v : VoiceId} {w : BitVec 32} {op : BitVec 8} {a : Area} {i n : Nat}

theorem setVoice_voice (f : VoiceVol → VoiceVol) : (s.setVoice v f).voices[v] = f s.voices[v] := upd_same ..

theorem setVRun_voice (f : VoiceRun → VoiceRun) : (s.setVRun v f).c.voices[v] = f s.c.voices[v] := upd_same ..

theorem setVoice_id (s : State) (v : VoiceId) : s.setVoice v id = s := by
  rw [State.setVoice, upd_eq_self rfl]

theorem setVRun_id (s : State) (v : VoiceId) : s.setVRun v id = s := by
  rw [State.setVRun, State.setC, upd_eq_self rfl]

/-- Which Q bits are a voice's own is not the voice's to change. -/
@[simp] theorem mayPutQ_setVoice (f : VoiceVol → VoiceVol) : (s.setVoice v f).mayPutQ v i = s.mayPutQ v i := rfl

/-- The cycles that pass leave the bit that an instruction reads. -/
theorem readBit_spend : (s.setVoice v (·.spend n)).readBit v a i = s.readBit v a i := by
  cases a
  case i | q => simp [State.readBit, VoiceVol.spend]
  all_goals rfl

/-- They leave the word that it reads. -/
theorem readWord_spend : (s.setVoice v (·.spend n)).readWord v a i = s.readWord v a i := by
  cases a
  case k | b | s => simp [State.readWord, VoiceVol.spend]
  all_goals rfl

/-- An instruction whose effect changes what its voice retains by `r` and its registers by `g`. -/
theorem areaOp_changes {l : List Area} {base : Area → Nat} {f : BitVec 32 → Area → Nat → State → State}
    (r : VoiceRun → VoiceRun) (g : VoiceVol → VoiceVol) (ho : opOf w = op)
    (hi : operand w s.voices[v].xr s.voices[v].prog.k.length l = .ok (a, i)) (h : s.executes v w (opCycles w (base a)))
    (hg : s.goesOn v (s.voices[v].pc + 1)) (hk : KeepsCourse g)
    (hf : f w a i (s.setVoice v (·.spend (opCycles w (base a)))) =
      (s.setVRun v r).setVoice v (fun x => g (x.spend (opCycles w (base a))))) :
    s.areaOp v op l base f = .next ((s.setVRun v r).setVoice v (fun x =>
      (g (x.spend (opCycles w (base a)))).goTo (s.voices[v].pc + 1))) := by
  rw [areaOp_eq ho hi h]
  refine congrArg Host.Outcome.next ((congrArg (State.onward · v) hf).trans ?_)
  exact onward_setVoice (s := s.setVRun v r) (fun x => g (x.spend (opCycles w (base a)))) hg (fun x => hk (x.spend _))

/-- An instruction whose effect changes its voice's registers alone. -/
theorem areaOp_reads {l : List Area} {base : Area → Nat} {f : BitVec 32 → Area → Nat → State → State}
    (g : VoiceVol → VoiceVol) (ho : opOf w = op)
    (hi : operand w s.voices[v].xr s.voices[v].prog.k.length l = .ok (a, i)) (h : s.executes v w (opCycles w (base a)))
    (hg : s.goesOn v (s.voices[v].pc + 1)) (hk : KeepsCourse g)
    (hf : f w a i (s.setVoice v (·.spend (opCycles w (base a)))) =
      s.setVoice v (fun x => g (x.spend (opCycles w (base a))))) :
    s.areaOp v op l base f = .next (s.setVoice v (fun x =>
      (g (x.spend (opCycles w (base a)))).goTo (s.voices[v].pc + 1))) := by
  have hc := areaOp_changes (f := f) id g ho hi h hg hk (by rw [setVRun_id]; exact hf)
  rwa [setVRun_id] at hc

end Sys2Proof.Machine
end

section
/-! O28: the instructions that read a bit or a word (R334, R335, R337, R341). -/

namespace Sys2Proof

/-- WADD wraps modulo 65 536 (R341). -/
theorem WordOp.run_add (a m : Word) : WordOp.add.run a m = BitVec.ofNat 16 ((a.toNat + m.toNat) % 65536) :=
  BitVec.eq_of_toNat_eq (by simp [WordOp.run, BitVec.toNat_add])

/-- WSUB wraps modulo 65 536 (R341). -/
theorem WordOp.run_sub (a m : Word) : WordOp.sub.run a m = BitVec.ofInt 16 ((a.toNat : Int) - m.toNat) := by
  refine BitVec.eq_of_toNat_eq ?_
  rw [WordOp.run, BitVec.toNat_sub, BitVec.toNat_ofInt]
  omega

/-- What each compare asks of WACC and the word (Table RI-1). -/
def CmpOp.holds (o : CmpOp) (a m : Word) : Prop :=
  match o with
  | .eq => a = m | .ne => a ≠ m
  | .gt => m.toNat < a.toNat | .ge => m.toNat ≤ a.toNat
  | .lt => a.toNat < m.toNat | .le => a.toNat ≤ m.toNat
  | .sgt => m.toInt < a.toInt | .slt => a.toInt < m.toInt

theorem CmpOp.run_iff (o : CmpOp) (a m : Word) : o.run a m = true ↔ o.holds a m := by
  cases o
  case eq => exact beq_iff_eq
  case ne => exact bne_iff_ne
  all_goals exact decide_eq_true_iff

end Sys2Proof

namespace Sys2Proof.Machine

variable {s : State} {v : VoiceId} {w : BitVec 32} {op : BitVec 8} {a : Area} {i : Nat}

/-- GET to XORN: RLO becomes the operation of RLO and the addressed bit. -/
theorem bitOp_eq (o : BitOp) (ho : opOf w = op)
    (hi : operand w s.voices[v].xr s.voices[v].prog.k.length bitAreas = .ok (a, i))
    (h : s.executes v w (opCycles w (areaCycles a))) (hg : s.goesOn v (s.voices[v].pc + 1)) :
    s.bitOp v op o = .next (s.setVoice v (fun x =>
      { (x.spend (opCycles w (areaCycles a))).goTo (s.voices[v].pc + 1) with rlo := o.run x.rlo (s.readBit v a i) })) :=
  areaOp_reads (fun x => { x with rlo := o.run x.rlo (s.readBit v a i) }) ho hi h hg (fun _ => ⟨rfl, rfl, rfl, rfl⟩)
    (by rw [readBit_spend]; exact setVoice_setVoice s v _ (fun x => { x with rlo := o.run x.rlo (s.readBit v a i) }))

/-- WGET to WXOR: WACC becomes the operation of WACC and the addressed word. -/
theorem wordOp_eq (o : WordOp) (ho : opOf w = op)
    (hi : operand w s.voices[v].xr s.voices[v].prog.k.length wordAreas = .ok (a, i))
    (h : s.executes v w (opCycles w (areaCycles a))) (hg : s.goesOn v (s.voices[v].pc + 1)) :
    s.wordOp v op o = .next (s.setVoice v (fun x =>
      { (x.spend (opCycles w (areaCycles a))).goTo (s.voices[v].pc + 1) with wacc := o.run x.wacc (s.readWord v a i) })) :=
  areaOp_reads (fun x => { x with wacc := o.run x.wacc (s.readWord v a i) }) ho hi h hg (fun _ => ⟨rfl, rfl, rfl, rfl⟩)
    (by rw [readWord_spend]; exact setVoice_setVoice s v _ (fun x => { x with wacc := o.run x.wacc (s.readWord v a i) }))

/-- WEQ to WSLT: RLO becomes the compare of WACC with the addressed word. -/
theorem cmpOp_eq (o : CmpOp) (ho : opOf w = op)
    (hi : operand w s.voices[v].xr s.voices[v].prog.k.length wordAreas = .ok (a, i))
    (h : s.executes v w (opCycles w (areaCycles a))) (hg : s.goesOn v (s.voices[v].pc + 1)) :
    s.cmpOp v op o = .next (s.setVoice v (fun x =>
      { (x.spend (opCycles w (areaCycles a))).goTo (s.voices[v].pc + 1) with rlo := o.run x.wacc (s.readWord v a i) })) :=
  areaOp_reads (fun x => { x with rlo := o.run x.wacc (s.readWord v a i) }) ho hi h hg (fun _ => ⟨rfl, rfl, rfl, rfl⟩)
    (by rw [readWord_spend]; exact setVoice_setVoice s v _ (fun x => { x with rlo := o.run x.wacc (s.readWord v a i) }))

/-- Settles O28: each instruction has one of the shapes `bitOp`, `wordOp` and `cmpOp`, with its operation. -/
theorem refrainReadingInstructions : Obligations.RefrainReadingInstructions := by
  unfold Obligations.RefrainReadingInstructions
  intro s v w a i x n reads bit word cmp
  have hn : n = opCycles w (areaCycles a) := by rw [areaCycles_eq]; rfl
  have hbit (c : Instr) (op : BitVec 8) (o : BitOp) (he : exec c s = s.bitOp v op o) : bit c op o.run := by
    intro ho hi h hg
    rw [hn] at h ⊢
    exact he.trans (bitOp_eq o ho hi h hg)
  have hword (c : Instr) (op : BitVec 8) (o : WordOp) (f : Word → Word → Word) (hf : ∀ a m, o.run a m = f a m)
      (he : exec c s = s.wordOp v op o) : word c op f := by
    intro ho hi h hg
    rw [hn] at h ⊢
    rw [← hf]
    exact he.trans (wordOp_eq o ho hi h hg)
  have hcmp (c : Instr) (op : BitVec 8) (o : CmpOp) (he : exec c s = s.cmpOp v op o) : cmp c op o.holds := by
    intro r hr ho hi h hg
    have hrun : r = o.run x.wacc (s.readWord v a i) := Bool.eq_iff_iff.mpr (hr.trans (o.run_iff _ _).symm)
    rw [hn] at h ⊢
    rw [hrun]
    exact he.trans (cmpOp_eq o ho hi h hg)
  exact ⟨hbit _ _ .get rfl, hbit _ _ .getn rfl, hbit _ _ .and rfl, hbit _ _ .andn rfl, hbit _ _ .or rfl,
    hbit _ _ .orn rfl, hbit _ _ .xor rfl, hbit _ _ .xorn rfl,
    hword _ _ .get _ (fun _ _ => rfl) rfl, hword _ _ .add _ WordOp.run_add rfl, hword _ _ .sub _ WordOp.run_sub rfl,
    hword _ _ .and _ (fun _ _ => rfl) rfl, hword _ _ .or _ (fun _ _ => rfl) rfl, hword _ _ .xor _ (fun _ _ => rfl) rfl,
    hcmp _ _ .eq rfl, hcmp _ _ .ne rfl, hcmp _ _ .gt rfl, hcmp _ _ .ge rfl, hcmp _ _ .lt rfl, hcmp _ _ .le rfl,
    hcmp _ _ .sgt rfl, hcmp _ _ .slt rfl⟩

end Sys2Proof.Machine
end

section
/-! O27: the instructions without an operand from an area (R332, R333, R337, R338, R340, R348, R349). -/

namespace Sys2Proof.Machine

variable {s : State} {v : VoiceId} {w : BitVec 32} {op : BitVec 8} {n : Nat}

/-- RAISE in CODA, or with RLO = 0, does nothing (R348). -/
theorem raiseEv_none (code : BitVec 8) (h : s.voices[v].rlo = false ∨ s.voices[v].entry = some .coda) :
    s.raiseEv v code = s :=
  if_neg (by rcases h with h | h <;> simp_all)

/-- RAISE with RLO = 1 outside CODA queues its event (R348). -/
theorem raiseEv_some (code : BitVec 8) (hr : s.voices[v].rlo = true) (he : s.voices[v].entry ≠ some .coda) :
    s.raiseEv v code = s.setVoice v (fun x => { x with raised := addRaised x.raised code }) :=
  if_pos (Bool.and_eq_true_iff.mpr ⟨hr, bne_iff_ne.mpr he⟩)

/-- An event that is among the first four of its slot joins the others as it is (R348). -/
theorem addRaised_of_lt {l : List Raised} (h : l.length < 4) (code : BitVec 8) :
    addRaised l code = l ++ [{ code := code }] := if_pos h

/-- SNAP outside CODA writes nothing and clears RLO (R349). -/
theorem execSnap_outside_coda (hc : s.voices[v].entry ≠ some .coda) (ho : opOf w = 0x07) (h : s.executes v w 2)
    (hg : s.goesOn v (s.voices[v].pc + 1)) (fail : Option (Fin 256)) : execSnap v fail s =
      .next (s.setVoice v (fun x => { (x.spend 2).goTo (s.voices[v].pc + 1) with rlo := false })) := by
  have hsnap : (s.setVoice v (·.spend 2)).voices[v].entry ≠ some .coda := by
    rw [setVoice_voice]
    exact hc
  simp only [execSnap, fetchOp_eq h ho, charge_eq h]
  rw [if_neg (fun hn => hc hn.1), State.snapRec, if_neg (fun hn => hsnap hn.1), State.setRlo, setVoice_setVoice]
  exact congrArg Host.Outcome.next
    (onward_setVoice (fun x => { x.spend 2 with rlo := false }) hg fun _ => ⟨rfl, rfl, rfl, rfl⟩)

/-- Settles O27: each instruction has the shape `plainOp` or `jumpOp`, or is SNAP outside CODA. -/
theorem refrainRegisterInstructions : Obligations.RefrainRegisterInstructions := by
  unfold Obligations.RefrainRegisterInstructions
  intro s v w x goes here goal
  have hplain {c : Instr} {op : BitVec 8} {n : Nat} {f : BitVec 32 → State → State} (g : VoiceVol → VoiceVol)
      (he : exec c s = s.plainOp v op n f) (hk : KeepsCourse g) (hf : ∀ t, f w t = t.setVoice v g) :
      opOf w = op → s.executes v w n → s.goesOn v (x.pc + 1) →
        exec c s = .next (s.setVoice v (fun y => (g (y.spend n)).goTo (x.pc + 1))) := fun ho h hg =>
    he.trans (plainOp_eq h ho hg (g := g) ((hf _).trans (setVoice_setVoice ..)) hk)
  have hjump {c : Instr} {op : BitVec 8} (take : Bool → Bool) (he : exec c s = s.jumpOp v op take)
      (ht : take x.rlo = true) : goes c op 3 goal x := fun ho h hg => he.trans (jumpOp_eq h ho hg ht)
  have hpass {c : Instr} {op : BitVec 8} (take : Bool → Bool) (he : exec c s = s.jumpOp v op take)
      (hl : goal < x.prog.code.length) (ht : take x.rlo = false) : here c op 1 x := fun ho h hg =>
    he.trans (jumpOp_not h ho hl hg ht)
  have keeps : KeepsCourse id := fun _ => ⟨rfl, rfl, rfl, rfl⟩
  refine ⟨hplain id rfl keeps (fun t => (setVoice_id t v).symm), ?true, ?false, ?inv, ?wimm, ?w2x, ?x2w,
    fun fail hc ho h hg => execSnap_outside_coda hc ho h hg fail, ?raiseNone, ?raise,
    hjump (fun _ => true) rfl rfl, hjump (fun r => r) rfl, fun hr => hjump (fun r => !r) rfl (congrArg not hr),
    fun hl => ⟨hpass (fun r => r) rfl hl, fun hr => hpass (fun r => !r) rfl hl (congrArg not hr)⟩⟩
  case true => exact hplain (fun y => { y with rlo := true }) rfl (fun _ => ⟨rfl, rfl, rfl, rfl⟩) (fun _ => rfl)
  case false => exact hplain (fun y => { y with rlo := false }) rfl (fun _ => ⟨rfl, rfl, rfl, rfl⟩) (fun _ => rfl)
  case inv => exact hplain (fun y => { y with rlo := !y.rlo }) rfl (fun _ => ⟨rfl, rfl, rfl, rfl⟩) (fun _ => rfl)
  case wimm =>
    exact hplain (fun y => { y with wacc := w.extractLsb' 0 16 }) rfl (fun _ => ⟨rfl, rfl, rfl, rfl⟩) (fun _ => rfl)
  case w2x => exact hplain (fun y => { y with xr := y.wacc }) rfl (fun _ => ⟨rfl, rfl, rfl, rfl⟩) (fun _ => rfl)
  case x2w => exact hplain (fun y => { y with wacc := y.xr }) rfl (fun _ => ⟨rfl, rfl, rfl, rfl⟩) (fun _ => rfl)
  case raiseNone =>
    intro hr ho h hg
    refine plainOp_eq h ho hg (g := id) (raiseEv_none _ ?_) keeps
    rw [setVoice_voice]
    exact hr
  case raise =>
    intro hr he hl ho h hg
    have hadd : addRaised x.raised (w.extractLsb' 0 8) = x.raised ++ [{ code := w.extractLsb' 0 8 }] := addRaised_of_lt hl _
    rw [← hadd]
    refine plainOp_eq h ho hg (g := fun y => { y with raised := addRaised y.raised (w.extractLsb' 0 8) })
      ((raiseEv_some _ ?_ ?_).trans (setVoice_setVoice ..)) (fun _ => ⟨rfl, rfl, rfl, rfl⟩)
    · rw [setVoice_voice]
      exact hr
    · rw [setVoice_voice]
      exact he

end Sys2Proof.Machine
end

section
/-! O29: the instructions that write a bit or a word (R336, R337, R342). -/

namespace Sys2Proof

/-- The addressed bit takes the value and every other bit keeps its own. -/
theorem setBitAt_getLsbD {n : Nat} (v : BitVec n) (i : Nat) (x : Bool) {j : Nat} (hj : j < n) :
    (setBitAt v i x).getLsbD j = if j = i then x else v.getLsbD j := by
  have hmask : (BitVec.ofNat n (2 ^ i)).getLsbD j = decide (i = j) := by
    rw [BitVec.getLsbD_ofNat, decide_eq_true hj, Bool.true_and, Nat.testBit_two_pow]
  cases x
  case false =>
    show (v &&& ~~~BitVec.ofNat n (2 ^ i)).getLsbD j = _
    rw [BitVec.getLsbD_and, BitVec.getLsbD_not, hmask, decide_eq_true hj, Bool.true_and]
    by_cases hij : j = i <;> simp [hij, Ne.symm]
  case true =>
    show (v ||| BitVec.ofNat n (2 ^ i)).getLsbD j = _
    rw [BitVec.getLsbD_or, hmask]
    by_cases hij : j = i <;> simp [hij, Ne.symm]

/-- The addressed item takes its change and every other item keeps its value. -/
theorem vupd_get {α : Type} {n : Nat} (v : Vector α n) (i : Nat) (f : α → α) (j : Fin n) :
    (vupd v i f)[j] = if j.val = i then f v[j] else v[j] := by
  unfold vupd
  split
  · next h =>
    simp only [Fin.getElem_fin, Vector.getElem_set]
    by_cases hij : i = j.val
    · subst hij; simp
    · simp [hij, Ne.symm hij]
  · next h => rw [if_neg (fun hj : j.val = i => h (hj ▸ j.isLt))]

/-- PUT to UNLATCH on a Q bit of the working image that is, or is not, the voice's own. -/
def VoiceVol.putQ (x : VoiceVol) (o : PutOp) (own : Bool) (i : Nat) : VoiceVol :=
  { x with qw := if own = true then setBitAt x.qw i (o.run x.rlo (x.qw.getLsbD i)) else x.qw }

theorem VoiceVol.putQ_getLsbD (x : VoiceVol) (o : PutOp) {own : Bool} (i : Nat) {j : Nat} (hj : j < 1728) :
    (x.putQ o own i).qw.getLsbD j =
      if j = i ∧ own = true then o.run x.rlo (x.qw.getLsbD i) else x.qw.getLsbD j := by
  cases own
  case false => simp [VoiceVol.putQ]
  case true => simp [VoiceVol.putQ, setBitAt_getLsbD _ _ _ hj]

/-- A change of a voice's registers to RLO and the working image alone. -/
def WritesImage (g : VoiceVol → VoiceVol) : Prop := ∀ x, g x = { x with rlo := (g x).rlo, qw := (g x).qw }

theorem WritesImage.keepsCourse {g : VoiceVol → VoiceVol} (h : WritesImage g) : KeepsCourse g := by
  intro x
  rw [h x]
  exact ⟨rfl, rfl, rfl, rfl⟩

end Sys2Proof

namespace Sys2Proof.Machine

variable {s : State} {v : VoiceId} {w : BitVec 32} {op : BitVec 8} {a : Area} {i : Nat}

/-- PUT to UNLATCH on a Q bit: the working image takes the value where the bit is the voice's own (R309, R312, R336). -/
theorem putBit_q (s : State) (v : VoiceId) (i : Nat) (o : PutOp) :
    s.writeBit v .q i (o.run s.voices[v].rlo (s.readBit v .q i)) =
      s.setVoice v (fun x => x.putQ o (s.mayPutQ v i) i) := by
  by_cases h : s.mayPutQ v i = true
  · simp only [State.writeBit, State.readBit, h, if_true, Bool.true_and]
    rfl
  · rw [State.writeBit, if_neg h, eq_false_of_ne_true h]
    exact (setVoice_id s v).symm

/-- RISE and FALL: RLO becomes the edge of RLO against the E bit, which takes RLO as it was (R342). -/
theorem edgeBit_eq (s : State) (v : VoiceId) (i : Nat) (o : Bool → Bool → Bool) :
    (s.setRlo v (o s.voices[v].rlo (s.readBit v .e i))).writeBit v .e i s.voices[v].rlo =
      (s.setVRun v (fun y => { y with e := setBitAt y.e i s.voices[v].rlo })).setVoice v (fun x =>
        { x with rlo := o x.rlo ((s.c.voices[v]).e.getLsbD i) }) := rfl

/-- An instruction that writes what its voice retains by `r`, and RLO and the working image by `g`: its frame, and what
follows from the two. -/
theorem areaOp_writes {c : Instr} {l : List Area} {base : Area → Nat} {f : BitVec 32 → Area → Nat → State → State}
    {P : State → Prop} (r : VoiceRun → VoiceRun) (g : VoiceVol → VoiceVol) (he : exec c s = s.areaOp v op l base f)
    (ho : opOf w = op) (hi : operand w s.voices[v].xr s.voices[v].prog.k.length l = .ok (a, i))
    (h : s.executes v w (opCycles w (base a))) (hg : s.goesOn v (s.voices[v].pc + 1)) (hw : WritesImage g)
    (hf : f w a i (s.setVoice v (·.spend (opCycles w (base a)))) =
      (s.setVRun v r).setVoice v (fun x => g (x.spend (opCycles w (base a)))))
    (hp : ∀ t, t.voices[v] = (g (s.voices[v].spend (opCycles w (base a)))).goTo (s.voices[v].pc + 1) →
      t.c.voices[v] = r s.c.voices[v] → P t) :
    Answers c s (fun t => t = { s with voices := t.voices, c := { s.c with voices := t.c.voices } } ∧
      (∀ u : VoiceId, u ≠ v → t.voices[u] = s.voices[u] ∧ t.c.voices[u] = s.c.voices[u]) ∧
      t.voices[v] = { (s.voices[v].spend (opCycles w (base a))).goTo (s.voices[v].pc + 1) with
        rlo := t.voices[v].rlo, qw := t.voices[v].qw } ∧ P t) := by
  refine ⟨_, he.trans (areaOp_changes r g ho hi h hg hw.keepsCourse hf), rfl,
    fun u hu => ⟨upd_other _ _ _ _ hu, upd_other _ _ _ _ hu⟩, ?_, hp _ (setVoice_voice _) (setVRun_voice _)⟩
  rw [setVoice_voice]
  exact congrArg (VoiceVol.goTo · _) (hw _)

/-- Settles O29: each instruction has the shape `putOp` or `edgeOp`, or is WPUT; what becomes of the bits is
`setBitAt_getLsbD`. -/
theorem refrainWritingInstructions : Obligations.RefrainWritingInstructions := by
  unfold Obligations.RefrainWritingInstructions
  intro s v w a i x r ix writes puts edge
  have hwrites {l : List Area} {c : Instr} {op : BitVec 8} {n : Nat} {P : State → Prop} {base : Area → Nat}
      {f : BitVec 32 → Area → Nat → State → State} (r' : VoiceRun → VoiceRun) (g : VoiceVol → VoiceVol)
      (he : exec c s = s.areaOp v op l base f) (hn : base a = n) (hw : WritesImage g)
      (hf : f w a i (s.setVoice v (·.spend (n + ix))) = (s.setVRun v r').setVoice v (fun y => g (y.spend (n + ix))))
      (hp : ∀ t, t.voices[v] = (g (x.spend (n + ix))).goTo (x.pc + 1) → t.c.voices[v] = r' r → P t) :
      writes l c op n P := by
    intro ho hi h hg
    subst hn
    exact areaOp_writes r' g he ho hi h hg hw hf hp
  have hputs (c : Instr) (op : BitVec 8) (o : PutOp) (he : exec c s = s.putOp v op o) : puts c op o.run := by
    intro ho hi
    obtain ⟨ha, -⟩ := operand_ok hi
    obtain rfl | rfl : a = .q ∨ a = .m := by simpa using ha
    case inl =>
      refine hwrites id (fun y => y.putQ o (s.mayPutQ v i) i) he rfl (fun _ => rfl) ?_
        (fun t hvol hrun => ⟨?_, ?_, fun j hj => ?_, fun j hj => ?_⟩) ho hi
      · rw [setVRun_id]
        exact (putBit_q ..).trans (setVoice_setVoice ..)
      · rw [hvol]; rfl
      · rw [hrun]; rfl
      · rw [hrun]; rfl
      · rw [hvol]
        exact (x.putQ_getLsbD o i hj).trans (by simp)
    case inr =>
      refine hwrites (fun y => { y with m := setBitAt y.m i (o.run x.rlo (y.m.getLsbD i)) }) id he rfl (fun _ => rfl) ?_
        (fun t hvol hrun => ⟨?_, ?_, fun j hj => ?_, fun j hj => ?_⟩) ho hi
      · rw [setVoice_voice]; rfl
      · rw [hvol]; rfl
      · rw [hrun]
      · rw [hrun]
        simp [setBitAt_getLsbD _ _ _ hj, r]
      · rw [hvol]; simp [VoiceVol.goTo, VoiceVol.spend]
  have hedge (c : Instr) (op : BitVec 8) (o : Bool → Bool → Bool) (he : exec c s = s.edgeOp v op o) : edge c op o := by
    intro ho hi
    obtain rfl : a = .e := by simpa using (operand_ok hi).1
    refine hwrites (fun y => { y with e := setBitAt y.e i x.rlo }) (fun y => { y with rlo := o y.rlo (r.e.getLsbD i) })
      he rfl (fun _ => rfl) ?_ (fun t hvol hrun => ⟨?_, ?_, ?_, fun j hj => ?_⟩) ho hi
    · refine (edgeBit_eq ..).trans ?_
      rw [setVoice_voice]
      exact setVoice_setVoice (s.setVRun v _) v (·.spend (3 + ix)) (fun y => { y with rlo := o y.rlo (r.e.getLsbD i) })
    · rw [hvol]; rfl
    · rw [hvol]; rfl
    · rw [hrun]
    · rw [hrun]
      exact setBitAt_getLsbD _ _ _ hj
  have hwput : writes [.w] (.wput v) 0x42 2 (fun t => t.voices[v].rlo = x.rlo ∧ t.voices[v].qw = x.qw ∧
      t.c.voices[v] = { r with w := (t.c.voices[v]).w } ∧
      ∀ j : Fin 512, (t.c.voices[v]).w[j] = if j.val = i then x.wacc else r.w[j]) := by
    intro ho hi
    obtain rfl : a = .w := by simpa using (operand_ok hi).1
    refine hwrites (fun y => { y with w := vupd y.w i (fun _ => x.wacc) }) id rfl rfl (fun _ => rfl) ?_
      (fun t hvol hrun => ⟨?_, ?_, ?_, fun j => ?_⟩) ho hi
    · rw [setVoice_voice]; rfl
    · rw [hvol]; rfl
    · rw [hvol]; rfl
    · rw [hrun]
    · rw [hrun]
      exact vupd_get ..
  exact ⟨hputs _ _ .put rfl, hputs _ _ .putn rfl, hputs _ _ .latch rfl, hputs _ _ .unlatch rfl, 
    hedge _ _ (fun r e => r && !e) rfl, hedge _ _ (fun r e => e && !r) rfl, hwput⟩

end Sys2Proof.Machine
end

section
/-! O30: the branch stack, JOIN and FIN (R339, R350). -/

namespace Sys2Proof.Machine

variable {s : State} {v : VoiceId} {w : BitVec 32} {op : BitVec 8}

/-- A branch opcode below eight entries pushes RLO with its operation (R339). -/
theorem branchOp_push (o : BrOp) (ho : opOf w = op) (h : s.executes v w 2) (hg : s.goesOn v (s.voices[v].pc + 1))
    (hl : s.voices[v].stack.length ≠ 8) : s.branchOp v op o = .next (s.setVoice v (fun x =>
      { (x.spend 2).goTo (s.voices[v].pc + 1) with stack := (x.rlo, o) :: x.stack })) := by
  simp only [State.branchOp, fetchOp_eq h ho, charge_eq h]
  rw [if_neg hl, setVoice_setVoice]
  exact congrArg Host.Outcome.next
    (onward_setVoice (fun x => { x.spend 2 with stack := (x.rlo, o) :: x.stack }) hg fun _ => ⟨rfl, rfl, rfl, rfl⟩)

/-- The ninth push is an overflow (R339, R353). -/
theorem branchOp_full (o : BrOp) (ho : opOf w = op) (h : s.executes v w 2) (hl : s.voices[v].stack.length = 8) :
    s.branchOp v op o = .next (s.voiceFault v 4 s.voices[v].pc) := by
  simp only [State.branchOp, fetchOp_eq h ho]
  exact if_pos hl

/-- JOIN removes the top entry, and RLO becomes its operation on the two (R339). -/
theorem execXJoin_cons {r : Bool} {o : BrOp} {rest : List (Bool × BrOp)} (ho : opOf w = 0x06) (h : s.executes v w 2)
    (hg : s.goesOn v (s.voices[v].pc + 1)) (hs : s.voices[v].stack = (r, o) :: rest) :
    execXJoin v s = .next (s.setVoice v (fun x =>
      { (x.spend 2).goTo (s.voices[v].pc + 1) with rlo := o.run r x.rlo, stack := rest })) := by
  simp only [execXJoin, fetchOp_eq h ho, hs, charge_eq h]
  rw [setVoice_setVoice]
  exact congrArg Host.Outcome.next
    (onward_setVoice (fun x => { x.spend 2 with rlo := o.run r x.rlo, stack := rest }) hg fun _ => ⟨rfl, rfl, rfl, rfl⟩)

/-- A JOIN of an empty stack is an underflow (R339, R353). -/
theorem execXJoin_nil (ho : opOf w = 0x06) (h : s.executes v w 2) (hs : s.voices[v].stack = []) :
    execXJoin v s = .next (s.voiceFault v 4 s.voices[v].pc) := by
  simp only [execXJoin, fetchOp_eq h ho, hs]

/-- FIN takes its cycles and ends the entry (R350). -/
theorem execFin_eq (ho : opOf w = 0x02) (h : s.executes v w 2) :
    execFin v s = .next ((s.setVoice v (·.spend 2)).endEntry v) := by
  simp only [execFin, fetchOp_eq h ho, charge_eq h]
  rfl

/-- The end of MAIN leaves the voice idle (R350). -/
theorem endEntry_main (h : s.voices[v].entry = some .main) : s.endEntry v = s.setVoice v VoiceVol.quit := by
  simp only [State.endEntry, h]

/-- An entry starts at its first instruction where nothing stops the voice there (R333). -/
theorem startEntry_eq {pc : Nat} (e : Entry) (hl : pc < s.voices[v].prog.code.length)
    (hm : ∀ x, s.voices[v].memErr = some x → x.idx ≠ pc) (hb : s.brkAt v pc = none) :
    s.startEntry v e pc = s.setVoice v (fun x => x.enter e pc) := by
  have hg : (s.setVoice v (fun x => x.enter e pc)).goesOn v pc := by
    unfold State.goesOn
    rw [setVoice_voice]
    exact ⟨hl, hm, .inr hb⟩
  rw [State.startEntry, arrive_eq hg, setVoice_setVoice]
  rfl

/-- After DROP, MAIN runs from its first instruction (R303, R333, R350). -/
theorem endEntry_drop (h : s.voices[v].entry = some .drop) (hg : s.goesOn v s.voices[v].prog.main) :
    s.endEntry v = s.setVoice v (fun x => VoiceVol.enter { x with dropRan := true } .main s.voices[v].prog.main) := by
  obtain ⟨hl, hm, hb⟩ := hg
  have hdrop : ¬ s.voices[v].entry = some .coda := by rw [h]; decide
  simp only [State.endEntry, h]
  rw [startEntry_eq, setVoice_setVoice]
  · rwa [setVoice_voice]
  · rwa [setVoice_voice]
  · exact hb.resolve_left hdrop

/-- FIN in CODA ends CODA (R350). -/
theorem endEntry_coda (h : s.voices[v].entry = some .coda) : s.endEntry v = s.codaEnd (s.voices[v].cycles / 96) := by
  simp only [State.endEntry, h]

/-- The end of CODA leaves the committed state, the events and CODA's fault mark, with a record of SNAP or without
(R392). -/
theorem codaEnd_leaves (s : State) (us : Nat) : ((s.codaEnd us).voices[voiceSYS]).active = false ∧
    (s.codaEnd us).wd.coda = false ∧ (s.codaEnd us).wd.codaFlt = s.wd.codaFlt ∧ (s.codaEnd us).c = s.c ∧
    (s.codaEnd us).ctxs = s.ctxs := by
  have hquit : ((s.setVoice voiceSYS VoiceVol.quit).voices[voiceSYS]).active = false := by rw [setVoice_voice]; rfl
  unfold State.codaEnd
  dsimp only
  split <;> exact ⟨hquit, rfl, rfl, rfl, rfl⟩

/-- Settles O30: a branch opcode has the shape `branchOp`; FIN is `endEntry` of each entry after its two cycles. -/
theorem refrainBranchStack : Obligations.RefrainBranchStack := by
  unfold Obligations.RefrainBranchStack
  intro s v w x goes pair
  have hpair (c : Instr) (op : BitVec 8) (o : BrOp) (he : exec c s = s.branchOp v op o) : pair c op o o.run :=
    ⟨fun ho h hg hl => he.trans (branchOp_push o ho h hg (Nat.ne_of_lt hl)),
     fun ho h hl => he.trans (branchOp_full o ho h hl), fun ho h hg r rest hs => execXJoin_cons ho h hg hs⟩
  refine ⟨hpair _ _ .and rfl, hpair _ _ .andn rfl, hpair _ _ .or rfl, hpair _ _ .orn rfl, hpair _ _ .xor rfl,
    hpair _ _ .xorn rfl, fun ho h hs => execXJoin_nil ho h hs, fun ho h => ?fin⟩
  have hfin : exec (.fin v) s = .next ((s.setVoice v (·.spend 2)).endEntry v) := execFin_eq ho h
  have hspent : (s.setVoice v (·.spend 2)).voices[v] = x.spend 2 := setVoice_voice _
  refine ⟨fun he => ?main, fun he hg => ?drop, fun he hv => ?coda⟩
  case main =>
    exact hfin.trans (congrArg _ ((endEntry_main (hspent ▸ he)).trans (setVoice_setVoice ..)))
  case drop =>
    have hgo : (s.setVoice v (·.spend 2)).goesOn v ((s.setVoice v (·.spend 2)).voices[v]).prog.main := by
      rw [hspent]
      exact (goesOn_setVoice _ rfl rfl rfl).mpr hg
    have hdrop := (endEntry_drop (hspent ▸ he) hgo).trans (setVoice_setVoice ..)
    rw [hspent] at hdrop
    exact hfin.trans (congrArg _ hdrop)
  case coda =>
    subst hv
    rw [endEntry_coda (hspent ▸ he)] at hfin
    exact ⟨_, hfin, codaEnd_leaves ..⟩

end Sys2Proof.Machine
end

section
/-! O31: the soft timers and the counters (R343 to R345, R347). -/

namespace Sys2Proof

/-- An operand of the one allowed area, whose effective index is in range. -/
theorem operand_only {w : BitVec 32} {xr : Word} {klen i : Nat} {a : Area} (ha : areaOf (areaField w) = some a)
    (hi : effIndex a w xr = i) (hlt : i < a.size klen) : operand w xr klen [a] = .ok (a, i) := by
  simp [operand, ha, hi, hlt]

/-- A change at a place of the vector, found by its number. -/
theorem vupd_fin {α : Type} {n : Nat} (v : Vector α n) (i : Fin n) (f : α → α) : vupd v i.val f = v.set i (f v[i]) :=
  dif_pos i.isLt

/-- A timer that runs and has reached `goal` takes it as its count, stops, and has DN (R345); OUT is left to its
instruction. -/
def SoftTimer.dueAt (goal : Nat) (u : SoftTimer) : SoftTimer :=
  if u.run = true ∧ goal ≤ u.acc then { u with acc := goal, rest := 0, run := false, dn := true } else u

/-- The check of an instruction is that, apart from KIND and OUT (R344, R345). -/
theorem SoftTimer.check_kind (u : SoftTimer) (k : TKind) : ({ u with kind := k } : SoftTimer).check =
    { u.dueAt u.preset with kind := k, out := ({ u with kind := k } : SoftTimer).check.out } := by
  have hpre : ({ u with kind := k } : SoftTimer).preset = u.preset := rfl
  unfold SoftTimer.check SoftTimer.dueAt
  by_cases h : u.run = true ∧ u.preset ≤ u.acc
  · rw [if_pos h, if_pos (by simpa [hpre] using h)]
    rfl
  · rw [if_neg h, if_neg (by simpa [hpre] using h)]

/-- A checked timer whose OUT is DN, and one whose OUT is RUN (Table RI-3). -/
theorem SoftTimer.check_out_dn (u : SoftTimer) (k : TKind) (b : Bool) :
    let c := ({ u with kind := k } : SoftTimer).check
    ({ c with out := c.dn, inp := b } : SoftTimer) =
      { u.dueAt u.preset with kind := k, out := (u.dueAt u.preset).dn, inp := b } := by
  intro c
  rw [show c = _ from u.check_kind k]

theorem SoftTimer.check_out_run (u : SoftTimer) (k : TKind) (b : Bool) :
    let c := ({ u with kind := k } : SoftTimer).check
    ({ c with out := c.run, inp := b } : SoftTimer) =
      { u.dueAt u.preset with kind := k, out := (u.dueAt u.preset).run, inp := b } := by
  intro c
  rw [show c = _ from u.check_kind k]

/-- TON with RLO = 1 starts a timer that neither runs nor has DN (Table RI-3). -/
theorem TimOp.run_ton_true (q : SoftTimer) : TimOp.ton.run true q =
    let u := (if q.run = false ∧ q.dn = false then { q with acc := 0, rest := 0, run := true } else q).dueAt q.preset
    { u with kind := .ton, out := u.dn, inp := true } := by
  have hdue := SoftTimer.check_out_dn
    (if q.run = false ∧ q.dn = false then { q with acc := 0, rest := 0, run := true } else q) .ton true
  obtain ⟨pre, base, wall, acc, rest, run, dn, out, inp, kind⟩ := q
  cases run <;> cases dn <;> exact hdue

/-- TOF with RLO = 0 starts a timer whose input was 1. -/
theorem TimOp.run_tof_false (q : SoftTimer) : TimOp.tof.run false q =
    let u := (if q.inp = true then { q with acc := 0, rest := 0, run := true } else q).dueAt q.preset
    { u with kind := .tof, out := u.run, inp := false } := by
  have hdue := SoftTimer.check_out_run
    (if q.inp = true then { q with acc := 0, rest := 0, run := true } else q) .tof false
  obtain ⟨pre, base, wall, acc, rest, run, dn, out, inp, kind⟩ := q
  cases inp <;> exact hdue

/-- TP with RLO = 0 goes on with a timer. -/
theorem TimOp.run_tp_false (q : SoftTimer) : TimOp.tp.run false q =
    let u := q.dueAt q.preset
    { u with kind := .tp, out := u.run, inp := false } :=
  SoftTimer.check_out_run q .tp false

/-- TP with RLO = 1 starts a timer whose input was 0 and that does not run. -/
theorem TimOp.run_tp_true (q : SoftTimer) : TimOp.tp.run true q =
    let u := (if q.inp = false ∧ q.run = false then { q with acc := 0, rest := 0, dn := false, run := true }
      else q).dueAt q.preset
    { u with kind := .tp, out := u.run, inp := true } := by
  have hdue := SoftTimer.check_out_run
    (if q.inp = false ∧ q.run = false then { q with acc := 0, rest := 0, dn := false, run := true } else q) .tp true
  obtain ⟨pre, base, wall, acc, rest, run, dn, out, inp, kind⟩ := q
  cases inp <;> cases run <;> exact hdue

/-- TACC with RLO = 1 runs a timer without DN. -/
theorem TimOp.run_tacc_true (q : SoftTimer) : TimOp.tacc.run true q =
    let u := (if q.dn = false then { q with run := true } else q).dueAt q.preset
    { u with kind := .tacc, out := u.dn, inp := true } := by
  have hdue := SoftTimer.check_out_dn
    (if q.dn = false then { q with run := true } else q) .tacc true
  obtain ⟨pre, base, wall, acc, rest, run, dn, out, inp, kind⟩ := q
  cases dn <;> exact hdue

/-- A timer that runs and has reached its preset expires at the check (R345). -/
theorem SoftTimer.check_due {t : SoftTimer} (hr : t.run = true) (h : t.preset ≤ t.acc) : t.check = t.expire :=
  if_pos (by simp [hr, h])

/-- CUP with RLO = 1 counts on an edge of its own input, and stops at 0xFFFF (R347). -/
theorem Counter.up_true (c : Counter) : c.up true = { c with
    val := if c.uin = true then c.val else BitVec.ofNat 16 (min (c.val.toNat + 1) 65535), uin := true } := by
  have hval : (if (true && !c.uin && c.val != 0xFFFF) = true then c.val + 1 else c.val) =
      if c.uin = true then c.val else BitVec.ofNat 16 (min (c.val.toNat + 1) 65535) := by
    cases c.uin
    case true => rfl
    case false =>
      by_cases h : c.val = 0xFFFF
      · simp [h]
      · have hlt : c.val.toNat + 1 ≤ 65535 := by bv_omega
        simp only [bne_iff_ne.mpr h, Bool.not_false, Bool.and_self, if_true, Bool.false_eq_true, if_false,
          Nat.min_eq_left hlt]
        exact BitVec.eq_of_toNat_eq (by simp [BitVec.toNat_add])
  unfold Counter.up
  rw [hval]

/-- CDN with RLO = 1 counts on an edge of its own input, and stops at 0 (R347). -/
theorem Counter.down_true (c : Counter) : c.down true = { c with
    val := if c.din = true then c.val else BitVec.ofNat 16 (c.val.toNat - 1), din := true } := by
  have hval : (if (true && !c.din && c.val != 0) = true then c.val - 1 else c.val) =
      if c.din = true then c.val else BitVec.ofNat 16 (c.val.toNat - 1) := by
    cases c.din
    case true => rfl
    case false =>
      by_cases h : c.val = 0
      · simp [h]
      · simp only [bne_iff_ne.mpr h, Bool.not_false, Bool.and_self, if_true, Bool.false_eq_true, if_false]
        bv_omega
  unfold Counter.down
  rw [hval]

end Sys2Proof

namespace Sys2Proof.Machine

variable {s : State} {v : VoiceId} {w : BitVec 32} {op : BitVec 8} {a : Area} {i : Fin 128}

/-- An instruction whose effect changes what its voice retains alone. -/
theorem areaOp_retains {l : List Area} {base : Area → Nat} {f : BitVec 32 → Area → Nat → State → State} {n : Nat}
    (r : VoiceRun → VoiceRun) (ho : opOf w = op)
    (hi : operand w s.voices[v].xr s.voices[v].prog.k.length l = .ok (a, n)) (h : s.executes v w (opCycles w (base a)))
    (hg : s.goesOn v (s.voices[v].pc + 1))
    (hf : f w a n (s.setVoice v (·.spend (opCycles w (base a)))) =
      (s.setVRun v r).setVoice v (·.spend (opCycles w (base a)))) :
    s.areaOp v op l base f = .next { s with
      voices := s.voices.set v ((s.voices[v].spend (opCycles w (base a))).goTo (s.voices[v].pc + 1))
      c := { s.c with voices := s.c.voices.set v (r s.c.voices[v]) } } :=
  areaOp_changes r id ho hi h hg (fun _ => ⟨rfl, rfl, rfl, rfl⟩) hf

theorem setSoft_eq (s : State) (v : VoiceId) (i : Fin 128) (f : SoftTimer → SoftTimer) :
    s.setSoft v i.val f = s.setVRun v (fun y => { y with t := y.t.set i (f y.t[i]) }) := by
  simp only [State.setSoft, vupd_fin]

theorem setCounter_eq (s : State) (v : VoiceId) (i : Fin 128) (f : Counter → Counter) :
    s.setCounter v i.val f = s.setVRun v (fun y => { y with c := y.c.set i (f y.c[i]) }) := by
  simp only [State.setCounter, vupd_fin]

/-- SOFT_TIMER_EXPIRE at the refresh of the voice's slot (R345). -/
theorem execSoftTimerExpire_refreshing (h : s.refreshing v = true) : execSoftTimerExpire v i s =
    .next (s.setVRun v (fun r => { r with t := upd r.t i SoftTimer.check })) :=
  congrArg Host.Outcome.next (if_pos h)

/-- Settles O31: a timer instruction stores `TimOp.run` of its timer and a counter instruction what it does to its
counter; Table RI-3 and R347 are what those are for each RLO. -/
theorem refrainTimersAndCounters : Obligations.RefrainTimersAndCounters := by
  unfold Obligations.RefrainTimersAndCounters
  intro s v w i x r ix number does q goal tim cnt k
  have hdoes {a : Area} {c : Instr} {op : BitVec 8} {area : BitVec 4} {n : Nat} {base : Area → Nat}
      {f : BitVec 32 → Area → Nat → State → State} (r' : VoiceRun → VoiceRun) (ha : areaOf area = some a)
      (hx : number → effIndex a w x.xr = i.val) (hs : a.size x.prog.k.length = 128)
      (he : exec c s = s.areaOp v op [a] base f) (hn : base a = n)
      (hf : f w a i.val (s.setVoice v (·.spend (n + ix))) = (s.setVRun v r').setVoice v (·.spend (n + ix))) :
      does c op area n (r' r) := by
    intro ho hw hnum h hg
    subst hn hw
    have hi : operand w x.xr x.prog.k.length [a] = .ok (a, i.val) :=
      operand_only ha (hx hnum) (by rw [hs]; exact i.isLt)
    exact he.trans (areaOp_retains r' ho hi h hg hf)
  have htim {c : Instr} {op : BitVec 8} {n : Nat} {base : Area → Nat} {f : BitVec 32 → VoiceVol → SoftTimer → SoftTimer}
      (he : exec c s = s.areaOp v op [.t] base (fun w _ j s => s.setSoft v j (f w s.voices[v]))) (hn : base .t = n) :
      does c op 4 n { r with t := r.t.set i (f w (x.spend (n + ix)) q) } :=
    hdoes (fun y => { y with t := y.t.set i (f w (x.spend (n + ix)) y.t[i]) }) rfl (fun h => h.symm) rfl he hn
      (by rw [setSoft_eq, setVoice_voice]; rfl)
  have hcnt {c : Instr} {op : BitVec 8} {n : Nat} {f : VoiceVol → Counter → Counter}
      (he : exec c s = s.counterOp v op n f) : does c op 5 n { r with c := r.c.set i (f (x.spend (n + ix)) k) } :=
    hdoes (fun y => { y with c := y.c.set i (f (x.spend (n + ix)) y.c[i]) }) rfl (fun h => h.symm) rfl he rfl
      (by rw [setCounter_eq, setVoice_voice]; rfl)
  have hop {b : Bool} (hr : x.rlo = b) {c : Instr} {op : BitVec 8} {u : SoftTimer} (o : TimOp)
      (he : exec c s = s.softOp v op o) (hu : o.run b q = u) : tim c op u := by
    subst hr hu
    exact htim (f := fun _ y => o.run y.rlo) he rfl
  have hcount {c : Instr} {op : BitVec 8} {n : Nat} {u : Counter} (f : VoiceVol → Counter → Counter)
      (he : exec c s = s.counterOp v op n f) (hu : f (x.spend (n + ix)) k = u) : cnt c op n u := by
    subst hu
    exact hcnt he
  refine ⟨fun hr => ?low, fun hr => ?high, htim (f := fun w y t => t.setPre w y.wacc) rfl rfl,
    hcount (fun y c => { c with pre := y.wacc }) rfl rfl, ?expire⟩
  case low =>
    exact ⟨hop hr .ton rfl rfl, hop hr .tof rfl (TimOp.run_tof_false q), hop hr .tp rfl (TimOp.run_tp_false q),
      hop hr .tacc rfl rfl, hop hr .tclr rfl rfl, hcount (fun y c => c.up y.rlo) rfl (congrArg k.up hr),
      hcount (fun y c => c.down y.rlo) rfl (congrArg k.down hr),
      hcount (fun y c => if y.rlo then { c with val := 0 } else c) rfl (if_neg (Bool.eq_false_iff.mp hr))⟩
  case high =>
    exact ⟨hop hr .ton rfl (TimOp.run_ton_true q), hop hr .tof rfl rfl, hop hr .tp rfl (TimOp.run_tp_true q),
      hop hr .tacc rfl (TimOp.run_tacc_true q), hop hr .tclr rfl rfl,
      hcount (fun y c => c.up y.rlo) rfl ((congrArg k.up hr).trans k.up_true),
      hcount (fun y c => c.down y.rlo) rfl ((congrArg k.down hr).trans k.down_true),
      hcount (fun y c => if y.rlo then { c with val := 0 } else c) rfl (if_pos hr)⟩
  case expire =>
    rintro ⟨hslot, hact, hcyc, hrun, hle⟩ u
    have href : s.refreshing v = true := by
      simp only [State.refreshing, hslot, beq_self_eq_true, Bool.true_and, Bool.and_eq_true, beq_iff_eq]
      exact ⟨hact, hcyc⟩
    exact (execSoftTimerExpire_refreshing href).trans (congrArg (fun z => Host.Outcome.next { s with
      c := { s.c with voices := s.c.voices.set v { r with t := r.t.set i z } } }) (SoftTimer.check_due hrun hle))

end Sys2Proof.Machine
end

section
/-! O32: the instructions that fault, and the undefined opcodes (R330, R351 to R353). -/

namespace Sys2Proof

/-- The code of an area (Table RE-2). -/
def Area.code (a : Area) : Nat :=
  match a with
  | .i => 0 | .q => 1 | .m => 2 | .e => 3 | .t => 4 | .c => 5 | .w => 6 | .k => 7 | .b => 8 | .s => 9

theorem areaOf_eq_some {x : BitVec 4} {a : Area} : areaOf x = some a ↔ x.toNat = a.code := by
  cases a <;> revert x <;> decide

/-- An area field that codes none of the allowed areas fails the area check (R353). -/
theorem operand_area {w : BitVec 32} {l : List Area} (h : ∀ a ∈ l, (areaField w).toNat ≠ a.code) (xr : Word)
    (klen : Nat) : operand w xr klen l = .error 2 := by
  unfold operand
  split
  · rfl
  · next a ha =>
    have hl : l.contains a = false := by
      simpa using fun hm => h a hm (areaOf_eq_some.mp ha)
    rw [hl]
    rfl

/-- In an allowed area, an effective index that reaches its size fails the index check (R335, R353). -/
theorem operand_range {w : BitVec 32} {xr : Word} {klen : Nat} {l : List Area} {a : Area} (hc : (areaField w).toNat = a.code)
    (hl : a ∈ l) (hi : a.size klen ≤ effIndex a w xr) : operand w xr klen l = .error 3 := by
  simp [operand, areaOf_eq_some.mpr hc, hl, Nat.not_lt.mpr hi]

/-- The opcodes of Table RI-4. -/
def InTableRI4 (n : Nat) : Prop :=
  n = 0 ∨ (9 ≤ n ∧ n ≤ 0xF) ∨ n = 0x1E ∨ n = 0x1F ∨ (0x26 ≤ n ∧ n ≤ 0x2F) ∨ (0x33 ≤ n ∧ n ≤ 0x3F) ∨
    (0x52 ≤ n ∧ n ≤ 0x5F) ∨ n = 0x66 ∨ n = 0x67 ∨ 0x6C ≤ n

/-- They are the undefined ones (R352). -/
theorem opDefined_eq_false_iff {o : BitVec 8} : opDefined o = false ↔ InTableRI4 o.toNat := by
  unfold opDefined InTableRI4
  rw [decide_eq_false_iff_not]
  omega

/-- The first check of an install is the opcode (R351). -/
theorem installOk_undefined {w : BitVec 32} (h : opDefined (opOf w) = false) (len klen : Nat) (sys : Bool) :
    installOk w len klen sys = false := by
  simp only [installOk, h, Bool.false_and]

end Sys2Proof

namespace Sys2Proof.Machine

/-! ### The events of a fault -/

/-- The event that a posting makes in this measure (R576). -/
def State.event (s : State) (code a0 a1 : Nat) : Event :=
  ⟨BitVec.ofNat 16 code, BitVec.ofNat 16 a0, BitVec.ofNat 16 a1, s.c.mcount.setWidth 16⟩

/-- A posting changes the queues and SYS's log alone. -/
theorem postTo_frame (s : State) (c : CtxId) (code a0 a1 : Nat) : s.postTo c code a0 a1 =
    { s with ctxs := (s.postTo c code a0 a1).ctxs, sysLog := (s.postTo c code a0 a1).sysLog } := by
  unfold State.postTo
  split
  · rfl
  · dsimp only
    split <;> rfl

theorem postAlso_frame (s : State) (l : List Tenant) (code a0 a1 : Nat) : s.postAlso l code a0 a1 =
    { s with ctxs := (s.postAlso l code a0 a1).ctxs, sysLog := (s.postAlso l code a0 a1).sysLog } := by
  have hfold : ∀ t : State, t = { s with ctxs := t.ctxs, sysLog := t.sysLog } →
      l.foldl (fun t u => t.postTo (ctxOf u) code a0 a1) t = { s with
        ctxs := (l.foldl (fun t u => t.postTo (ctxOf u) code a0 a1) t).ctxs
        sysLog := (l.foldl (fun t u => t.postTo (ctxOf u) code a0 a1) t).sysLog } := by
    induction l with
    | nil => exact fun t ht => ht
    | cons u l ih =>
      intro t ht
      refine ih _ ((postTo_frame t ..).trans ?_)
      rw [ht]
  exact hfold _ (postTo_frame s ..)

/-- An event to SYS and to tenants reaches SYS. -/
theorem postAlso_sys (s : State) (l : List Tenant) (code a0 a1 : Nat) :
    ((s.postAlso l code a0 a1).ctxs)[ctxSYS] = (s.ctxs[ctxSYS]).push (s.event code a0 a1) := by
  refine (foldl_keeps (g := fun u : State => u.ctxs[ctxSYS]) l (fun u t _ => postTo_tenant_sys u t ..) _).trans ?_
  rw [post_eq]
  exact Vector.getElem_set_self ..

/-- An event to a tenant reaches it. -/
theorem postTo_tenant (s : State) (u : Tenant) (code a0 a1 : Nat) :
    ((s.postTo (ctxOf u) code a0 a1).ctxs)[ctxOf u] = (s.ctxs[ctxOf u]).push (s.event code a0 a1) := by
  have hlt := u.isLt
  have hdbg : ctxOf u ≠ ctxDbg := Fin.ne_of_val_ne (by show u.val ≠ 5; omega)
  have hsys : ctxOf u ≠ ctxSYS := Fin.ne_of_val_ne (by show u.val ≠ 4; omega)
  rw [State.postTo, if_neg hdbg, if_neg hsys]
  exact upd_same ..

/-- An event to SYS leaves a tenant's context. -/
theorem post_tenant (s : State) (u : Tenant) (code a0 a1 : Nat) :
    ((s.post code a0 a1).ctxs)[ctxOf u] = s.ctxs[ctxOf u] := by
  have hlt := u.isLt
  have hsys : ctxOf u ≠ ctxSYS := Fin.ne_of_val_ne (by show u.val ≠ 4; omega)
  exact upd_other s.ctxs ctxSYS (ctxOf u) (fun x => x.push (s.event code a0 a1)) hsys

/-- An event to SYS and to one tenant reaches the tenant. -/
theorem postAlso_tenant (s : State) (u : Tenant) (code a0 a1 : Nat) :
    ((s.postAlso [u] code a0 a1).ctxs)[ctxOf u] = (s.ctxs[ctxOf u]).push (s.event code a0 a1) := by
  refine (postTo_tenant (s.post code a0 a1) u code a0 a1).trans ?_
  rw [post_tenant, State.event, (aside_post s code a0 a1).c]
  rfl

/-! ### A fault outside CODA -/

/-- A voice that has faulted, before the event (R330). -/
def State.markFault (s : State) (v : VoiceId) (cause : FaultCause) (idx : Nat) : State :=
  (s.setVRun v (fun r => { r with state := .fault, lastflt := cause, fltidx := BitVec.ofNat 20 idx })).setVoice v
    (fun x => { x.quit with faulted := true })

variable {s : State} {v : VoiceId} {w : BitVec 32} {op : BitVec 8}

/-- A fault outside CODA posts its event to SYS and to the voice's tenant (R330). -/
theorem voiceFault_eq (he : s.voices[v].entry ≠ some .coda) (cause : FaultCause) (idx : Nat) : s.voiceFault v cause idx =
    (s.markFault v cause idx).postAlso (voiceTenant v).toList 0x2001 v.val cause.toNat := by
  rw [State.voiceFault, if_neg he]
  cases voiceTenant v <;> rfl

/-- A fetch does not depend on whether the cycles of the instruction fit. -/
theorem fetchOp_some (hr : s.runs v = true) (hc : s.voices[v].prog.code[s.voices[v].pc]? = some w) (ho : opOf w = op) :
    s.fetchOp v op = some w := by
  simp only [State.fetchOp, hr, hc, if_true, ho]

/-- A jump beyond the program faults (R340, R353). -/
theorem jumpOp_fault (hr : s.runs v = true) (hc : s.voices[v].prog.code[s.voices[v].pc]? = some w) (ho : opOf w = op)
    (take : Bool → Bool) (hl : s.voices[v].prog.code.length ≤ (idxField w).toNat) :
    s.jumpOp v op take = .next (s.voiceFault v 3 s.voices[v].pc) := by
  simp only [State.jumpOp, fetchOp_some hr hc ho]
  exact if_pos hl

/-- An undefined opcode faults where it is fetched (R352). -/
theorem execUndefinedOpcode_undefined (hr : s.runs v = true)
    (hc : s.voices[v].prog.code[s.voices[v].pc]? = some w) (h : opDefined (opOf w) = false) :
    execUndefinedOpcode v s = .next (s.voiceFault v 1 s.voices[v].pc) := by
  simp only [execUndefinedOpcode, hr, hc, h, if_true, Bool.false_eq_true, if_false]

/-- Settles O32: each failed check is an operand that `operand` refuses, a target beyond the program or an undefined
opcode, and what a fault does is `voiceFault_eq`. -/
theorem refrainFaultingInstructions : Obligations.RefrainFaultingInstructions := by
  unfold Obligations.RefrainFaultingInstructions
  intro s v w len klen sys x n undef faults area base
  refine ⟨fun h => installOk_undefined (opDefined_eq_false_iff.mpr h) .., fun hr hc _ h =>
    execUndefinedOpcode_undefined hr hc (opDefined_eq_false_iff.mpr h), fun hr hc he => ?_⟩
  have hfault {c : Instr} {cause : FaultCause} (hx : exec c s = .next (s.voiceFault v cause x.pc)) : faults c cause := by
    have hq := voiceFault_eq he cause x.pc
    have hcause : BitVec.ofNat 16 cause.toNat = cause.setWidth 16 := BitVec.ofNat_toNat ..
    refine ⟨_, hx, ?frame, ?run, ?vol, ?sys, fun u hu => ?tenant⟩
    case frame => rw [hq, postAlso_frame]; rfl
    case run => rw [hq, postAlso_frame]; rfl
    case vol => rw [hq, postAlso_frame]; rfl
    case sys =>
      rw [hq, postAlso_sys, ← hcause]; rfl
    case tenant =>
      rw [hq, hu, ← hcause]
      exact postAlso_tenant ..
  have harea {c : Instr} {op : BitVec 8} {l : List Area} {b : Area → Nat} {f : BitVec 32 → Area → Nat → State → State}
      {cause : FaultCause} (hx : exec c s = s.areaOp v op l b f) (ho : n = op.toNat)
      (hi : operand w x.xr x.prog.k.length l = .error cause) : faults c cause :=
    hfault (hx.trans (areaOp_fault hr hc (BitVec.eq_of_toNat_eq ho) hi))
  have hrange {c : Instr} {op : BitVec 8} {l : List Area} {b : Area → Nat} {f : BitVec 32 → Area → Nat → State → State}
      (a : Area) (hx : exec c s = s.areaOp v op l b f) (ho : n = op.toNat) (hl : a ∈ l) (hcode : area = a.code)
      (hi : a.size x.prog.k.length ≤ effIndex a w x.xr) : faults c 3 :=
    harea hx ho (operand_range hcode hl hi)
  have hreads : ∀ a ∈ bitAreas, a.code ≤ 5 := by decide
  have hputs : ∀ a ∈ putAreas, a.code = 1 ∨ a.code = 2 := by decide
  refine ⟨fun h => hfault (execUndefinedOpcode_undefined hr hc (opDefined_eq_false_iff.mpr h)),
    fun hn h => harea rfl hn (operand_area (fun a ha (e : area = a.code) => ?get) ..),
    fun hn h => harea rfl hn (operand_area (fun a ha (e : area = a.code) => ?put) ..),
    fun hn h => harea rfl hn (operand_area (fun a ha (e : area = a.code) => ?wput) ..),
    ?getRange, ?wgetRange, fun hn h hi => hrange .t rfl hn (by decide) h hi,
    fun hn hl => hfault (jumpOp_fault hr hc (BitVec.eq_of_toNat_eq (y := 0x30) hn) (fun _ => true) hl)⟩
  case get =>
    have := hreads a ha
    omega
  case put =>
    have := hputs a ha
    omega
  case wput =>
    obtain rfl := List.mem_singleton.mp ha
    exact h e
  case getRange =>
    rintro hn (⟨h, hi⟩ | ⟨h, hi⟩ | ⟨h, hi⟩ | ⟨h, hi⟩)
    · exact hrange .i rfl hn (by decide) h hi
    · exact hrange .q rfl hn (by decide) h hi
    · exact hrange .m rfl hn (by decide) h hi
    · exact hrange .e rfl hn (by decide) h hi
  case wgetRange =>
    rintro hn (⟨h, hi⟩ | ⟨h, hi⟩ | ⟨h, hi⟩ | ⟨h, hi⟩)
    · exact hrange .w rfl hn (by decide) h hi
    · exact hrange .k rfl hn (by decide) h hi
    · exact hrange .b rfl hn (by decide) h hi
    · exact hrange .s rfl hn (by decide) h hi

end Sys2Proof.Machine
end
